-- ==== Sys2Proof/Word.lean ====
section
/-! DEFINITION. The word types of the spec and their plainest arithmetic. -/
namespace Sys2Proof

/-- A register, bank or snapshot word (00_scope.md, R3). -/
abbrev Word := BitVec 32
/-- One byte of host memory or of a frame. -/
abbrev Byte := BitVec 8
/-- A payload block of a lane, or a 64-bit count or digest. -/
abbrev Block := BitVec 64
/-- A sparse map of words keyed by a byte offset or an index: a list in one canonical form (see
`Machine.WMap`), what is not listed reading as the map's own default. -/
abbrev WMap := List (Nat × Word)

end Sys2Proof
end

