-- ==== Sys2Proof/Syntax.lean ====
section
/-! DEFINITION. The commands of the block: one constructor of `Instr` for each row of
spec/opcode_table.json, with the row's operands, and the data types of those operands. -/
namespace Sys2Proof

/-- The two halves of the package (R28). -/
inductive HalfId where
  | a | b
  deriving DecidableEq, Repr, Inhabited

/-- The other half. -/
def HalfId.other : HalfId → HalfId
  | .a => .b
  | .b => .a

/-- The half's number in fields that name a half: 0 A, 1 B. -/
def HalfId.bit : HalfId → Nat
  | .a => 0
  | .b => 1

/-- What every command says: the half it comes to and the instant at which it happens, in units of
12.5 ps of the package's own time (DESIGN CHOICE, log entry 1). -/
structure Evt where
  half : HalfId
  time : Nat
  deriving DecidableEq, Repr, Inhabited

/-- An event, and the instant since which what causes it has stood. -/
structure Since extends Evt where
  since : Nat
  deriving DecidableEq, Repr, Inhabited

/-- An event at which a level or a current is read. -/
structure Reading extends Evt where
  value : Nat
  deriving DecidableEq, Repr, Inhabited

/-- An event at which a level or a current is read, and the instant since which it has been so. -/
structure Level extends Reading where
  since : Nat
  deriving DecidableEq, Repr, Inhabited

/-- The remote and the local sense of the core supply in µV, and the instant since which they have been so. -/
structure Sense extends Since where
  vr : Nat
  vl : Nat
  deriving DecidableEq, Repr, Inhabited

/-- DISPATCH, and how many of Ox's residue checks have failed in the cycle; PASS_COMPLETE, and how many of the loop engine's
have failed in the pass (log entry 102). -/
structure Checked extends Evt where
  residue : Nat
  deriving DecidableEq, Repr, Inhabited

/-- What ends a transmission (R417, ISO 11898-1): no acknowledgement, and no dominant bit while the error flag is sent; during
arbitration a stuff bit sent recessive and read dominant; any other error. -/
inductive TxErr where
  | ack | stuff | other
  deriving DecidableEq, Repr, Inhabited

/-- An attempt to send that fails. -/
structure TxFailure extends Evt where
  err : TxErr
  deriving DecidableEq, Repr, Inhabited

/-- An edge of a ball: rising or falling. -/
structure Edge extends Evt where
  rising : Bool
  deriving DecidableEq, Repr, Inhabited

abbrev RingNo := Fin 12
abbrev CtxNo := Fin 144
abbrev ChNo := Fin 24
abbrev PairNo := Fin 12
abbrev TripNo := Fin 16
/-- Position p of a ring, held as p − 1, counted from Half A's side (R69). -/
abbrev PosNo := Fin 16
abbrev PortNo := Fin 2
abbrev PllNo := Fin 6

/-- The units that a fence takes out of service (R261, R267). -/
inductive FUnit where
  | none
  | ctx (c : Nat)
  | ring (k : Nat)
  | conv (h : HalfId) (n : Nat)
  | pairs (mask : BitVec 13)
  | eth (p : Nat)
  | can (i : Nat)
  | half (h : HalfId)
  deriving DecidableEq, Repr, Inhabited

/-- The content of an event record (R266). -/
structure EvRec where
  source : Nat
  sev : Nat
  half : HalfId
  shared : Bool
  deg : BitVec 2
  arg : Nat
  value : Word
  cycle : Word
  time : BitVec 64
  deriving DecidableEq, Repr, Inhabited

/-- A collection slot's fields but for TYPE, CYCLE and CRC (R145). -/
structure SlotRec where
  ring : RingNo
  pos : PosNo
  nstate : BitVec 4
  temp : BitVec 8
  flags : BitVec 12
  vdc : BitVec 16
  icell : BitVec 16
  idab : BitVec 16
  isw : BitVec 16
  deriving DecidableEq, Repr, Inhabited

/-- A service frame as decoded: SVC_START, the data blocks, SVC_END (R84). -/
structure SvcFrame where
  start : Block
  data : List Block
  fin : Block
  deriving DecidableEq, Repr, Inhabited

/-- Status of a cycle digest (R302). -/
inductive DigStatus where
  | normal | abstained | residue
  deriving DecidableEq, Repr, Inhabited

/-- A HEARTBEAT's content (R289). -/
structure Heartbeat where
  role : Nat
  dev : Nat
  cycle : BitVec 16
  throttle : Nat
  planned : Bool
  hcycle : BitVec 16
  leaving : Bool
  verdict : BitVec 4
  fences : Nat
  clean : Nat
  deriving DecidableEq, Repr, Inhabited

/-- A SNAPSHOT message: the header (words 0 to 4 and 608 to 612, throttle level) or the digest (R286). -/
inductive SnapMsg where
  | header (cycle : BitVec 64) (commits w3 nCmd : Word) (fences : List Word) (throttle : Nat)
  | digest (d : BitVec 64)
  deriving DecidableEq, Repr, Inhabited

/-- A trigger of the recorder (R470): its kind and the bytes of the record header (R475). -/
inductive RcdCause where
  | source (s : Nat) | signal (s : Nat) | goose (p : Nat) | command
  deriving DecidableEq, Repr, Inhabited

/-- A RELAY message's content (R286, R471). -/
inductive RelayMsg where
  | wrap (k : RingNo) (pos : Nat) (sideB : Bool)
  | svc (k : RingNo) (f : SvcFrame)
  | record (r : EvRec)
  | fence (u : FUnit)
  /-- a stage trip: stages, whether it is a Gust whole-stage trip, the source and the cycle of the raise -/
  | trip (mv lv gust : Bool) (src : BitVec 8) (cycle : Word)
  | hold (clusters : BitVec 3) (trips : BitVec 16) (stage : Bool)
  | holdRelease (clusters : BitVec 3)
  /-- DELAY_SRC, spans and cut-throughs in use from a cycle on (R57) -/
  | hops (k : RingNo) (cycle : BitVec 64) (src : Fin 4) (spans cuts : List Nat)
  | loop (k : RingNo) (tenths : Nat)
  | clear (pairs : BitVec 13) (convs : BitVec 24)
  | degClear (mv lv : Bool)
  /-- marks of a raise that one of the same clock overrules (R263, R270) -/
  | degBack (mv lv : Bool)
  | degrade (mv lv : Bool)
  /-- the step of the first lock out of FREE: its cycle K and Δ in ns (R377) -/
  | timeStep (cycle : Nat) (delta : Int)
  | trigger (c : RcdCause)
  | recOpen (num : Nat) (cycle : BitVec 64)
  /-- the outcome of a dispute settled at the SEAL of a cycle: the half whose converter lost, if any (R127) -/
  | dispute (cycle : Word) (n : ChNo) (lost : Option HalfId)
  deriving DecidableEq, Repr, Inhabited

/-- The parts of the state that STATE_XFER carries (R297, R298): the slow state; of the fast state, Ox's part, which leaves
at DISPATCH, and the Loop Table's, which is complete after the pass. -/
inductive XferPart where
  | slow | ox | lt
  deriving DecidableEq, Repr, Inhabited

/-- A chunk of a STATE_XFER (R286, R297): its part, its offset and length in bytes, whether it is the last of its part. -/
structure Chunk where
  part : XferPart
  offset : Nat
  len : Fin 129
  last : Bool
  deriving DecidableEq, Repr, Inhabited

/-- A 64-byte command descriptor as sixteen little-endian words (R2, R328). -/
abbrev Desc := Vector Word 16

/-- The kinds of ring (R357). -/
inductive RingKind where
  | cr | cq | sr | ev
  deriving DecidableEq, Repr, Inhabited

/-- A Sync message (R388). `corr` is in units of 2⁻¹⁶ ns, `origin` in ns. -/
structure SyncMsg where
  source : BitVec 80
  domain : Nat
  seq : BitVec 16
  twoStep : Bool
  corr : Int
  origin : Int
  deriving DecidableEq, Repr, Inhabited

/-- An Announce message (R387). -/
structure AnnounceMsg where
  source : BitVec 80
  domain : Nat
  ptpTimescale : Bool
  gm : BitVec 64
  prio1 : Nat
  cls : Nat
  acc : Nat
  var : Nat
  prio2 : Nat
  steps : Nat
  logInt : Int
  utc : BitVec 16
  utcValid : Bool
  leap61 : Bool
  leap59 : Bool
  deriving DecidableEq, Repr, Inhabited

/-- What a received frame is, for forwarding (R392). -/
inductive FrameKind where
  | ptpEvent | ptpGeneral | pdelay | delayReqResp | goose | supervision | sampled | other
  deriving DecidableEq, Repr, Inhabited

structure EthFrame where
  dst : BitVec 48
  src : BitVec 48
  kind : FrameKind
  fcsOk : Bool
  body : List Byte
  deriving DecidableEq, Repr, Inhabited

/-- The redundancy control trailer of PRP (R408). -/
structure PrpTrailer where
  seq : BitVec 16
  lan : BitVec 4
  /-- LSDUsize, and the suffix, 0x88FB in a valid trailer -/
  size : BitVec 12
  suffix : BitVec 16
  deriving DecidableEq, Repr, Inhabited

/-- One element of a GOOSE frame's allData (R406). -/
inductive GooseVal where
  | bool (b : Bool)
  | bits (l : List Bool)
  | other
  deriving DecidableEq, Repr, Inhabited

structure GooseFrame where
  src : BitVec 48
  prp : Option PrpTrailer
  appid : BitVec 16
  gocbRef : List Byte
  sim : Bool
  ndsCom : Bool
  confRev : Word
  stNum : Word
  sqNum : Word
  tal : Nat
  data : List GooseVal
  deriving DecidableEq, Repr, Inhabited

/-- A CAN frame (R428), and the instant of its start-of-frame bit. An 11-bit identifier stands in bits 28:18. -/
structure CanFrame where
  id : BitVec 29
  ide : Bool
  fdf : Bool
  brs : Bool
  esi : Bool
  rtr : Bool
  dlc : BitVec 4
  data : List Byte
  sof : Nat
  deriving DecidableEq, Repr, Inhabited

/-- An image as it stands in memory: the bytes of its 512-byte header, and those that follow (chapter 16, R484). -/
structure Image where
  head : List Byte
  payload : List Byte
  deriving DecidableEq, Repr, Inhabited

/-- What the flash holds at boot (R485): the active slots, their TRIAL marks and the four images. -/
structure Flash where
  fwActive : Bool
  cfgActive : Bool
  fwTrial : Bool
  cfgTrial : Bool
  fw0 : Image
  fw1 : Image
  cfg0 : Image
  cfg1 : Image
  deriving DecidableEq, Repr, Inhabited

/-- An access through a BAR as the spec flags it (R526): BAR, offset, write, first byte enables, and the number of
doublewords that the request asks for. -/
structure Access where
  bar : Nat
  offset : Nat
  write : Bool
  be : BitVec 4
  dwords : Nat
  deriving DecidableEq, Repr, Inhabited

/-- What the internal channels' conversions may report (R135). -/
inductive RailId where
  | lull | core | lane | laneh | ddq | ana | io
  deriving DecidableEq, Repr, Inhabited

/-- What a port does with a frame it does not take in (R381, R382); one without an error with its source and its PRP trailer. -/
inductive DiscardWhy where
  | fcs
  | oversize (src : BitVec 48) (prp : Option PrpTrailer)
  | notTaken (src : BitVec 48) (prp : Option PrpTrailer)
  deriving DecidableEq, Repr, Inhabited

/-- The commands: one constructor for each row of the table, in the table's order. -/
inductive Instr where
  | t0 (e : Evt)
  | snapshotSend (e : Evt)
  | slotMapDeadline (e : Evt) (k : RingNo)
  | seal (e : Evt)
  | disputeOpen (e : Evt) (n : ChNo)
  | cellDabSat (e : Evt) (c : CtxNo)
  | cellIsenseDev (e : Evt) (c : CtxNo)
  | cellCapAgeing (e : Evt) (c : CtxNo) (ind : Bool)
  | oxPrechargeTimeout (e : Evt)
  | dispatch (e : Checked)
  | passComplete (e : Checked)
  | commandTrain (e : Evt)
  | applyInstant (e : Evt)
  | collGo (e : Evt) (k : RingNo)
  | collSlot (e : Evt) (k : RingNo) (ctl data : Block) (follows tail : Bool)
  | wrap (e : Evt) (k : RingNo) (blk : Block)
  | markerSend (e : Evt) (k : RingNo)
  | marker (e : Evt) (k : RingNo) (m0 m1 : Block) (follows : Bool)
  | signalDetect (e : Evt) (k : RingNo)
  | ctleSelect (e : Evt) (k : RingNo) (eyes : List Nat)
  | blockLock (e : Evt) (k : RingNo)
  | markerLoss (e : Evt) (k : RingNo)
  | laneDown (e : Evt) (k : RingNo) (los : Bool) (badHeaders : Nat)
  | dfeUpdate (e : Evt) (k : RingNo) (err : Int) (decisions : List Int)
  | readaptationEnd (e : Evt) (k : RingNo)
  | berWindow (e : Evt) (k : RingNo) (invalid : Nat)
  | enumQuery (e : Evt) (k : RingNo) (p : PosNo)
  | grant (e : Evt) (k : RingNo) (p : PosNo)
  | timeSet (e : Evt) (k : RingNo) (p : PosNo)
  | autoUnwrap (e : Evt) (k : RingNo)
  | svcResend (e : Evt) (k : RingNo) (p : PosNo)
  | enumReply (e : Evt) (k : RingNo) (f : SvcFrame)
  | ack (e : Evt) (k : RingNo) (f : SvcFrame)
  | wave (e : Evt) (k : RingNo) (f : SvcFrame)
  | nodeEvent (e : Evt) (k : RingNo) (f : SvcFrame)
  | nodeLost (e : Evt) (k : RingNo) (p : PosNo)
  | bindingAbandoned (e : Evt) (k : RingNo) (p : PosNo)
  | gustBlock (e : Evt)
  | anWordsSend (e : Evt) (bits : List (List Bool)) (ovl : BitVec 24)
  | anWord (e : Evt) (n : ChNo) (bits : List Bool) (ovl : Bool)
  | anSeqTrig (e : Evt) (v : Word)
  | anSeqPeriod (e : Evt)
  | anConversion (e : Evt) (result : Int)
  | thermSeqRequest (e : Evt)
  | sensorTimeout (e : Evt)
  | lullComparator (e : Evt)
  | reload (e : Evt) (n : PairNo)
  | forcePulseEnd (e : Evt) (n : Fin 13)
  | tripCrossing (e : Evt) (n : TripNo) (hard : Bool) (uv : Nat)
  | blankEnd (e : Evt) (n : TripNo)
  | tripLatch (e : Evt) (n : TripNo) (hard : Bool)
  | tripRelease (e : Evt) (n : TripNo) (hard : Bool)
  | fltLatch (e : Since) (n : PairNo)
  | lvPrechargeComplete (e : Evt)
  | lvPrechargeTimeout (e : Evt)
  | eventRecordWrite (e : Evt)
  | fenceEffect (e : Evt) (u : FUnit)
  | sdClear (e : Evt) (v : Word)
  | degMv (e : Evt)
  | degLv (e : Evt)
  | heartbeatSend (e : Evt)
  | heartbeat (e : Evt) (m : Heartbeat)
  | heartbeatLost (e : Evt)
  | otherLost (e : Evt)
  | roleLineDrop (e : Evt)
  | roleConflict (e : Evt)
  | fenceLine (e : Evt)
  | ownershipGrant (e : Evt)
  | noActiveHeartbeat (e : Evt)
  | standbyEntry (e : Evt)
  | snapshot (e : Evt) (m : SnapMsg)
  | slotMap (e : Evt) (k : RingNo) (mask : BitVec 16)
  | slotRec (e : Evt) (rs : List SlotRec)
  | anWords (e : Evt) (words : List (BitVec 24 × BitVec 7))
  | digest (e : Evt) (cycle : BitVec 16) (st : DigStatus) (d : BitVec 64)
  | digestDeadline (e : Evt)
  | ganderBlind (e : Evt)
  /-- whether the loop engine's residue count rose in the 17 cycles, and the bits that the bank memory gives wrong, if any: the
  offset of a word of the live bank and its wrong bits (R304) -/
  | selfCheck (e : Evt) (loopResidue : Bool) (upset : Option (Nat × Word))
  | activeSelfCheckFail (e : Evt)
  | cmdReplica (e : Evt) (ring : Fin 8) (seq cycle : BitVec 64) (d : Desc)
  | replicaDescriptorRead (e : Evt) (ring : Fin 8) (seq : BitVec 64) (d : Desc)
  | replicaAck (e : Evt) (ring : Fin 8) (seq : BitVec 64)
  | replicaResend (e : Evt)
  | replicaTimeout (e : Evt)
  | relay (e : Evt) (m : RelayMsg)
  /-- one chunk, the install cycle and the sender's major version -/
  | stateXfer (e : Evt) (c : Chunk) (install : BitVec 64) (major : Nat)
  | timeAlignSend (e : Evt)
  | timeAlign (e : Evt) (t1 t2 t3 t4 : Int) (adj : Int)
  /-- the receive lanes that are up -/
  | tetherLane (e : Evt) (up : BitVec 2)
  | revert (e : Evt)
  | leave (e : Evt) (v : Word)
  | leaveOff (e : Evt)
  | restart (e : Evt) (v : Word)
  | clrHist (e : Evt) (v : Word)
  | crTail (e : Evt) (r : Fin 8) (v : Word)
  | cqHead (e : Evt) (q : Fin 8) (v : Word)
  | srTail (e : Evt) (s : Fin 8) (v : Word)
  | evHead (e : Evt) (v : Word)
  | cmdNop (e : Evt) (r : Fin 8) (d : Desc)
  | cmdSetReference (e : Evt) (r : Fin 8) (d : Desc)
  | cmdWritePending (e : Evt) (r : Fin 8) (d : Desc)
  | cmdCommit (e : Evt) (r : Fin 8) (d : Desc)
  | cmdCellBypass (e : Evt) (r : Fin 8) (d : Desc)
  | cmdCellRestore (e : Evt) (r : Fin 8) (d : Desc)
  | cmdRingControl (e : Evt) (r : Fin 8) (d : Desc)
  | cmdPwmForce (e : Evt) (r : Fin 8) (d : Desc)
  | cmdRecorder (e : Evt) (r : Fin 8) (d : Desc)
  | cmdSvControl (e : Evt) (r : Fin 8) (d : Desc)
  | cmdTimeStepAuthorise (e : Evt) (r : Fin 8) (d : Desc)
  | cmdRole (e : Evt) (r : Fin 8) (d : Desc)
  /-- `vendor` and `model`: the bytes of these fields of the image header, lower address first, that the half reads at ADDR
  for IMAGE 2 (R2, R492) -/
  | cmdUpdateStage (e : Evt) (r : Fin 8) (d : Desc) (vendor model : Byte × Byte)
  | cmdUpdateActivate (e : Evt) (r : Fin 8) (d : Desc)
  | cmdReadState (e : Evt) (r : Fin 8) (d : Desc)
  | unknownOpcode (e : Evt) (r : Fin 8) (d : Desc)
  | completionRecord (e : Evt) (q : Fin 8)
  | moderationEnd (e : Evt) (q : Fin 8)
  | streamWriteBack (e : Evt) (s : Fin 8) (entry : Desc)
  | flush (e : Evt) (s : Fin 8) (entry : Desc)
  | readBack (e : Evt)
  | hiReadback (e : Evt) (mem : List (Nat × Byte))
  | linkDown (e : Evt) (uncorrectable : Bool)
  | hiDmaErr (e : Evt) (kind : RingKind) (i : Fin 8)
  | ringSizeWrite (e : Evt) (kind : RingKind) (i : Fin 8) (v : Word)
  | glbCycleLo (e : Evt)
  | tbNowLo (e : Evt)
  | ptpGmLo (e : Evt)
  | crSeqLo (e : Evt) (r : Fin 8)
  | xtalGood (e : Evt)
  | xtalFail (e : Evt)
  | xtalRestart (e : Evt)
  | clkRefFail (e : Evt)
  | pllUnlock (e : Evt) (p : PllNo)
  | pllLock (e : Evt) (p : PllNo) (band : BitVec 6)
  | relock (e : Evt) (p : PllNo) (v : Word)
  | clkGateTimeout (e : Since) (dom : Fin 5)
  | ppsEdge (e : Edge)
  | ppsMiss (e : Evt)
  | ethLink (e : Evt) (p : PortNo) (up speedErr : Bool)
  | sync (e : Evt) (p : PortNo) (m : SyncMsg)
  | followUp (e : Evt) (p : PortNo) (m : SyncMsg)
  | followUpTimeout (e : Evt) (p : PortNo)
  | announce (e : Evt) (p : PortNo) (m : AnnounceMsg)
  | announceTimeout (e : Evt) (p : PortNo) (source : BitVec 80)
  | noOffsetTimeout (e : Evt)
  | pdelayReqSend (e : Evt) (p : PortNo)
  | pdelayReq (e : Evt) (p : PortNo) (source : BitVec 80) (seq : BitVec 16)
  | pdelayResp (e : Evt) (p : PortNo) (seq : BitVec 16) (twoStep : Bool) (t2 corr : Int)
  | pdelayRespFollowUp (e : Evt) (p : PortNo) (seq : BitVec 16) (t3 corr : Int)
  | forward (e : Evt) (p : PortNo) (f : EthFrame)
  | svFrame (e : Evt) (i : Fin 8)
  | goose (e : Evt) (p : PortNo) (f : GooseFrame)
  | gooseExpiry (e : Evt) (b : Fin 16)
  | prpSupervision (e : Evt) (p : PortNo) (src : BitVec 48) (t : PrpTrailer)
  | prpSupervisionSend (e : Evt)
  | prpLan (e : Evt) (p : PortNo)
  | nodeTableAgeing (e : Evt) (src : BitVec 48)
  | initSet (e : Evt) (i : Fin 2)
  | initRelease (e : Evt) (i : Fin 2)
  | busIntegration (e : Evt) (i : Fin 2)
  | canTxreq (e : Evt) (i : Fin 2) (v : Word)
  | canTxabort (e : Evt) (i : Fin 2) (v : Word)
  | canRxsnap (e : Evt) (i : Fin 2) (v : Word)
  | canRxFrame (e : Evt) (i : Fin 2) (f : CanFrame)
  | canTxSuccess (e : Evt) (i : Fin 2)
  | canTxError (e : TxFailure) (i : Fin 2)
  | busOffRecovery (e : Evt) (i : Fin 2)
  | powerUp (e : Evt)
  | rampEnd (e : Evt) (bootsel : Bool)
  | pwrSeq (e : Evt)
  | sequencerRetry (e : Evt)
  /-- the rail's level in µV -/
  | pwrRailUv (e : Level) (r : RailId)
  | protectivePowerDown (e : Evt) (cause : Nat)
  | halfPowerDown (e : Evt)
  | domainDown (e : Evt)
  | domainPowerUp (e : Evt) (v : Word)
  | domainPowerDown (e : Evt) (v : Word)
  | halfDown (e : Evt) (v : Word)
  | holdExpiry (e : Evt)
  | vselChange (e : Evt) (sel : BitVec 2)
  | pwrVcfg (e : Evt) (v : Word)
  | pwrVtab (e : Evt) (i : Fin 4) (v : Word)
  | slewEnd (e : Evt)
  /-- IMON in µV -/
  | fastLimit (e : Reading) (p : Fin 2)
  /-- the sum of the phases' currents in units of 0.1 A, averaged over 10 µs -/
  | vcoreOverload (e : Level)
  /-- IMON in µV -/
  | vcorePhase (e : Level) (p : Fin 2)
  /-- the mean of V_R − V_L in mV -/
  | vcoreSense (e : Sense) (meanDiff : Int)
  /-- the regulated sense in µV -/
  | overvoltage (e : Level)
  | sramScrub (e : Evt) (row : BitVec 80)
  | ddrScrub (e : Evt) (rows : List (BitVec 80))
  | sramUeRestart (e : Evt)
  | memScrubLate (e : Evt) (ddr : Bool)
  | refresh (e : Evt)
  | mr4Poll (e : Evt) (mult : Nat)
  | bootComplete (e : Evt) (f : Flash)
  | secOtpProg (e : Evt) (v : Word)
  | stageComplete (e : Evt) (img : Image)
  | trialTimeout (e : Evt)
  | pertArm (e : Evt) (v : Word)
  | reset (e : Evt)
  | resetRelease (e : Evt) (bootsel : Bool)
  | pciePerst (e : Evt)
  | extest (e : Evt)
  | samplePreload (e : Evt) (balls : List Bool)
  | idcode (e : Evt)
  | clamp (e : Evt)
  | highz (e : Evt)
  | halt (e : Evt)
  | resume (e : Evt) (bootsel : Bool)
  | bypass (e : Evt)
  | misaligned (e : Evt) (x : Access)
  | unmapped (e : Evt) (x : Access)
  | domainOff (e : Evt) (x : Access)
  | w1cClear (e : Evt) (offset : Nat) (v : Word)
  | counterClear (e : Evt) (offset : Nat) (v : Word)
  | registerWrite (e : Evt) (offset : Nat) (v : Word)
  | lullPowerUp (e : Evt) (prefer : HalfId)
  | lullReset (e : Evt)
  /-- the rail's level in µV -/
  | railPowerGood (e : Level) (r : RailId)
  | lullComparatorRelease (e : Evt)
  | pcieLinkUp (e : Evt) (speed width : Nat)
  | hiCqStall (e : Evt) (q : Fin 8)
  | canRxError (e : Evt) (i : Fin 2) (inc : Nat)
  | protocolException (e : Evt) (i : Fin 2)
  | commandEdge (e : Evt) (n : PairNo)
  | fltDeassert (e : Since) (n : PairNo)
  | tetherMessageCrc (e : Evt)
  | svcFrameDropped (e : Evt) (k : RingNo)
  | ethFrameDiscard (e : Evt) (p : PortNo) (why : DiscardWhy)
  | housekeepingSequenceRequest (e : Evt)
  | readDeliveryDone (e : Evt) (recorder : Bool) (bad : List Nat)
  deriving DecidableEq, Repr

end Sys2Proof
end

