-- ==== Sys2Proof/Config.lean ====
section
/-! DEFINITION. What one implementation fixes and the free values: opaque constants with no body, of
which no proof can know a value. Each is named in the assumption log. -/
namespace Sys2Proof.Config

/-- JEDEC manufacturer code in IDCODE bits 11:1 (R507 names no value; DESIGN CHOICE, log entry 5). -/
opaque jedec : BitVec 11
/-- MAC address of port p of a half, from OTP (12_station_network.md; DESIGN CHOICE, log entry 5). -/
opaque mac : HalfId → Nat → BitVec 48
/-- MSI-X Enable and Function Mask as the host has written them to the half's configuration space once its link is up
(PRESUMED, log entry 119). -/
opaque msix : HalfId → Nat → Bool × Bool
/-- Factory values of ETH_TSLATp, which are the latencies of port p (R384; DESIGN CHOICE, log entry 5). -/
opaque tslat : Nat → Word
/-- In-package asymmetry K_asym of R371 in units of 0.1 ns (OTP; DESIGN CHOICE, log entry 5). -/
opaque kAsym : Int
/-- Factory value of the REF conversion in mV (R135; DESIGN CHOICE, log entry 5). -/
opaque refFactory : HalfId → Int
/-- OTP rollback counters and customer key hash as delivered (R484, R487; DESIGN CHOICE, log entry 5). -/
opaque otpFwSvn : HalfId → Nat
opaque otpCfgSvn : HalfId → Nat
opaque otpCkeyHash : HalfId → BitVec 384
opaque otpCkeySet : HalfId → Bool
/-- OTP hash of the maker's key (R484; DESIGN CHOICE, log entry 5). -/
opaque makerKeyHash : BitVec 384
/-- Major version of the Tether protocol (R491; DESIGN CHOICE, log entry 5). -/
opaque tetherMajor : Nat
/-- The length in bytes of each part of the state as STATE_XFER carries it (R286 gives no encoding; DESIGN CHOICE, log entry 118). -/
opaque xferBytes : XferPart → Nat
/-- The same for the state and outputs of one Loop Table instance, by its type (R297; DESIGN CHOICE, log entry 118). -/
opaque xferBlkBytes : Nat → Nat
/-- SHA-384 and the ECDSA P-384 check of R484: standards the spec names without their text (DESIGN CHOICE, log entry 6). -/
opaque sha384 : List Byte → BitVec 384
opaque ecdsaValid : BitVec 768 → BitVec 768 → BitVec 384 → Bool
/-- The DEFLATE stream that the housekeeping processor writes (R474; DESIGN CHOICE, log entry 6). -/
opaque deflate : List Byte → List Byte
/-- The number of spare rows that the LPDDR4X starts with (R464; DESIGN CHOICE, log entry 5). -/
opaque spareRows : Nat
/-- A filter word over a history that is too short for it (R121; DESIGN CHOICE, log entry 15): free, one for each half, channel and
instant. -/
opaque freeRaw : HalfId → Nat → Nat → BitVec 24
/-- A sampled value whose instant no kept word brackets (DESIGN CHOICE, log entry 8): free, one for each half, channel and instant. -/
opaque freeSample : HalfId → Nat → Nat → Word
/-- The receive error count, within 119 to 127, after a frame received above 127 (ISO 11898-1; DESIGN CHOICE, log entry 8): free, one
for each half, controller and instant. -/
opaque freeRec : HalfId → Nat → Nat → Nat

/-- The level that the board puts on GPIO ball i of a half at an instant (R509; DESIGN CHOICE, log entry 54): free. -/
opaque ballLevel : HalfId → Nat → Nat → Bool
/-- Another node's frame is on the bus of CAN controller i of a half at an instant (R416, R427; DESIGN CHOICE, log entry 43): free. -/
opaque canReceives : HalfId → Nat → Nat → Bool
/-- REFIN_10M of a half carries edges at 10 MHz ± 5 % at an instant (R360; DESIGN CHOICE, log entry 44): free. -/
opaque refin10m : HalfId → Nat → Bool
/-- The current of VCORE phase p of a half at an instant, in units of 0.1 A (PWR_IMON; DESIGN CHOICE, log entry 54): free. -/
opaque phaseCurrent : HalfId → Nat → Nat → BitVec 16

end Sys2Proof.Config
end

