-- ==== Sys2Proof/Machine/Bits.lean ====
section
/-! DEFINITION. Bit fields, byte orders, saturating counts, the three CRCs, sparse word maps and the
vector helpers that every other file uses. -/
namespace Sys2Proof.Machine

/-! ### Fields -/

/-- Bits hi:lo of a block as a number. -/
def bits (b : Block) (hi lo : Nat) : Nat := (b.toNat / 2 ^ lo) % 2 ^ (hi + 1 - lo)

/-- Bits hi:lo of a word as a number. -/
def wbits (w : Word) (hi lo : Nat) : Nat := (w.toNat / 2 ^ lo) % 2 ^ (hi + 1 - lo)

/-- Bit i of a word. -/
def wbit (w : Word) (i : Nat) : Bool := w.getLsbD i

/-- A word with field hi:lo replaced by v (truncated to the field). -/
def wset (w : Word) (hi lo v : Nat) : Word :=
  let m : Word := BitVec.ofNat 32 (2 ^ (hi + 1 - lo) - 1) <<< lo
  (w &&& ~~~m) ||| ((BitVec.ofNat 32 v <<< lo) &&& m)

/-- A field value shifted into place in a block. -/
def fld (v lo : Nat) : Block := BitVec.ofNat 64 v <<< lo

def b2n (b : Bool) : Nat := if b then 1 else 0

/-- A w-bit two's complement number read as an integer. -/
def sgn (w n : Nat) : Int := (BitVec.ofNat w n).toInt

/-- An integer as a w-bit two's complement number. -/
def enc (w : Nat) (i : Int) : Nat := (BitVec.ofInt w i).toNat

/-- A saturating integer clamp. -/
def clampI (v lo hi : Int) : Int := if v < lo then lo else if hi < v then hi else v

/-- A counter that saturates at 0xFFFF_FFFF. -/
def sat32 (w : Word) (n : Nat) : Word := BitVec.ofNat 32 (min (w.toNat + n) 0xFFFFFFFF)

def ceilDiv (a b : Nat) : Nat := (a + b - 1) / b

/-- ⌈x⌉₄ of R14, x in tenths of a nanosecond, the result in nanoseconds. -/
def ceil4 (tenths : Nat) : Nat := 4 * ceilDiv tenths 40

/-- Rounding of a quotient to nearest with ties away from zero (R110, R122); `d` positive. -/
def divAway (n : Int) (d : Nat) : Int :=
  if n < 0 then -(((2 * (-n) + d) / (2 * d))) else (2 * n + d) / (2 * d)

/-- Rounding of a quotient to nearest with ties to even (R140, R220); `d` positive. -/
def divEven (n : Int) (d : Nat) : Int :=
  let q := n / d
  let r := n - q * d
  if 2 * r < d then q else if 2 * r > d then q + 1 else if q % 2 = 0 then q else q + 1

/-- Four little-endian bytes of a word (R2). -/
def leWord (w : Word) : List Byte :=
  [w.setWidth 8, (w >>> 8).setWidth 8, (w >>> 16).setWidth 8, (w >>> 24).setWidth 8]

/-- n little-endian bytes of a number (R2). -/
def leBytes : Nat → Nat → List Byte
  | 0, _ => []
  | n + 1, v => BitVec.ofNat 8 v :: leBytes n (v / 256)

/-- n bytes of a number, the most significant first. -/
def beBytes (n v : Nat) : List Byte := (leBytes n v).reverse

/-- A number from little-endian bytes. -/
def ofLe : List Byte → Nat
  | [] => 0
  | b :: l => b.toNat + 256 * ofLe l

/-- Bytes lo to lo + n − 1 of a run of bytes, and the field that they hold, little-endian (R2) and big-endian. -/
def headBytes (l : List Byte) (lo n : Nat) : List Byte := (l.drop lo).take n
def headLe (l : List Byte) (lo n : Nat) : Nat := ofLe (headBytes l lo n)
def headBe (l : List Byte) (lo n : Nat) : Nat := ofLe (headBytes l lo n).reverse

/-! ### CRCs -/

/-- The bits lo to lo + n − 1 of a block, lowest first. -/
def bitsFrom (b : Block) (lo n : Nat) : List Bool := (List.range n).map fun i => b.getLsbD (lo + i)

/-- One bit of the CRC-16 of R53. -/
def crc16Step (c : BitVec 16) (b : Bool) : BitVec 16 :=
  let f := b != c.getLsbD 15
  let s := c <<< 1
  if f then s ^^^ 0x1021#16 else s

/-- CRC-16 of R53 over bits in order of transmission. -/
def crc16 (l : List Bool) : BitVec 16 := l.foldl crc16Step 0xFFFF#16

/-- CRC-16 of a two-block item: bits 63:8 of the first, then 47:0 of the second (R53, R71). -/
def crc16Pair (b0 b1 : Block) : BitVec 16 := crc16 (bitsFrom b0 8 56 ++ bitsFrom b1 0 48)

/-- CRC-16 of a single block: bits 47:8 (R71). -/
def crc16Single (b : Block) : BitVec 16 := crc16 (bitsFrom b 8 40)

/-- The CRC field, block bits 63:48. -/
def crcField (b : Block) : BitVec 16 := (b >>> 48).setWidth 16

/-- A block with its CRC field written. -/
def withCrc (b : Block) (c : BitVec 16) : Block :=
  (b &&& 0x0000FFFFFFFFFFFF#64) ||| (c.setWidth 64 <<< 48)

/-- One byte of the reflected CRC-32C (Castagnoli, R84). -/
def crc32cByte (c : Word) (b : Byte) : Word :=
  (List.range 8).foldl (fun c _ => if c.getLsbD 0 then (c >>> 1) ^^^ 0x82F63B78#32 else c >>> 1)
    (c ^^^ b.setWidth 32)

/-- CRC-32C with initial value and final inversion (R84, R286, R344). -/
def crc32c (l : List Byte) : Word := ~~~ (l.foldl crc32cByte 0xFFFFFFFF#32)

/-- One byte of the CRC-64 of R301, not reflected. -/
def crc64Byte (c : BitVec 64) (b : Byte) : BitVec 64 :=
  (List.range 8).foldl
    (fun c _ => if c.getLsbD 63 then (c <<< 1) ^^^ 0x42F0E1EBA9EA3693#64 else c <<< 1)
    (c ^^^ (b.setWidth 64 <<< 56))

/-- The Gander digest of R301. -/
def crc64 (l : List Byte) : BitVec 64 := ~~~ (l.foldl crc64Byte 0xFFFFFFFFFFFFFFFF#64)

/-! ### Sparse word maps

A map is a list of (key, word), keys strictly rising, no word equal to the default of its key. -/

/-- What the map holds at key k; `d` is what an unlisted key reads as. -/
def WMap.get (d : Nat → Word) : WMap → Nat → Word
  | [], k => d k
  | (j, w) :: m, k => if k = j then w else WMap.get d m k

/-- Keep the entries whose key satisfies p. -/
def WMap.keep (p : Nat → Bool) : WMap → WMap
  | [] => []
  | (j, w) :: m => if p j then (j, w) :: WMap.keep p m else WMap.keep p m

/-- Put a word at key k, in the order of the keys. -/
def WMap.put : WMap → Nat → Word → WMap
  | [], k, v => [(k, v)]
  | (j, w) :: m, k, v =>
    if k < j then (k, v) :: (j, w) :: m
    else if k = j then (k, v) :: m
    else (j, w) :: WMap.put m k v

/-- Write one word; writing the default removes the entry. -/
def WMap.set (d : Nat → Word) (m : WMap) (k : Nat) (v : Word) : WMap :=
  if v = d k then WMap.keep (fun j => j != k) m else WMap.put m k v

/-- The canonical form: keys strictly rising from `lo`, no default entry. -/
def WMap.wfFrom (d : Nat → Word) : Nat → WMap → Bool
  | _, [] => true
  | lo, (j, w) :: m => decide (lo ≤ j) && decide (w ≠ d j) && WMap.wfFrom d (j + 1) m

/-- The canonical form of a map. -/
def WMap.wf (d : Nat → Word) (m : WMap) : Bool := WMap.wfFrom d 0 m

/-- The default of a map that reads 0 everywhere. -/
def zeroW (_ : Nat) : Word := 0

/-! ### Vectors by a number that may be out of range -/

def vget {α : Type} [Inhabited α] {n : Nat} (v : Vector α n) (i : Nat) : α :=
  if h : i < n then v[i] else default

def vset {α : Type} {n : Nat} (v : Vector α n) (i : Nat) (x : α) : Vector α n :=
  if h : i < n then v.set i x else v

def vmod {α : Type} {n : Nat} (v : Vector α n) (i : Nat) (f : α → α) : Vector α n :=
  if h : i < n then v.set i (f v[i]) else v

/-- Map with the index. -/
def vmapi {α β : Type} {n : Nat} (v : Vector α n) (f : Nat → α → β) : Vector β n :=
  v.mapIdx f

/-- Insert into a rising list without repeats. -/
def insNat (k : Nat) : List Nat → List Nat
  | [] => [k]
  | j :: l => if k < j then k :: j :: l else if k = j then j :: l else j :: insNat k l

/-! ### Instants: units of 12.5 ps (DESIGN CHOICE, log entry 1) -/

def tNs (n : Nat) : Nat := 80 * n
def tTenth (n : Nat) : Nat := 8 * n
def tUs (n : Nat) : Nat := 80000 * n
def tMs (n : Nat) : Nat := 80000000 * n
def tSec (n : Nat) : Nat := 80000000000 * n
/-- A fine unit of the LV stage, 312.5 ps (R217). -/
def tFine (n : Nat) : Nat := 25 * n
/-- A 400 MHz counter clock, 2.5 ns (R217). -/
def tClk (n : Nat) : Nat := 200 * n

end Sys2Proof.Machine
end

