-- ==== Sys2Proof/Machine/F32.lean ====
section
/-! DEFINITION. IEEE 754 binary32 as R138 uses it: round to nearest, ties to even, subnormal operands
and results replaced by zero of the same sign, no fused operation; the conversions of R140, R198, R204
and R220; the sine table of R204. -/
namespace Sys2Proof.Machine

/-- A binary32 value as its bits. -/
abbrev F32 := BitVec 32

namespace F32

def nan : F32 := 0x7FC00000#32
def zero : F32 := 0#32
def one : F32 := 0x3F800000#32
def half : F32 := 0x3F000000#32
def two : F32 := 0x40000000#32

def sign (a : F32) : Bool := a.getLsbD 31
def expo (a : F32) : Nat := wbits a 30 23
def frac (a : F32) : Nat := wbits a 22 0
def isNan (a : F32) : Bool := expo a == 255 && frac a != 0
def isInf (a : F32) : Bool := expo a == 255 && frac a == 0
/-- Neither infinite nor a NaN (the "finite" of R141, R202). -/
def finite (a : F32) : Bool := expo a != 255
/-- Zero, a subnormal counting as zero (R138). -/
def isZero (a : F32) : Bool := expo a == 0
def neg (a : F32) : F32 := a ^^^ 0x80000000#32
def abs (a : F32) : F32 := a &&& 0x7FFFFFFF#32
def signed (s : Bool) (a : F32) : F32 := if s then a ||| 0x80000000#32 else a
def inf (s : Bool) : F32 := signed s 0x7F800000#32

/-- The significand with its hidden bit, and the exponent of its unit: value = man × 2^ex. -/
def man (a : F32) : Nat := if isZero a then 0 else 2 ^ 23 + frac a
def ex (a : F32) : Int := (expo a : Int) - 150

/-- Number of binary digits. -/
def blen (n : Nat) : Nat := if n = 0 then 0 else Nat.log2 n + 1

/-- The binary32 value nearest (−1)^s × m × 2^e, ties to even; `sticky` says that a further part,
below one unit of m, was cut off. A result below the normal range becomes zero (R138). -/
def round (s : Bool) (m : Nat) (e : Int) (sticky : Bool) : F32 :=
  if m = 0 then signed s zero else
  -- two guard bits at least, so that `sticky` never decides a tie alone
  let m := 4 * m + b2n sticky
  let e := e - 2
  let l := blen m
  let (q, e) :=
    if l ≤ 24 then (m * 2 ^ (24 - l), e - ((24 - l : Nat) : Int))
    else
      let sh := l - 24
      let q := m / 2 ^ sh
      let r := m % 2 ^ sh
      let h := 2 ^ (sh - 1)
      let q := if r > h ∨ (r = h ∧ q % 2 = 1) then q + 1 else q
      (q, e + (sh : Int))
  let (q, e) := if q = 2 ^ 24 then (2 ^ 23, e + 1) else (q, e)
  let be := e + 150
  if be ≥ 255 then inf s
  else if be ≤ 0 then signed s zero
  else signed s (BitVec.ofNat 32 (be.toNat * 2 ^ 23 + (q - 2 ^ 23)))

/-- The nearest binary32 value of an integer. -/
def ofInt (i : Int) : F32 := round (i < 0) i.natAbs 0 false
def ofNat (n : Nat) : F32 := round false n 0 false
/-- The nearest binary32 value of n / d (d positive). -/
def ofRat (n : Int) (d : Nat) : F32 :=
  let a := n.natAbs * 2 ^ 60
  round (n < 0) (a / d) (-60) (a % d != 0)

def mul (a b : F32) : F32 :=
  let s := sign a != sign b
  if isNan a || isNan b then nan
  else if isInf a || isInf b then (if isZero a || isZero b then nan else inf s)
  else round s (man a * man b) (ex a + ex b) false

/-- Exact sum of two finite values, rounded once. -/
def add (a b : F32) : F32 :=
  if isNan a || isNan b then nan
  else if isInf a then (if isInf b && sign a != sign b then nan else inf (sign a))
  else if isInf b then inf (sign b)
  else
    let e := min (ex a) (ex b)
    let va : Int := (man a * 2 ^ (ex a - e).toNat : Nat)
    let vb : Int := (man b * 2 ^ (ex b - e).toNat : Nat)
    let v := (if sign a then -va else va) + (if sign b then -vb else vb)
    if v = 0 then signed (sign a && sign b) zero
    else round (v < 0) v.natAbs e false

def sub (a b : F32) : F32 := add a (neg b)

def div (a b : F32) : F32 :=
  let s := sign a != sign b
  if isNan a || isNan b then nan
  else if isInf a then (if isInf b then nan else inf s)
  else if isInf b then signed s zero
  else if isZero b then (if isZero a then nan else inf s)
  else
    let n := man a * 2 ^ 32
    round s (n / man b) (ex a - ex b - 32) (n % man b != 0)

/-- Integer square root by bisection from the top bit, n bits of result. -/
def isqrt : Nat → Nat → Nat → Nat
  | 0, _, r => r
  | k + 1, n, r => let c := r + 2 ^ k; isqrt k n (if c * c ≤ n then c else r)

def sqrt (a : F32) : F32 :=
  if isNan a then nan
  else if isZero a then signed (sign a) zero
  else if sign a then nan
  else if isInf a then a
  else
    let (m, e) := if (ex a) % 2 = 0 then (man a, ex a) else (man a * 2, ex a - 1)
    let n := m * 2 ^ 30
    let r := isqrt 30 n 0
    round false r ((e - 30) / 2) (r * r != n)

/-- A number that orders finite values and infinities; both zeros give 0. -/
def key (a : F32) : Int :=
  let v : Int := if isZero a then 0 else ((a &&& 0x7FFFFFFF#32).toNat : Int)
  if sign a then -v else v

def lt (a b : F32) : Bool := !isNan a && !isNan b && decide (key a < key b)
def le (a b : F32) : Bool := !isNan a && !isNan b && decide (key a ≤ key b)
def gt (a b : F32) : Bool := lt b a
def ge (a b : F32) : Bool := le b a
def eq (a b : F32) : Bool := !isNan a && !isNan b && decide (key a = key b)
def ne (a b : F32) : Bool := !eq a b

/-- min and max return one operand unchanged, the non-NaN one if exactly one is NaN (R139, R203). -/
def min (a b : F32) : F32 := if isNan a then b else if isNan b then a else if lt b a then b else a
def max (a b : F32) : F32 := if isNan a then b else if isNan b then a else if lt a b then b else a
def clamp (v lo hi : F32) : F32 := min (max v lo) hi

/-- sgn: −1, 0 or +1 as binary32. -/
def sgn (a : F32) : F32 := if isNan a then a else if isZero a then zero else signed (sign a) one

/-- The exact value of a finite a as a fraction n / 2^d. -/
def toFrac (a : F32) : Int × Nat :=
  let v : Int := (man a : Nat)
  let v := if sign a then -v else v
  if ex a ≥ 0 then (v * 2 ^ (ex a).toNat, 0) else (v, (-(ex a)).toNat)

/-- Nearest integer, ties to even; 0 for a value that is not finite. -/
def toIntEven (a : F32) : Int :=
  if !finite a then 0 else let (n, d) := toFrac a; divEven n (2 ^ d)

/-- Truncation toward zero; 0 for a value that is not finite. -/
def trunc (a : F32) : Int :=
  if !finite a then 0 else let (n, d) := toFrac a; Int.tdiv n (2 ^ d)

/-- floor as a binary32 value (exact for every value that has a fraction). -/
def floor (a : F32) : F32 :=
  if !finite a then a else let (n, d) := toFrac a; if d = 0 then a else ofInt (n / (2 ^ d : Nat))

/-- True where a value is a whole number. -/
def isWhole (a : F32) : Bool :=
  finite a && (let (n, d) := toFrac a; n % (2 ^ d : Nat) == 0)

/-- Conversion to Q1.15 (R140). -/
def toQ15 (q : F32) : BitVec 16 :=
  if isNan q then 0#16
  else if isInf q then (if sign q then 0x8001#16 else 0x7FFF#16)
  else
    let (n, d) := toFrac q
    BitVec.ofInt 16 (clampI (divEven (n * 32768) (2 ^ d)) (-32767) 32767)

/-- The value of a Q1.15 field, exact. -/
def ofQ15 (b : BitVec 16) : F32 := round (b.toInt < 0) b.toInt.natAbs (-15) false

/-! ### Angles (R204) -/

/-- 32-bit phase of an angle in turns; 0 for an angle that is not finite. -/
def acc (v : F32) : BitVec 32 :=
  if !finite v then 0 else
  let f := sub v (floor v)
  let (n, d) := toFrac f
  BitVec.ofInt 32 (divEven (n * 2 ^ 32) (2 ^ d))

/-- A phase as turns: the binary32 value nearest a × 2⁻³². -/
def turns (a : BitVec 32) : F32 := round false a.toNat (-32) false

/-- π × 2^120, truncated. -/
def piFix : Nat := 4175892906503776358826876457663557747

/-- One series for the sine of x × 2⁻¹²⁰ (0 ≤ x ≤ π/2): t the present term, k its order. -/
def sinSeries : Nat → Int → Int → Nat → Int → Int
  | 0, _, _, _, s => s
  | n + 1, x2, t, k, s =>
    let t' := -(t * x2 / 2 ^ 120) / ((k + 1) * (k + 2) : Nat)
    sinSeries n x2 t' (k + 2) (s + t')

/-- sin(2π·i/4096) for i in the first quarter, times 2¹²⁰. -/
def sinQuarter (i : Nat) : Int :=
  let x : Int := ((2 * piFix * i / 4096 : Nat) : Int)
  sinSeries 24 (x * x / 2 ^ 120) x 1 x

/-- s[i] of R204: the binary32 value nearest sin(2π·i/4096). -/
def sinTab (i : Nat) : F32 :=
  let i := i % 4096
  let (s, j) := if i < 2048 then (false, i) else (true, i - 2048)
  let j := if j ≤ 1024 then j else 2048 - j
  if j = 0 then zero
  else if j = 1024 then signed s one
  else round s (sinQuarter j).natAbs (-120) false

/-- (cosine, sine) of a phase by the interpolation of R204. -/
def cossin (a : BitVec 32) : F32 × F32 :=
  let i := a.toNat / 2 ^ 20
  let fr := round false (a.toNat % 2 ^ 20) (-20) false
  let ip (j : Nat) := add (sinTab j) (mul fr (sub (sinTab (j + 1)) (sinTab j)))
  (ip (i + 1024), ip i)

end F32
end Sys2Proof.Machine
end

