-- ==== Sys2Proof/Machine/Sources.lean ====
section
/-! DEFINITION. The 256 event sources: default and fixed minimum severities (R67, R108, R107, R185 ff.,
R209, R255, R284, R317, R357, R379, R411, R431, R455, R476, R495), class and unit (R261). Severity
codes: 0 LOG, 1 WARN, 2 FENCE, 3 DEGRADE, 4 HANDOVER, 5 STAGE_TRIP, 6 DEVICE_SAFE. -/
namespace Sys2Proof.Machine

/-- A run of sources lo to hi with one default and one fixed minimum severity. -/
structure SevRow where
  lo : Nat
  hi : Nat
  dflt : Nat
  min : Nat
  deriving DecidableEq, Repr, Inhabited

def sevRows0 : List SevRow := [
  ⟨0x00, 0x0B, 1, 0⟩,
  ⟨0x0C, 0x0C, 2, 1⟩,
  ⟨0x0D, 0x0E, 1, 0⟩,
  ⟨0x0F, 0x0F, 0, 0⟩,
  ⟨0x10, 0x10, 1, 1⟩,
  ⟨0x11, 0x11, 1, 0⟩,
  ⟨0x12, 0x12, 0, 0⟩,
  ⟨0x13, 0x13, 1, 1⟩,
  ⟨0x14, 0x14, 2, 2⟩,
  ⟨0x15, 0x15, 0, 0⟩,
  ⟨0x16, 0x16, 1, 0⟩,
  ⟨0x17, 0x17, 0, 0⟩,
  ⟨0x18, 0x19, 1, 0⟩,
  ⟨0x1A, 0x1A, 0, 0⟩,
  ⟨0x1B, 0x1B, 1, 1⟩,
  ⟨0x1C, 0x1D, 2, 2⟩]

def sevRows1 : List SevRow := [
  ⟨0x20, 0x21, 2, 2⟩,
  ⟨0x22, 0x22, 1, 0⟩,
  ⟨0x23, 0x23, 2, 2⟩,
  ⟨0x24, 0x24, 2, 1⟩,
  ⟨0x25, 0x25, 1, 0⟩,
  ⟨0x26, 0x27, 2, 2⟩,
  ⟨0x28, 0x29, 1, 0⟩,
  ⟨0x2A, 0x2A, 2, 2⟩,
  ⟨0x2B, 0x2B, 1, 0⟩,
  ⟨0x2C, 0x2C, 2, 1⟩,
  ⟨0x2D, 0x2D, 0, 0⟩]

def sevRows2 : List SevRow := [
  ⟨0x40, 0x40, 0, 0⟩,
  ⟨0x41, 0x41, 2, 2⟩,
  ⟨0x42, 0x42, 1, 1⟩,
  ⟨0x43, 0x43, 5, 3⟩,
  ⟨0x44, 0x45, 1, 0⟩,
  ⟨0x46, 0x46, 1, 1⟩,
  ⟨0x47, 0x47, 1, 0⟩,
  ⟨0x48, 0x48, 0, 0⟩,
  ⟨0x49, 0x49, 1, 1⟩,
  ⟨0x4A, 0x4A, 0, 0⟩]

def sevRows3 : List SevRow := [
  ⟨0x60, 0x6F, 5, 2⟩,
  ⟨0x70, 0x7B, 5, 2⟩,
  ⟨0x7C, 0x7C, 5, 5⟩,
  ⟨0x7D, 0x7D, 1, 1⟩,
  ⟨0x7E, 0x7E, 4, 4⟩,
  ⟨0x7F, 0x7F, 5, 3⟩]

def sevRows4 : List SevRow := [
  ⟨0x80, 0x80, 4, 4⟩,
  ⟨0x81, 0x81, 1, 0⟩,
  ⟨0x82, 0x82, 1, 1⟩,
  ⟨0x83, 0x83, 1, 0⟩,
  ⟨0x84, 0x84, 5, 3⟩,
  ⟨0x85, 0x85, 5, 5⟩,
  ⟨0x86, 0x86, 0, 0⟩,
  ⟨0x87, 0x87, 1, 0⟩,
  ⟨0x88, 0x88, 4, 1⟩,
  ⟨0x89, 0x8D, 1, 0⟩]

def sevRows5 : List SevRow := [
  ⟨0x90, 0x90, 0, 0⟩,
  ⟨0x91, 0x91, 2, 2⟩,
  ⟨0x92, 0x92, 2, 1⟩,
  ⟨0x93, 0x94, 2, 2⟩,
  ⟨0x95, 0x95, 1, 0⟩,
  ⟨0x96, 0x96, 2, 2⟩,
  ⟨0x97, 0x98, 0, 0⟩,
  ⟨0x99, 0x9A, 1, 0⟩,
  ⟨0x9B, 0x9B, 0, 0⟩]

def sevRows6 : List SevRow := [
  ⟨0xA0, 0xA0, 0, 0⟩,
  ⟨0xA1, 0xA1, 4, 4⟩,
  ⟨0xA2, 0xA2, 0, 0⟩,
  ⟨0xA3, 0xA3, 1, 0⟩,
  ⟨0xA4, 0xA4, 0, 0⟩,
  ⟨0xA5, 0xA7, 1, 0⟩,
  ⟨0xA8, 0xA8, 0, 0⟩,
  ⟨0xA9, 0xA9, 1, 0⟩]

def sevRows7 : List SevRow := [
  ⟨0xB0, 0xB2, 4, 4⟩,
  ⟨0xB3, 0xB4, 1, 1⟩,
  ⟨0xB5, 0xB6, 1, 0⟩,
  ⟨0xB7, 0xB7, 4, 1⟩,
  ⟨0xB8, 0xB8, 1, 1⟩,
  ⟨0xB9, 0xB9, 1, 0⟩,
  ⟨0xBA, 0xBA, 4, 1⟩,
  ⟨0xBB, 0xBB, 4, 4⟩,
  ⟨0xBC, 0xBC, 4, 1⟩,
  ⟨0xBD, 0xBD, 1, 1⟩,
  ⟨0xBE, 0xBE, 4, 4⟩,
  ⟨0xBF, 0xBF, 1, 0⟩]

def sevRows8 : List SevRow := [
  ⟨0xC0, 0xC1, 1, 0⟩,
  ⟨0xC2, 0xC3, 1, 1⟩,
  ⟨0xC4, 0xC4, 1, 0⟩,
  ⟨0xC5, 0xC5, 0, 0⟩,
  ⟨0xC6, 0xC6, 1, 0⟩,
  ⟨0xC7, 0xC7, 0, 0⟩]

def sevRows9 : List SevRow := [
  ⟨0xD0, 0xD0, 1, 0⟩,
  ⟨0xD1, 0xD2, 0, 0⟩,
  ⟨0xD3, 0xD7, 1, 0⟩,
  ⟨0xD8, 0xDC, 1, 0⟩,
  ⟨0xDD, 0xDE, 0, 0⟩]

def sevRows10 : List SevRow := [
  ⟨0xE0, 0xE1, 0, 0⟩,
  ⟨0xE2, 0xE4, 1, 0⟩,
  ⟨0xE5, 0xE5, 1, 1⟩,
  ⟨0xE6, 0xE7, 0, 0⟩,
  ⟨0xE8, 0xE9, 1, 0⟩,
  ⟨0xEA, 0xEA, 4, 4⟩,
  ⟨0xEB, 0xEB, 1, 1⟩]

def sevRows11 : List SevRow := [
  ⟨0xF0, 0xF0, 1, 1⟩,
  ⟨0xF1, 0xF1, 1, 0⟩,
  ⟨0xF2, 0xF2, 0, 0⟩,
  ⟨0xF3, 0xF3, 1, 0⟩,
  ⟨0xF4, 0xF5, 0, 0⟩,
  ⟨0xFC, 0xFC, 0, 0⟩,
  ⟨0xFD, 0xFE, 1, 1⟩]

/-- The source table; a source in no row is reserved (LOG and LOG). -/
def sevRows : List SevRow := sevRows0 ++ sevRows1 ++ sevRows2 ++ sevRows3 ++ sevRows4 ++ sevRows5 ++ sevRows6 ++ sevRows7 ++ sevRows8 ++ sevRows9 ++ sevRows10 ++ sevRows11

def sevRow (s : Nat) : Option SevRow := sevRows.find? (fun r => decide (r.lo ≤ s ∧ s ≤ r.hi))

/-- The source is reserved in its owning chapter. -/
def reservedSrc (s : Nat) : Bool := (sevRow s).isNone

/-- Default severity of a source (the reset of SD.SEV, R258). -/
def sevDefault (s : Nat) : Nat := ((sevRow s).map (·.dflt)).getD 0
/-- Fixed minimum severity. -/
def sevMin (s : Nat) : Nat := ((sevRow s).map (·.min)).getD 0

def inR (s lo hi : Nat) : Bool := decide (lo ≤ s ∧ s ≤ hi)

/-- Shared sources (R261); a reserved source is local. -/
def sharedSrc (s : Nat) : Bool :=
  !reservedSrc s &&
  (s == 0x18 || inR s 0x20 0x3F || inR s 0x41 0x43 || inR s 0x81 0x85 || s == 0x87 || inR s 0x89 0x8D)

/-- Reset value of SD.STAGE (R261): bit 0 MV, bit 1 LV. -/
def stageDefault (s : Nat) : Nat :=
  if reservedSrc s then 3
  else if s < 0x40 then 1
  else if inR s 0x60 0x7F then 2
  else if s == 0x81 || s == 0x82 || inR s 0x83 0x85 || s == 0x87 then 1
  else 3

end Sys2Proof.Machine
end

