-- ==== Sys2Proof/Machine/Bank.lean ====
section
/-! DEFINITION. The real-time bank image (10_host_interface.md, R342, R343; the field tables R38, R62,
R91, R114, R186, R194, R253, R258, R315, R378, R409, R468): the offset of every field, its width,
its extension, its reset value and the range its own row states. Ranges that depend on another field
are judged with the rules of the owning chapter (Commit.lean). -/
namespace Sys2Proof.Machine

/-! ### Offsets -/
namespace BK

def CYCLE_TC_TICKS : Nat := 0x0
def CYCLE_APPLY_NS : Nat := 0x4
def CYCLE_AUTO_OFFSET : Nat := 0x8
def STAGE_MV_REQ : Nat := 0xC
def STAGE_LV_REQ : Nat := 0x10
def RED_GAP_NS : Nat := 0x100
def RED_MM_LIMIT : Nat := 0x104
def RED_MM_WINDOW : Nat := 0x108
def RED_REVERT_EN : Nat := 0x10C
def RED_REVERT_S : Nat := 0x110
def RED_HOLDOFF_S : Nat := 0x114
def RED_FENCE_LIMIT : Nat := 0x118
def SD_CLEAR_MS : Nat := 0x200
def SD_SEV (i : Nat) : Nat := 0x400 + 0x4 * i
def SD_STAGE (i : Nat) : Nat := 0x800 + 0x4 * i
def HERD_RING_EN (i : Nat) : Nat := 0xC00 + 0x4 * i
def HERD_CTX (i j : Nat) : Nat := 0x1000 + 0x40 * i + 0x4 * j
def HERD_SPAN (i j : Nat) : Nat := 0x1400 + 0x80 * i + 0x4 * j
def AN_CH_EN (i : Nat) : Nat := 0x2000 + 0x20 * i
def AN_CH_ORDER (i : Nat) : Nat := 0x2004 + 0x20 * i
def AN_CH_DECIM (i : Nat) : Nat := 0x2008 + 0x20 * i
def AN_CH_NOTCH_EN (i : Nat) : Nat := 0x200C + 0x20 * i
def AN_CH_NOTCH_A (i : Nat) : Nat := 0x2010 + 0x20 * i
def AN_CH_TOL (i : Nat) : Nat := 0x2014 + 0x20 * i
def AN_CH_PCNT (i : Nat) : Nat := 0x2018 + 0x20 * i
def AN_CH_TRIO (i : Nat) : Nat := 0x201C + 0x20 * i
def AN_CAL_OFF (i j l : Nat) : Nat := 0x2400 + 0x240 * i + 0xC0 * j + 0x8 * l
def AN_CAL_GAIN (i j l : Nat) : Nat := 0x2404 + 0x240 * i + 0xC0 * j + 0x8 * l
def LV_PAIR_MODE (i : Nat) : Nat := 0x3000 + 0x40 * i
def LV_PAIR_PERIOD (i : Nat) : Nat := 0x3004 + 0x40 * i
def LV_PAIR_PHASE (i : Nat) : Nat := 0x3008 + 0x40 * i
def LV_PAIR_DT (i : Nat) : Nat := 0x300C + 0x40 * i
def LV_PAIR_MINP (i : Nat) : Nat := 0x3010 + 0x40 * i
def LV_PAIR_MPMODE (i : Nat) : Nat := 0x3014 + 0x40 * i
def LV_PAIR_BS_N (i : Nat) : Nat := 0x3018 + 0x40 * i
def LV_PAIR_BS_TMIN (i : Nat) : Nat := 0x301C + 0x40 * i
def LV_PAIR_SWAP (i : Nat) : Nat := 0x3020 + 0x40 * i
def LV_PAIR_INVERT (i : Nat) : Nat := 0x3024 + 0x40 * i
def LV_PAIR_SAFE (i : Nat) : Nat := 0x3028 + 0x40 * i
def LV_TRIP_SOFT_EN (i : Nat) : Nat := 0x3400 + 0x40 * i
def LV_TRIP_HARD_EN (i : Nat) : Nat := 0x3404 + 0x40 * i
def LV_TRIP_SOFT (i : Nat) : Nat := 0x3408 + 0x40 * i
def LV_TRIP_HARD (i : Nat) : Nat := 0x340C + 0x40 * i
def LV_TRIP_SFILT (i : Nat) : Nat := 0x3410 + 0x40 * i
def LV_TRIP_HFILT (i : Nat) : Nat := 0x3414 + 0x40 * i
def LV_TRIP_BLANK (i : Nat) : Nat := 0x3418 + 0x40 * i
def LV_TRIP_LINK (i : Nat) : Nat := 0x341C + 0x40 * i
def LV_TRIP_MASK (i : Nat) : Nat := 0x3420 + 0x40 * i
def LV_TRIP_WHOLE (i : Nat) : Nat := 0x3424 + 0x40 * i
def LV_TRIP_LEG (i : Nat) : Nat := 0x3428 + 0x40 * i
def LV_TRIP_CLUSTER (i : Nat) : Nat := 0x342C + 0x40 * i
def LV_FLT_EN (i : Nat) : Nat := 0x3800 + 0x8 * i
def LV_FLT_FILT (i : Nat) : Nat := 0x3804 + 0x8 * i
def LV_SC2_WIN : Nat := 0x3900
def LV_BRK_MODE : Nat := 0x3904
def LV_BRK_CH : Nat := 0x3908
def LV_BRK_ICH : Nat := 0x390C
def LV_BRK_V_ON : Nat := 0x3910
def LV_BRK_V_OFF : Nat := 0x3914
def LV_BRK_R : Nat := 0x3918
def LV_BRK_I_CONT : Nat := 0x391C
def LV_BRK_I2T_MAX : Nat := 0x3920
def LV_BRK_PERIOD : Nat := 0x3924
def LV_PRE_VMIN : Nat := 0x3928
def LV_PRE_TMAX : Nat := 0x392C
def OX_CONN : Nat := 0x4000
def OX_DAB_N : Nat := 0x4004
def OX_DAB_FSW : Nat := 0x4008
def OX_DAB_DMAX : Nat := 0x400C
def OX_DAB_ETA : Nat := 0x4010
def OX_P_CELL_MAX : Nat := 0x4014
def OX_V_DAB_MIN : Nat := 0x4018
def OX_K_DB : Nat := 0x401C
def OX_K_CB : Nat := 0x4020
def OX_K_IC : Nat := 0x4024
def OX_DM_MAX : Nat := 0x4028
def OX_I_DB : Nat := 0x402C
def OX_I_MIN : Nat := 0x4030
def OX_V_MIN : Nat := 0x4034
def OX_VCM_MAX : Nat := 0x4038
def OX_K_Z : Nat := 0x403C
def OX_M_MAX : Nat := 0x4040
def OX_CAR_INC : Nat := 0x4044
def OX_CPH_STEP : Nat := 0x4048
def OX_ID_LAMBDA : Nat := 0x404C
def OX_ID_XMIN : Nat := 0x4050
def OX_CAP_DRIFT : Nat := 0x4054
def OX_IND_DRIFT : Nat := 0x4058
def OX_AGE_HOLD : Nat := 0x405C
def OX_ISENSE_TOL : Nat := 0x4060
def OX_ISENSE_CNT : Nat := 0x4064
def OX_LVBUS_CH : Nat := 0x4068
def OX_VLV_NOM : Nat := 0x406C
def OX_SG_SIZE : Nat := 0x4070
def OX_SG_GAP : Nat := 0x4074
def OX_SS_CYCLES : Nat := 0x4078
def OX_SS_RATE : Nat := 0x407C
def OX_SG_DVMAX : Nat := 0x4080
def OX_PRE_VPASS : Nat := 0x4084
def OX_PRE_TPASS : Nat := 0x4088
def OX_PRE_VTOL : Nat := 0x408C
def OX_SWAP_VTOL : Nat := 0x4090
def OX_VDC_TRIP : Nat := 0x4094
def OX_TEMP_TRIP : Nat := 0x4098
def OX_MV_DT : Nat := 0x409C
def OX_RED_MODE (i : Nat) : Nat := 0x4100 + 0x10 * i
def OX_NRUN (i : Nat) : Nat := 0x4104 + 0x10 * i
def OX_NMIN (i : Nat) : Nat := 0x4108 + 0x10 * i
def OX_CAR_OFS (i : Nat) : Nat := 0x410C + 0x10 * i
def OX_AIN_SCALE (i : Nat) : Nat := 0x4200 + 0x4 * i
def OX_CLUSTER (i : Nat) : Nat := 0x4800 + 0x10 * i
def OX_C_NOM (i : Nat) : Nat := 0x4804 + 0x10 * i
def OX_L_NOM (i : Nat) : Nat := 0x4808 + 0x10 * i
def LT_LUT_X (i j : Nat) : Nat := 0x8000 + 0x100 * i + 0x4 * j
def LT_LUT_Y (i j : Nat) : Nat := 0x8080 + 0x100 * i + 0x4 * j
def LT_SINK_INIT (i : Nat) : Nat := 0x9000 + 0x4 * i
def TB_FORMAT : Nat := 0xA000
def TB_DISC : Nat := 0xA004
def TB_SLEW_PPM : Nat := 0xA008
def TB_JUMP_NS : Nat := 0xA00C
def TB_PPS_EDGE : Nat := 0xA010
def TB_PPS_OFS : Nat := 0xA014
def TB_PPS_MISS : Nat := 0xA018
def ETH_MODE : Nat := 0xA100
def ETH_IF0 : Nat := 0xA104
def ETH_IF1 : Nat := 0xA108
def ETH_AN0 : Nat := 0xA10C
def ETH_AN1 : Nat := 0xA110
def PTP_PORTS : Nat := 0xA114
def PTP_DOMAIN : Nat := 0xA118
def PTP_VLAN_EN : Nat := 0xA11C
def PTP_VID : Nat := 0xA120
def PTP_PRIO : Nat := 0xA124
def PTP_ANN_TIMEOUT : Nat := 0xA128
def PTP_LOSS_MS : Nat := 0xA12C
def PTP_CLASS_MAX : Nat := 0xA130
def PTP_SPIKE_NS : Nat := 0xA134
def PTP_SPIKE_CNT : Nat := 0xA138
def PTP_KP : Nat := 0xA13C
def PTP_KI : Nat := 0xA140
def PTP_FGAIN : Nat := 0xA144
def PTP_FMAX_PPM : Nat := 0xA148
def PTP_PD_AVG : Nat := 0xA14C
def PTP_NBR_MAX : Nat := 0xA150
def PTP_ASYM0 : Nat := 0xA154
def PTP_ASYM1 : Nat := 0xA158
def PRP_LIFE_MS : Nat := 0xA15C
def PRP_FORGET_MS : Nat := 0xA160
def PRP_SUP_ADDR : Nat := 0xA164
def GO_SIM : Nat := 0xA168
def GO_TAL_MIN : Nat := 0xA16C
def SV_HOLD_S : Nat := 0xA170
def SV_EN (i : Nat) : Nat := 0xA200 + 0x100 * i
def SV_RATE (i : Nat) : Nat := 0xA204 + 0x100 * i
def SV_NOASDU (i : Nat) : Nat := 0xA208 + 0x100 * i
def SV_NCH (i : Nat) : Nat := 0xA20C + 0x100 * i
def SV_PORTS (i : Nat) : Nat := 0xA210 + 0x100 * i
def SV_APPID (i : Nat) : Nat := 0xA214 + 0x100 * i
def SV_DMAC_LO (i : Nat) : Nat := 0xA218 + 0x100 * i
def SV_DMAC_HI (i : Nat) : Nat := 0xA21C + 0x100 * i
def SV_VLAN_EN (i : Nat) : Nat := 0xA220 + 0x100 * i
def SV_VID (i : Nat) : Nat := 0xA224 + 0x100 * i
def SV_PRIO (i : Nat) : Nat := 0xA228 + 0x100 * i
def SV_CONFREV (i : Nat) : Nat := 0xA22C + 0x100 * i
def SV_SMPRATE_EN (i : Nat) : Nat := 0xA230 + 0x100 * i
def SV_SVID (i j : Nat) : Nat := 0xA240 + 0x100 * i + 0x4 * j
def SV_CH_SRC (i j : Nat) : Nat := 0xA280 + 0x100 * i + 0x8 * j
def SV_CH_KIND (i j : Nat) : Nat := 0xA284 + 0x100 * i + 0x8 * j
def GO_CB_EN (i : Nat) : Nat := 0xB000 + 0x80 * i
def GO_CB_APPID (i : Nat) : Nat := 0xB004 + 0x80 * i
def GO_CB_PORTS (i : Nat) : Nat := 0xB008 + 0x80 * i
def GO_CB_CONFREV (i : Nat) : Nat := 0xB00C + 0x80 * i
def GO_CB_GOCBREF (i j : Nat) : Nat := 0xB040 + 0x80 * i + 0x4 * j
def GO_PT_CB (i : Nat) : Nat := 0xB800 + 0x20 * i
def GO_PT_ENTRY (i : Nat) : Nat := 0xB804 + 0x20 * i
def GO_PT_BIT (i : Nat) : Nat := 0xB808 + 0x20 * i
def GO_PT_FAIL (i : Nat) : Nat := 0xB80C + 0x20 * i
def GO_PT_ACTION (i : Nat) : Nat := 0xB810 + 0x20 * i
def RCD_AIN_MASK : Nat := 0xC000
def RCD_CELL_DEC : Nat := 0xC004
def RCD_CELL_MASK (i : Nat) : Nat := 0xC008 + 0x4 * i
def RCD_NSIG : Nat := 0xC01C
def RCD_SIG (i : Nat) : Nat := 0xC020 + 0x4 * i
def RCD_EVENTS : Nat := 0xC120
def RCD_PRE_CYC : Nat := 0xC124
def RCD_POST_CYC : Nat := 0xC128
def RCD_RETRIG : Nat := 0xC12C
def RCD_MAX_CYC : Nat := 0xC130
def RCD_OVERWRITE : Nat := 0xC134
def RCD_TRIG_SRC (i : Nat) : Nat := 0xC138 + 0x4 * i
def RCD_TRIG_SIG : Nat := 0xC158
def LT_BLK_TYPE (i : Nat) : Nat := 0x10000 + 0x80 * i
def LT_BLK_GROUP (i : Nat) : Nat := 0x10004 + 0x80 * i
def LT_BLK_PHASE (i : Nat) : Nat := 0x10008 + 0x80 * i
def LT_BLK_GEN (i : Nat) : Nat := 0x1000C + 0x80 * i
def LT_BLK_OUT (i : Nat) : Nat := 0x10010 + 0x80 * i
def LT_BLK_IN (i j : Nat) : Nat := 0x10014 + 0x80 * i + 0x4 * j
def LT_BLK_P (i j : Nat) : Nat := 0x10024 + 0x80 * i + 0x4 * j

end BK

/-- How a field's word is extended above its width (R343). -/
inductive BKind where
  | unsigned | signed | binary32
  deriving DecidableEq, Repr, Inhabited

/-- One field or regular group of fields. `lo` and `hi` bound an integer field's value, or the order
key (`F32.key`) of a binary32 field; `alt` is one further value allowed. -/
structure BField where
  base : Nat
  n1 : Nat
  s1 : Nat
  n2 : Nat
  s2 : Nat
  n3 : Nat
  s3 : Nat
  width : Nat
  kind : BKind
  reset : Word
  lo : Int
  hi : Int
  alt : Option Nat
  deriving DecidableEq, Repr, Inhabited

/-- The group holds the word at this offset. -/
def BField.has (r : BField) (off : Nat) : Bool :=
  decide (r.base ≤ off) &&
  (let d := off - r.base
   decide (d / r.s1 < r.n1) &&
   (let d := d % r.s1
    decide (d / r.s2 < r.n2) &&
    (let d := d % r.s2
     decide (d / r.s3 < r.n3) && d % r.s3 == 0)))

def bank_glb : List BField := [
  ⟨0x0, 1, 0x40000, 1, 0x40000, 1, 0x40000, 15, .unsigned, 0x9C4, 1250, 25000, none⟩,
  ⟨0x4, 1, 0x40000, 1, 0x40000, 1, 0x40000, 11, .unsigned, 0x3E8, 1000, 1500, none⟩,
  ⟨0x8, 1, 0x40000, 1, 0x40000, 1, 0x40000, 1, .unsigned, 0x1, 0, 1, none⟩,
  ⟨0xC, 1, 0x40000, 1, 0x40000, 1, 0x40000, 2, .unsigned, 0x0, 0, 3, none⟩,
  ⟨0x10, 1, 0x40000, 1, 0x40000, 1, 0x40000, 2, .unsigned, 0x0, 0, 3, none⟩,
  ⟨0x100, 1, 0x40000, 1, 0x40000, 1, 0x40000, 6, .unsigned, 0xA, 4, 40, none⟩,
  ⟨0x104, 1, 0x40000, 1, 0x40000, 1, 0x40000, 4, .unsigned, 0x3, 1, 15, none⟩,
  ⟨0x108, 1, 0x40000, 1, 0x40000, 1, 0x40000, 16, .unsigned, 0x3E8, 1, 65535, none⟩,
  ⟨0x10C, 1, 0x40000, 1, 0x40000, 1, 0x40000, 1, .unsigned, 0x1, 0, 1, none⟩,
  ⟨0x110, 1, 0x40000, 1, 0x40000, 1, 0x40000, 16, .unsigned, 0xA, 1, 65535, none⟩,
  ⟨0x114, 1, 0x40000, 1, 0x40000, 1, 0x40000, 16, .unsigned, 0x258, 1, 65535, none⟩,
  ⟨0x118, 1, 0x40000, 1, 0x40000, 1, 0x40000, 4, .unsigned, 0x3, 1, 15, none⟩,
  ⟨0x200, 1, 0x40000, 1, 0x40000, 1, 0x40000, 16, .unsigned, 0x64, 1, 65535, none⟩,
  ⟨0x400, 1, 0x40000, 1, 0x40000, 256, 0x4, 3, .unsigned, 0x0, 0, 7, none⟩,
  ⟨0x800, 1, 0x40000, 1, 0x40000, 256, 0x4, 2, .unsigned, 0x0, 0, 3, none⟩,
  ⟨0xC00, 1, 0x40000, 1, 0x40000, 12, 0x4, 1, .unsigned, 0x0, 0, 1, none⟩]

def bank_herd : List BField := [
  ⟨0x1000, 1, 0x40000, 12, 0x40, 16, 0x4, 8, .unsigned, 0xFF, 0, 143, some 255⟩,
  ⟨0x1400, 1, 0x40000, 12, 0x80, 17, 0x4, 12, .unsigned, 0x0, 0, 4095, none⟩]

def bank_an : List BField := [
  ⟨0x2000, 1, 0x40000, 1, 0x40000, 24, 0x20, 1, .unsigned, 0x0, 0, 1, none⟩,
  ⟨0x2004, 1, 0x40000, 1, 0x40000, 24, 0x20, 3, .unsigned, 0x3, 1, 5, none⟩,
  ⟨0x2008, 1, 0x40000, 1, 0x40000, 24, 0x20, 9, .unsigned, 0x10, 8, 256, none⟩,
  ⟨0x200C, 1, 0x40000, 1, 0x40000, 24, 0x20, 1, .unsigned, 0x0, 0, 1, none⟩,
  ⟨0x2010, 1, 0x40000, 1, 0x40000, 24, 0x20, 24, .signed, 0x0, -8388608, 8388607, none⟩,
  ⟨0x2014, 1, 0x40000, 1, 0x40000, 24, 0x20, 16, .unsigned, 0x100, 0, 65535, none⟩,
  ⟨0x2018, 1, 0x40000, 1, 0x40000, 24, 0x20, 8, .unsigned, 0x3, 1, 255, none⟩,
  ⟨0x201C, 1, 0x40000, 1, 0x40000, 24, 0x20, 4, .unsigned, 0xF, 0, 7, some 15⟩,
  ⟨0x2400, 2, 0x240, 3, 0xC0, 24, 0x8, 24, .signed, 0x0, -8388608, 8388607, none⟩,
  ⟨0x2404, 2, 0x240, 3, 0xC0, 24, 0x8, 24, .unsigned, 0x400000, 1, 16777215, none⟩]

def bank_lv0 : List BField := [
  ⟨0x3000, 1, 0x40000, 1, 0x40000, 12, 0x40, 2, .unsigned, 0x0, 0, 2, none⟩,
  ⟨0x3004, 1, 0x40000, 1, 0x40000, 12, 0x40, 16, .unsigned, 0x2710, 64, 65535, none⟩,
  ⟨0x3008, 1, 0x40000, 1, 0x40000, 12, 0x40, 17, .unsigned, 0x0, 0, 131071, none⟩,
  ⟨0x300C, 1, 0x40000, 1, 0x40000, 12, 0x40, 14, .unsigned, 0xC80, 0, 16383, none⟩,
  ⟨0x3010, 1, 0x40000, 1, 0x40000, 12, 0x40, 14, .unsigned, 0x640, 8, 16383, none⟩,
  ⟨0x3014, 1, 0x40000, 1, 0x40000, 12, 0x40, 1, .unsigned, 0x0, 0, 1, none⟩,
  ⟨0x3018, 1, 0x40000, 1, 0x40000, 12, 0x40, 8, .unsigned, 0x0, 0, 255, none⟩,
  ⟨0x301C, 1, 0x40000, 1, 0x40000, 12, 0x40, 14, .unsigned, 0x640, 8, 16383, none⟩,
  ⟨0x3020, 1, 0x40000, 1, 0x40000, 12, 0x40, 1, .unsigned, 0x0, 0, 1, none⟩,
  ⟨0x3024, 1, 0x40000, 1, 0x40000, 12, 0x40, 1, .unsigned, 0x0, 0, 1, none⟩,
  ⟨0x3028, 1, 0x40000, 1, 0x40000, 12, 0x40, 1, .unsigned, 0x0, 0, 1, none⟩,
  ⟨0x3400, 1, 0x40000, 1, 0x40000, 16, 0x40, 1, .unsigned, 0x0, 0, 1, none⟩,
  ⟨0x3404, 1, 0x40000, 1, 0x40000, 16, 0x40, 1, .unsigned, 0x0, 0, 1, none⟩,
  ⟨0x3408, 1, 0x40000, 1, 0x40000, 16, 0x40, 10, .unsigned, 0x3FF, 0, 1023, none⟩,
  ⟨0x340C, 1, 0x40000, 1, 0x40000, 16, 0x40, 10, .unsigned, 0x3FF, 0, 1023, none⟩,
  ⟨0x3410, 1, 0x40000, 1, 0x40000, 16, 0x40, 4, .unsigned, 0x4, 0, 15, none⟩,
  ⟨0x3414, 1, 0x40000, 1, 0x40000, 16, 0x40, 4, .unsigned, 0x4, 0, 15, none⟩,
  ⟨0x3418, 1, 0x40000, 1, 0x40000, 16, 0x40, 8, .unsigned, 0x0, 0, 200, none⟩,
  ⟨0x341C, 1, 0x40000, 1, 0x40000, 16, 0x40, 4, .unsigned, 0xF, 0, 12, some 15⟩,
  ⟨0x3420, 1, 0x40000, 1, 0x40000, 16, 0x40, 13, .unsigned, 0x0, 0, 8191, none⟩]

def bank_lv1 : List BField := [
  ⟨0x3424, 1, 0x40000, 1, 0x40000, 16, 0x40, 1, .unsigned, 0x0, 0, 1, none⟩,
  ⟨0x3428, 1, 0x40000, 1, 0x40000, 16, 0x40, 4, .unsigned, 0xF, 0, 11, some 15⟩,
  ⟨0x342C, 1, 0x40000, 1, 0x40000, 16, 0x40, 3, .unsigned, 0x0, 0, 7, none⟩,
  ⟨0x3800, 1, 0x40000, 1, 0x40000, 12, 0x8, 1, .unsigned, 0x0, 0, 1, none⟩,
  ⟨0x3804, 1, 0x40000, 1, 0x40000, 12, 0x8, 4, .unsigned, 0x8, 0, 15, none⟩,
  ⟨0x3900, 1, 0x40000, 1, 0x40000, 1, 0x40000, 8, .unsigned, 0x14, 0, 255, none⟩,
  ⟨0x3904, 1, 0x40000, 1, 0x40000, 1, 0x40000, 2, .unsigned, 0x0, 0, 2, none⟩,
  ⟨0x3908, 1, 0x40000, 1, 0x40000, 1, 0x40000, 5, .unsigned, 0x1F, 0, 23, some 31⟩,
  ⟨0x390C, 1, 0x40000, 1, 0x40000, 1, 0x40000, 5, .unsigned, 0x1F, 0, 23, some 31⟩,
  ⟨0x3910, 1, 0x40000, 1, 0x40000, 1, 0x40000, 32, .binary32, 0x0, -2139095039, 2139095039, none⟩,
  ⟨0x3914, 1, 0x40000, 1, 0x40000, 1, 0x40000, 32, .binary32, 0x0, -2139095039, 2139095039, none⟩,
  ⟨0x3918, 1, 0x40000, 1, 0x40000, 1, 0x40000, 32, .binary32, 0x3F800000, 8388608, 2139095039, none⟩,
  ⟨0x391C, 1, 0x40000, 1, 0x40000, 1, 0x40000, 32, .binary32, 0x0, 0, 2139095039, none⟩,
  ⟨0x3920, 1, 0x40000, 1, 0x40000, 1, 0x40000, 32, .binary32, 0x0, 0, 2139095039, none⟩,
  ⟨0x3924, 1, 0x40000, 1, 0x40000, 1, 0x40000, 16, .unsigned, 0x2710, 64, 65535, none⟩,
  ⟨0x3928, 1, 0x40000, 1, 0x40000, 1, 0x40000, 32, .binary32, 0x0, 0, 2139095039, none⟩,
  ⟨0x392C, 1, 0x40000, 1, 0x40000, 1, 0x40000, 16, .unsigned, 0x7D0, 1, 65535, none⟩]

def bank_lv : List BField := bank_lv0 ++ bank_lv1

def bank_ox0 : List BField := [
  ⟨0x4000, 1, 0x40000, 1, 0x40000, 1, 0x40000, 1, .unsigned, 0x0, 0, 1, none⟩,
  ⟨0x4004, 1, 0x40000, 1, 0x40000, 1, 0x40000, 32, .binary32, 0x3F800000, 8388608, 2139095039, none⟩,
  ⟨0x4008, 1, 0x40000, 1, 0x40000, 1, 0x40000, 17, .unsigned, 0x4E20, 1000, 100000, none⟩,
  ⟨0x400C, 1, 0x40000, 1, 0x40000, 1, 0x40000, 32, .binary32, 0x3EB33333, 8388608, 1056964608, none⟩,
  ⟨0x4010, 1, 0x40000, 1, 0x40000, 1, 0x40000, 32, .binary32, 0x3F7AE148, 1056964609, 1065353216, none⟩,
  ⟨0x4014, 1, 0x40000, 1, 0x40000, 1, 0x40000, 32, .binary32, 0x0, 0, 2139095039, none⟩,
  ⟨0x4018, 1, 0x40000, 1, 0x40000, 1, 0x40000, 32, .binary32, 0x42C80000, 0, 2139095039, none⟩,
  ⟨0x401C, 1, 0x40000, 1, 0x40000, 1, 0x40000, 10, .unsigned, 0x20, 2, 1023, none⟩,
  ⟨0x4020, 1, 0x40000, 1, 0x40000, 1, 0x40000, 32, .binary32, 0x0, 0, 2139095039, none⟩,
  ⟨0x4024, 1, 0x40000, 1, 0x40000, 1, 0x40000, 32, .binary32, 0x0, 0, 2139095039, none⟩,
  ⟨0x4028, 1, 0x40000, 1, 0x40000, 1, 0x40000, 32, .binary32, 0x3D4CCCCD, 0, 1056964608, none⟩,
  ⟨0x402C, 1, 0x40000, 1, 0x40000, 1, 0x40000, 32, .binary32, 0x3F800000, 0, 2139095039, none⟩,
  ⟨0x4030, 1, 0x40000, 1, 0x40000, 1, 0x40000, 32, .binary32, 0x40A00000, 8388608, 2139095039, none⟩,
  ⟨0x4034, 1, 0x40000, 1, 0x40000, 1, 0x40000, 32, .binary32, 0x447A0000, 8388608, 2139095039, none⟩,
  ⟨0x4038, 1, 0x40000, 1, 0x40000, 1, 0x40000, 32, .binary32, 0x0, 0, 2139095039, none⟩,
  ⟨0x403C, 1, 0x40000, 1, 0x40000, 1, 0x40000, 32, .binary32, 0x0, 0, 2139095039, none⟩,
  ⟨0x4040, 1, 0x40000, 1, 0x40000, 1, 0x40000, 32, .binary32, 0x3F800000, 8388608, 1065353216, none⟩,
  ⟨0x4044, 1, 0x40000, 1, 0x40000, 1, 0x40000, 32, .unsigned, 0x0, 0, 4294967295, none⟩,
  ⟨0x4048, 1, 0x40000, 1, 0x40000, 1, 0x40000, 16, .unsigned, 0x40, 1, 65535, none⟩,
  ⟨0x404C, 1, 0x40000, 1, 0x40000, 1, 0x40000, 32, .binary32, 0x3F7FFF00, 1063675494, 1065353215, none⟩]

def bank_ox1 : List BField := [
  ⟨0x4050, 1, 0x40000, 1, 0x40000, 1, 0x40000, 32, .binary32, 0x3D4CCCCD, 0, 2139095039, none⟩,
  ⟨0x4054, 1, 0x40000, 1, 0x40000, 1, 0x40000, 32, .binary32, 0x3E4CCCCD, 8388608, 1065353216, none⟩,
  ⟨0x4058, 1, 0x40000, 1, 0x40000, 1, 0x40000, 32, .binary32, 0x3E4CCCCD, 8388608, 1065353216, none⟩,
  ⟨0x405C, 1, 0x40000, 1, 0x40000, 1, 0x40000, 16, .unsigned, 0x3C, 1, 65535, none⟩,
  ⟨0x4060, 1, 0x40000, 1, 0x40000, 1, 0x40000, 32, .binary32, 0x41200000, 8388608, 2139095039, none⟩,
  ⟨0x4064, 1, 0x40000, 1, 0x40000, 1, 0x40000, 8, .unsigned, 0x10, 1, 255, none⟩,
  ⟨0x4068, 1, 0x40000, 1, 0x40000, 1, 0x40000, 5, .unsigned, 0x1F, 0, 23, some 31⟩,
  ⟨0x406C, 1, 0x40000, 1, 0x40000, 1, 0x40000, 32, .binary32, 0x0, 0, 2139095039, none⟩,
  ⟨0x4070, 1, 0x40000, 1, 0x40000, 1, 0x40000, 6, .unsigned, 0x6, 1, 48, none⟩,
  ⟨0x4074, 1, 0x40000, 1, 0x40000, 1, 0x40000, 16, .unsigned, 0x64, 1, 65535, none⟩,
  ⟨0x4078, 1, 0x40000, 1, 0x40000, 1, 0x40000, 16, .unsigned, 0x3E8, 1, 65535, none⟩,
  ⟨0x407C, 1, 0x40000, 1, 0x40000, 1, 0x40000, 16, .unsigned, 0x20, 1, 16384, none⟩,
  ⟨0x4080, 1, 0x40000, 1, 0x40000, 1, 0x40000, 32, .binary32, 0x40A00000, 8388608, 2139095039, none⟩,
  ⟨0x4084, 1, 0x40000, 1, 0x40000, 1, 0x40000, 32, .binary32, 0x0, 0, 2139095039, none⟩,
  ⟨0x4088, 1, 0x40000, 1, 0x40000, 1, 0x40000, 16, .unsigned, 0x1388, 1, 65535, none⟩,
  ⟨0x408C, 1, 0x40000, 1, 0x40000, 1, 0x40000, 32, .binary32, 0x41200000, 8388608, 2139095039, none⟩,
  ⟨0x4090, 1, 0x40000, 1, 0x40000, 1, 0x40000, 32, .binary32, 0x41A00000, 0, 2139095039, none⟩,
  ⟨0x4094, 1, 0x40000, 1, 0x40000, 1, 0x40000, 16, .unsigned, 0xFFFF, 0, 65535, none⟩,
  ⟨0x4098, 1, 0x40000, 1, 0x40000, 1, 0x40000, 8, .unsigned, 0xFF, 0, 255, none⟩,
  ⟨0x409C, 1, 0x40000, 1, 0x40000, 1, 0x40000, 12, .unsigned, 0x7D0, 100, 4095, none⟩]

def bank_ox2 : List BField := [
  ⟨0x4100, 1, 0x40000, 1, 0x40000, 3, 0x10, 1, .unsigned, 0x0, 0, 1, none⟩,
  ⟨0x4104, 1, 0x40000, 1, 0x40000, 3, 0x10, 6, .unsigned, 0x0, 0, 48, none⟩,
  ⟨0x4108, 1, 0x40000, 1, 0x40000, 3, 0x10, 6, .unsigned, 0x0, 0, 48, none⟩,
  ⟨0x410C, 1, 0x40000, 1, 0x40000, 3, 0x10, 16, .unsigned, 0x0, 0, 65535, none⟩,
  ⟨0x4200, 1, 0x40000, 1, 0x40000, 24, 0x4, 32, .binary32, 0x3F800000, -2139095039, 2139095039, none⟩,
  ⟨0x4800, 1, 0x40000, 1, 0x40000, 144, 0x10, 2, .unsigned, 0x3, 0, 3, none⟩,
  ⟨0x4804, 1, 0x40000, 1, 0x40000, 144, 0x10, 32, .binary32, 0x3A83126F, 8388608, 2139095039, none⟩,
  ⟨0x4808, 1, 0x40000, 1, 0x40000, 144, 0x10, 32, .binary32, 0x38D1B717, 8388608, 2139095039, none⟩]

def bank_ox : List BField := bank_ox0 ++ bank_ox1 ++ bank_ox2

def bank_lut : List BField := [
  ⟨0x8000, 1, 0x40000, 16, 0x100, 32, 0x4, 32, .binary32, 0x0, -2139095039, 2139095039, none⟩,
  ⟨0x8080, 1, 0x40000, 16, 0x100, 32, 0x4, 32, .binary32, 0x0, -2139095039, 2139095039, none⟩,
  ⟨0x9000, 1, 0x40000, 1, 0x40000, 512, 0x4, 32, .binary32, 0x0, -2139095039, 2139095039, none⟩]

def bank_net0 : List BField := [
  ⟨0xA000, 1, 0x40000, 1, 0x40000, 1, 0x40000, 1, .unsigned, 0x0, 0, 1, none⟩,
  ⟨0xA004, 1, 0x40000, 1, 0x40000, 1, 0x40000, 2, .unsigned, 0x0, 0, 2, none⟩,
  ⟨0xA008, 1, 0x40000, 1, 0x40000, 1, 0x40000, 10, .unsigned, 0x32, 1, 500, none⟩,
  ⟨0xA00C, 1, 0x40000, 1, 0x40000, 1, 0x40000, 32, .unsigned, 0x3E8, 1, 4294967295, none⟩,
  ⟨0xA010, 1, 0x40000, 1, 0x40000, 1, 0x40000, 1, .unsigned, 0x0, 0, 1, none⟩,
  ⟨0xA014, 1, 0x40000, 1, 0x40000, 1, 0x40000, 32, .signed, 0x0, -2147483648, 2147483647, none⟩,
  ⟨0xA018, 1, 0x40000, 1, 0x40000, 1, 0x40000, 4, .unsigned, 0x3, 1, 15, none⟩,
  ⟨0xA100, 1, 0x40000, 1, 0x40000, 1, 0x40000, 2, .unsigned, 0x0, 0, 2, none⟩,
  ⟨0xA104, 1, 0x40000, 1, 0x40000, 1, 0x40000, 1, .unsigned, 0x0, 0, 1, none⟩,
  ⟨0xA108, 1, 0x40000, 1, 0x40000, 1, 0x40000, 1, .unsigned, 0x0, 0, 1, none⟩,
  ⟨0xA10C, 1, 0x40000, 1, 0x40000, 1, 0x40000, 1, .unsigned, 0x1, 0, 1, none⟩,
  ⟨0xA110, 1, 0x40000, 1, 0x40000, 1, 0x40000, 1, .unsigned, 0x1, 0, 1, none⟩,
  ⟨0xA114, 1, 0x40000, 1, 0x40000, 1, 0x40000, 2, .unsigned, 0x3, 0, 3, none⟩,
  ⟨0xA118, 1, 0x40000, 1, 0x40000, 1, 0x40000, 8, .unsigned, 0x0, 0, 255, none⟩,
  ⟨0xA11C, 1, 0x40000, 1, 0x40000, 1, 0x40000, 1, .unsigned, 0x0, 0, 1, none⟩,
  ⟨0xA120, 1, 0x40000, 1, 0x40000, 1, 0x40000, 12, .unsigned, 0x0, 0, 4094, none⟩,
  ⟨0xA124, 1, 0x40000, 1, 0x40000, 1, 0x40000, 3, .unsigned, 0x4, 0, 7, none⟩,
  ⟨0xA128, 1, 0x40000, 1, 0x40000, 1, 0x40000, 4, .unsigned, 0x3, 2, 10, none⟩,
  ⟨0xA12C, 1, 0x40000, 1, 0x40000, 1, 0x40000, 16, .unsigned, 0xBB8, 100, 65535, none⟩,
  ⟨0xA130, 1, 0x40000, 1, 0x40000, 1, 0x40000, 8, .unsigned, 0xF8, 6, 254, none⟩]

def bank_net1 : List BField := [
  ⟨0xA134, 1, 0x40000, 1, 0x40000, 1, 0x40000, 32, .unsigned, 0x3E8, 1, 2147483647, none⟩,
  ⟨0xA138, 1, 0x40000, 1, 0x40000, 1, 0x40000, 8, .unsigned, 0x4, 1, 255, none⟩,
  ⟨0xA13C, 1, 0x40000, 1, 0x40000, 1, 0x40000, 32, .binary32, 0x3F000000, 0, 2139095039, none⟩,
  ⟨0xA140, 1, 0x40000, 1, 0x40000, 1, 0x40000, 32, .binary32, 0x3D4CCCCD, 0, 2139095039, none⟩,
  ⟨0xA144, 1, 0x40000, 1, 0x40000, 1, 0x40000, 32, .binary32, 0x3E800000, 0, 1065353216, none⟩,
  ⟨0xA148, 1, 0x40000, 1, 0x40000, 1, 0x40000, 10, .unsigned, 0xC8, 1, 500, none⟩,
  ⟨0xA14C, 1, 0x40000, 1, 0x40000, 1, 0x40000, 5, .unsigned, 0x8, 1, 16, none⟩,
  ⟨0xA150, 1, 0x40000, 1, 0x40000, 1, 0x40000, 16, .unsigned, 0x1388, 1, 65535, none⟩,
  ⟨0xA154, 1, 0x40000, 1, 0x40000, 1, 0x40000, 32, .signed, 0x0, -2147483648, 2147483647, none⟩,
  ⟨0xA158, 1, 0x40000, 1, 0x40000, 1, 0x40000, 32, .signed, 0x0, -2147483648, 2147483647, none⟩,
  ⟨0xA15C, 1, 0x40000, 1, 0x40000, 1, 0x40000, 16, .unsigned, 0x7D0, 100, 65535, none⟩,
  ⟨0xA160, 1, 0x40000, 1, 0x40000, 1, 0x40000, 16, .unsigned, 0x190, 10, 65535, none⟩,
  ⟨0xA164, 1, 0x40000, 1, 0x40000, 1, 0x40000, 8, .unsigned, 0x0, 0, 255, none⟩,
  ⟨0xA168, 1, 0x40000, 1, 0x40000, 1, 0x40000, 1, .unsigned, 0x0, 0, 1, none⟩,
  ⟨0xA16C, 1, 0x40000, 1, 0x40000, 1, 0x40000, 16, .unsigned, 0xA, 1, 65535, none⟩,
  ⟨0xA170, 1, 0x40000, 1, 0x40000, 1, 0x40000, 16, .unsigned, 0x5, 0, 65535, none⟩,
  ⟨0xA200, 1, 0x40000, 1, 0x40000, 8, 0x100, 1, .unsigned, 0x0, 0, 1, none⟩,
  ⟨0xA204, 1, 0x40000, 1, 0x40000, 8, 0x100, 2, .unsigned, 0x0, 0, 3, none⟩,
  ⟨0xA208, 1, 0x40000, 1, 0x40000, 8, 0x100, 4, .unsigned, 0x1, 1, 8, none⟩,
  ⟨0xA20C, 1, 0x40000, 1, 0x40000, 8, 0x100, 5, .unsigned, 0x0, 0, 16, none⟩]

def bank_net2 : List BField := [
  ⟨0xA210, 1, 0x40000, 1, 0x40000, 8, 0x100, 2, .unsigned, 0x1, 0, 3, none⟩,
  ⟨0xA214, 1, 0x40000, 1, 0x40000, 8, 0x100, 16, .unsigned, 0x4000, 16384, 32767, none⟩,
  ⟨0xA218, 1, 0x40000, 1, 0x40000, 8, 0x100, 32, .unsigned, 0xCD040000, 0, 4294967295, none⟩,
  ⟨0xA21C, 1, 0x40000, 1, 0x40000, 8, 0x100, 16, .unsigned, 0x10C, 0, 65535, none⟩,
  ⟨0xA220, 1, 0x40000, 1, 0x40000, 8, 0x100, 1, .unsigned, 0x0, 0, 1, none⟩,
  ⟨0xA224, 1, 0x40000, 1, 0x40000, 8, 0x100, 12, .unsigned, 0x0, 0, 4094, none⟩,
  ⟨0xA228, 1, 0x40000, 1, 0x40000, 8, 0x100, 3, .unsigned, 0x4, 0, 7, none⟩,
  ⟨0xA22C, 1, 0x40000, 1, 0x40000, 8, 0x100, 32, .unsigned, 0x1, 0, 4294967295, none⟩,
  ⟨0xA230, 1, 0x40000, 1, 0x40000, 8, 0x100, 1, .unsigned, 0x0, 0, 1, none⟩,
  ⟨0xA240, 1, 0x40000, 8, 0x100, 16, 0x4, 32, .unsigned, 0x0, 0, 4294967295, none⟩,
  ⟨0xA280, 1, 0x40000, 8, 0x100, 16, 0x8, 8, .unsigned, 0x0, 0, 255, none⟩,
  ⟨0xA284, 1, 0x40000, 8, 0x100, 16, 0x8, 1, .unsigned, 0x0, 0, 1, none⟩]

def bank_net : List BField := bank_net0 ++ bank_net1 ++ bank_net2

def bank_go : List BField := [
  ⟨0xB000, 1, 0x40000, 1, 0x40000, 16, 0x80, 1, .unsigned, 0x0, 0, 1, none⟩,
  ⟨0xB004, 1, 0x40000, 1, 0x40000, 16, 0x80, 16, .unsigned, 0x0, 0, 16383, none⟩,
  ⟨0xB008, 1, 0x40000, 1, 0x40000, 16, 0x80, 2, .unsigned, 0x3, 1, 3, none⟩,
  ⟨0xB00C, 1, 0x40000, 1, 0x40000, 16, 0x80, 32, .unsigned, 0x0, 0, 4294967295, none⟩,
  ⟨0xB040, 1, 0x40000, 16, 0x80, 16, 0x4, 32, .unsigned, 0x0, 0, 4294967295, none⟩,
  ⟨0xB800, 1, 0x40000, 1, 0x40000, 64, 0x20, 4, .unsigned, 0x0, 0, 15, none⟩,
  ⟨0xB804, 1, 0x40000, 1, 0x40000, 64, 0x20, 7, .unsigned, 0x0, 0, 127, none⟩,
  ⟨0xB808, 1, 0x40000, 1, 0x40000, 64, 0x20, 8, .unsigned, 0xFF, 0, 255, none⟩,
  ⟨0xB80C, 1, 0x40000, 1, 0x40000, 64, 0x20, 2, .unsigned, 0x0, 0, 2, none⟩,
  ⟨0xB810, 1, 0x40000, 1, 0x40000, 64, 0x20, 3, .unsigned, 0x0, 0, 5, none⟩]

def bank_rcd : List BField := [
  ⟨0xC000, 1, 0x40000, 1, 0x40000, 1, 0x40000, 24, .unsigned, 0x0, 0, 16777215, none⟩,
  ⟨0xC004, 1, 0x40000, 1, 0x40000, 1, 0x40000, 8, .unsigned, 0x0, 0, 255, none⟩,
  ⟨0xC008, 1, 0x40000, 1, 0x40000, 5, 0x4, 32, .unsigned, 0x0, 0, 4294967295, none⟩,
  ⟨0xC01C, 1, 0x40000, 1, 0x40000, 1, 0x40000, 7, .unsigned, 0x0, 0, 64, none⟩,
  ⟨0xC020, 1, 0x40000, 1, 0x40000, 64, 0x4, 11, .unsigned, 0x0, 0, 2047, none⟩,
  ⟨0xC120, 1, 0x40000, 1, 0x40000, 1, 0x40000, 1, .unsigned, 0x1, 0, 1, none⟩,
  ⟨0xC124, 1, 0x40000, 1, 0x40000, 1, 0x40000, 32, .unsigned, 0x2710, 0, 4294967295, none⟩,
  ⟨0xC128, 1, 0x40000, 1, 0x40000, 1, 0x40000, 32, .unsigned, 0x9C40, 1, 4294967295, none⟩,
  ⟨0xC12C, 1, 0x40000, 1, 0x40000, 1, 0x40000, 1, .unsigned, 0x0, 0, 1, none⟩,
  ⟨0xC130, 1, 0x40000, 1, 0x40000, 1, 0x40000, 32, .unsigned, 0x30D40, 1, 4294967295, none⟩,
  ⟨0xC134, 1, 0x40000, 1, 0x40000, 1, 0x40000, 1, .unsigned, 0x0, 0, 1, none⟩,
  ⟨0xC138, 1, 0x40000, 1, 0x40000, 8, 0x4, 32, .unsigned, 0x0, 0, 4294967295, none⟩,
  ⟨0xC158, 1, 0x40000, 1, 0x40000, 1, 0x40000, 12, .unsigned, 0xFFF, 0, 2047, some 4095⟩]

def bank_lt : List BField := [
  ⟨0x10000, 1, 0x40000, 1, 0x40000, 512, 0x80, 5, .unsigned, 0x0, 0, 25, none⟩,
  ⟨0x10004, 1, 0x40000, 1, 0x40000, 512, 0x80, 2, .unsigned, 0x0, 0, 3, none⟩,
  ⟨0x10008, 1, 0x40000, 1, 0x40000, 512, 0x80, 4, .unsigned, 0x0, 0, 15, none⟩,
  ⟨0x1000C, 1, 0x40000, 1, 0x40000, 512, 0x80, 4, .unsigned, 0x0, 0, 15, none⟩,
  ⟨0x10010, 1, 0x40000, 1, 0x40000, 512, 0x80, 11, .unsigned, 0x0, 0, 2047, none⟩,
  ⟨0x10014, 1, 0x40000, 512, 0x80, 4, 0x4, 12, .unsigned, 0xFFF, 0, 2047, some 4095⟩,
  ⟨0x10024, 1, 0x40000, 512, 0x80, 8, 0x4, 32, .binary32, 0x0, -2139095039, 2139095039, none⟩]

/-- The fields of the region that an offset lies in (R342). -/
def bankBlock (off : Nat) : List BField :=
  if off < 0x1000 then bank_glb
  else if off < 0x2000 then bank_herd
  else if off < 0x3000 then bank_an
  else if off < 0x4000 then bank_lv
  else if off < 0x8000 then bank_ox
  else if off < 0xA000 then bank_lut
  else if off < 0xB000 then bank_net
  else if off < 0xC000 then bank_go
  else if off < 0x10000 then bank_rcd
  else bank_lt

/-- The field held in the word at an offset; none: the word holds no field (R343). -/
def bankField (off : Nat) : Option BField := (bankBlock off).find? (fun r => r.has off)

/-- The reset value of every word of the bank image. -/
def bankDefault (off : Nat) : Word :=
  if 0x400 ≤ off ∧ off < 0x800 then (if off % 4 = 0 then BitVec.ofNat 32 (sevDefault ((off - 0x400) / 4)) else 0)
  else if 0x800 ≤ off ∧ off < 0xC00 then (if off % 4 = 0 then BitVec.ofNat 32 (stageDefault ((off - 0x800) / 4)) else 0)
  else ((bankField off).map (·.reset)).getD 0

/-- The word is its field's zero or sign extension, or a binary32 word (R343). -/
def BField.extOk (r : BField) (v : Word) : Bool :=
  match r.kind with
  | .binary32 => true
  | .unsigned => decide (v.toNat < 2 ^ r.width)
  | .signed => decide (v.toNat = enc 32 (sgn r.width (v.toNat % 2 ^ r.width)))

/-- The value lies in the range of its row. -/
def BField.rangeOk (r : BField) (v : Word) : Bool :=
  match r.kind with
  | .binary32 => F32.finite v && decide (r.lo ≤ F32.key v ∧ F32.key v ≤ r.hi)
  | .unsigned => decide (r.lo ≤ (v.toNat : Int) ∧ (v.toNat : Int) ≤ r.hi) || r.alt == some v.toNat
  | .signed => decide (r.lo ≤ v.toInt ∧ v.toInt ≤ r.hi)

/-- A bank image: a map of the words that differ from their reset value (R342). -/
abbrev Bank := WMap

/-- The word at an offset of a bank image. -/
def Bank.word (b : Bank) (off : Nat) : Word := WMap.get bankDefault b off
def Bank.nat (b : Bank) (off : Nat) : Nat := (Bank.word b off).toNat
def Bank.int (b : Bank) (off : Nat) : Int := (Bank.word b off).toInt
def Bank.flag (b : Bank) (off : Nat) : Bool := (Bank.word b off).toNat != 0

/-- A write of one word; a word that holds no field discards it (R343). -/
def Bank.write (b : Bank) (off : Nat) (v : Word) : Bank :=
  if (bankField off).isSome then WMap.set bankDefault b off v else b

end Sys2Proof.Machine
end

