-- ==== Sys2Proof/Machine/RegMap.lean ====
section
/-! DEFINITION. The register address map (19_address_map.md, R525): the BAR0 offset of every register
the chapters name, which of its bits are RW and which W1C, its Reset column, and its reset domain
(R530). A doorbell of BAR2 at offset x has the key 0x100000 + x. -/
namespace Sys2Proof.Machine

/-! ### Offsets -/
namespace RG

def GLB_DEV_ID : Nat := 0x0
def GLB_HALF : Nat := 0x4
def GLB_STATE : Nat := 0x8
def GLB_TIMING : Nat := 0xC
def GLB_APPLY : Nat := 0x10
def GLB_CYCLE_LO : Nat := 0x14
def GLB_CYCLE_HI : Nat := 0x18
def HL_CTRL (k : Nat) : Nat := 0x10000 + 0x1000 * k
def HL_CFG (k : Nat) : Nat := 0x10004 + 0x1000 * k
def HL_STATUS (k : Nat) : Nat := 0x10008 + 0x1000 * k
def HL_EQ (k : Nat) : Nat := 0x1000C + 0x1000 * k
def HL_EQ2 (k : Nat) : Nat := 0x10010 + 0x1000 * k
def HL_LOOP (k : Nat) : Nat := 0x10014 + 0x1000 * k
def HL_ASYM (k : Nat) : Nat := 0x10018 + 0x1000 * k
def HL_CNT_CLR (k : Nat) : Nat := 0x1003C + 0x1000 * k
def HR_CTRL (k : Nat) : Nat := 0x10400 + 0x1000 * k
def HR_STATUS (k : Nat) : Nat := 0x10404 + 0x1000 * k
def HR_CNT_CLR (k : Nat) : Nat := 0x1043C + 0x1000 * k
def HL_CNT_SH (k : Nat) : Nat := 0x10020 + 0x1000 * k
def HL_CNT_BLK (k : Nat) : Nat := 0x10024 + 0x1000 * k
def HL_CNT_MKR (k : Nat) : Nat := 0x10028 + 0x1000 * k
def HL_CNT_DOWN (k : Nat) : Nat := 0x1002C + 0x1000 * k
def HL_CNT_LOS (k : Nat) : Nat := 0x10030 + 0x1000 * k
def HR_CNT_SLOT_CRC (k : Nat) : Nat := 0x10410 + 0x1000 * k
def HR_CNT_SLOT_LATE (k : Nat) : Nat := 0x10414 + 0x1000 * k
def HR_CNT_SVC_CRC (k : Nat) : Nat := 0x10418 + 0x1000 * k
def HR_CNT_SVC_RETRY (k : Nat) : Nat := 0x1041C + 0x1000 * k
def HR_CNT_WRAP (k : Nat) : Nat := 0x10420 + 0x1000 * k
def HL_HOP (k i : Nat) : Nat := 0x10100 + 0x1000 * k + 0x8 * i
def HL_POS (k i : Nat) : Nat := 0x10104 + 0x1000 * k + 0x8 * i
def HL_SPAN (k i : Nat) : Nat := 0x10180 + 0x1000 * k + 0x4 * i
def HR_NODE (k i : Nat) : Nat := 0x10500 + 0x1000 * k + 0x4 * i
def HC_CTX (k : Nat) : Nat := 0x1C000 + 0x8 * k
def HC_SER (k : Nat) : Nat := 0x1C004 + 0x8 * k
def AN_STATUS : Nat := 0x48000
def AN_SEQ_CFG : Nat := 0x48010
def AN_SEQ_TRIG : Nat := 0x48014
def AN_SEQ_STAT : Nat := 0x48018
def AN_SEQ_CLR : Nat := 0x4801C
def AN_CH_WORD (k : Nat) : Nat := 0x48100 + 0x4 * k
def AN_CH_OTHER (k : Nat) : Nat := 0x48180 + 0x4 * k
def AN_CH_STAT (k : Nat) : Nat := 0x48200 + 0x4 * k
def AN_CH_GD (k : Nat) : Nat := 0x48280 + 0x4 * k
def AN_INT (k : Nat) : Nat := 0x48300 + 0x4 * k
def AN_LIM (k : Nat) : Nat := 0x48324 + 0x4 * k
def OX_STATUS : Nat := 0x20000
def OX_CNT_RESIDUE : Nat := 0x20004
def OX_CNT_ABSTAIN : Nat := 0x20008
def OX_CNT_CLR : Nat := 0x2000C
def OX_VCM : Nat := 0x20010
def OX_CL_STAT (k : Nat) : Nat := 0x20020 + 0x10 * k
def OX_CL_M (k : Nat) : Nat := 0x20024 + 0x10 * k
def OX_CL_W (k : Nat) : Nat := 0x20028 + 0x10 * k
def OX_CL_VSUM (k : Nat) : Nat := 0x2002C + 0x10 * k
def OX_CELL_V (k : Nat) : Nat := 0x21000 + 0x20 * k
def OX_CELL_C (k : Nat) : Nat := 0x21004 + 0x20 * k
def OX_CELL_L (k : Nat) : Nat := 0x21008 + 0x20 * k
def OX_CELL_P (k : Nat) : Nat := 0x2100C + 0x20 * k
def OX_CELL_REF (k : Nat) : Nat := 0x21010 + 0x20 * k
def OX_CELL_OFS (k : Nat) : Nat := 0x21014 + 0x20 * k
def OX_CELL_FLG (k : Nat) : Nat := 0x21018 + 0x20 * k
def LT_STATUS : Nat := 0x30000
def LT_COST : Nat := 0x30004
def LT_CHECK : Nat := 0x30008
def LT_CHECK2 : Nat := 0x3000C
def LT_BUDGET : Nat := 0x30010
def LT_PASS : Nat := 0x30014
def LT_PASS_MAX : Nat := 0x30018
def LT_CNT_OVERRUN : Nat := 0x30020
def LT_CNT_NONFINITE : Nat := 0x30024
def LT_CNT_CLR : Nat := 0x3003C
def LT_SIG (k : Nat) : Nat := 0x31000 + 0x4 * k
def LT_BLKST (k : Nat) : Nat := 0x34000 + 0x4 * k
def LV_STATUS : Nat := 0x40000
def LV_BRK_I2T : Nat := 0x40004
def LV_FLT_ST : Nat := 0x40008
def LV_CNT_CLR : Nat := 0x4003C
def LV_PAIR_STAT (k : Nat) : Nat := 0x40100 + 0x10 * k
def LV_PAIR_CMP (k : Nat) : Nat := 0x40104 + 0x10 * k
def LV_PAIR_SHORT (k : Nat) : Nat := 0x40108 + 0x10 * k
def LV_PAIR_DEFER (k : Nat) : Nat := 0x4010C + 0x10 * k
def LV_TRIP_ST (k : Nat) : Nat := 0x40200 + 0x4 * k
def SD_STATUS : Nat := 0x50000
def SD_CNT_DROP : Nat := 0x50004
def SD_CLEAR : Nat := 0x50010
def SD_CLEAR_STAT : Nat := 0x50014
def SD_FENCE_RING : Nat := 0x50020
def SD_FENCE_PAIR : Nat := 0x50024
def SD_FENCE_ADC : Nat := 0x50028
def SD_FENCE_NET : Nat := 0x5002C
def SD_CNT_CLR : Nat := 0x5003C
def SD_FENCE_CELL (k : Nat) : Nat := 0x50040 + 0x4 * k
def SD_SRC (k : Nat) : Nat := 0x50400 + 0x4 * k
def TH_STATUS : Nat := 0x58000
def TH_CTRL : Nat := 0x58004
def TH_CTRL_STAT : Nat := 0x58008
def TH_GANDER : Nat := 0x5800C
def TH_VERDICT : Nat := 0x58010
def TH_LAST_HO : Nat := 0x58014
def TH_HIST : Nat := 0x58018
def TH_REVERT : Nat := 0x5801C
def TH_CNT_CLR : Nat := 0x5803C
def TH_CNT_MISMATCH : Nat := 0x58020
def TH_CNT_HANDOVER : Nat := 0x58024
def TH_CNT_MSG_CRC : Nat := 0x58028
def TH_CNT_LATE : Nat := 0x5802C
def TH_CNT_HB_MISS : Nat := 0x58030
def HI_STATUS : Nat := 0x60000
def HI_CNT_JUDGED : Nat := 0x60010
def HI_CNT_REJECT : Nat := 0x60014
def HI_CNT_DUP : Nat := 0x60018
def HI_CNT_RESEND : Nat := 0x6001C
def HI_CNT_DB_IGNORED : Nat := 0x60020
def HI_CNT_DB_BAD : Nat := 0x60024
def HI_CNT_REC_LOST : Nat := 0x60028
def HI_CNT_WAVE_UNROUTED : Nat := 0x6002C
def HI_CNT_CLR : Nat := 0x6003C
def CR_BASE_LO (k : Nat) : Nat := 0x60100 + 0x20 * k
def CR_BASE_HI (k : Nat) : Nat := 0x60104 + 0x20 * k
def CR_CFG (k : Nat) : Nat := 0x60108 + 0x20 * k
def CR_SEQ_LO (k : Nat) : Nat := 0x6010C + 0x20 * k
def CR_SEQ_HI (k : Nat) : Nat := 0x60110 + 0x20 * k
def CR_HEAD (k : Nat) : Nat := 0x60114 + 0x20 * k
def CR_STATUS (k : Nat) : Nat := 0x60118 + 0x20 * k
def CQ_BASE_LO (k : Nat) : Nat := 0x60200 + 0x10 * k
def CQ_BASE_HI (k : Nat) : Nat := 0x60204 + 0x10 * k
def CQ_CFG (k : Nat) : Nat := 0x60208 + 0x10 * k
def CQ_PROD (k : Nat) : Nat := 0x6020C + 0x10 * k
def EV_BASE_LO : Nat := 0x60280
def EV_BASE_HI : Nat := 0x60284
def EV_CFG : Nat := 0x60288
def EV_PROD : Nat := 0x6028C
def SR_BASE_LO (k : Nat) : Nat := 0x60300 + 0x20 * k
def SR_BASE_HI (k : Nat) : Nat := 0x60304 + 0x20 * k
def SR_CFG (k : Nat) : Nat := 0x60308 + 0x20 * k
def SR_WAVE (k : Nat) : Nat := 0x6030C + 0x20 * k
def SR_PROD (k : Nat) : Nat := 0x60310 + 0x20 * k
def SR_HELD (k : Nat) : Nat := 0x60314 + 0x20 * k
def CLK_STATUS : Nat := 0x2000
def CLK_CFG : Nat := 0x2004
def CLK_START : Nat := 0x2008
def CLK_GATE : Nat := 0x200C
def CLK_CNT_GATE_TO : Nat := 0x2010
def CLK_CNT_GATE_ERR : Nat := 0x2014
def CLK_CNT_CLR : Nat := 0x203C
def TB_STATUS : Nat := 0x2100
def TB_ADJ : Nat := 0x2110
def TB_OFFSET : Nat := 0x2114
def TB_ALIGN : Nat := 0x2118
def CLK_PLL_CFG (k : Nat) : Nat := 0x2040 + 0x8 * k
def CLK_PLL_STAT (k : Nat) : Nat := 0x2044 + 0x8 * k
def TB_NOW_LO : Nat := 0x2104
def TB_NOW_HI : Nat := 0x2108
def TB_SEC_HI : Nat := 0x210C
def ETH_STATUS : Nat := 0x70000
def ETH_MAC_LO (k : Nat) : Nat := 0x70008 + 0x8 * k
def ETH_MAC_HI (k : Nat) : Nat := 0x7000C + 0x8 * k
def ETH_TSLAT (k : Nat) : Nat := 0x70018 + 0x4 * k
def ETH_CNT_FCS : Nat := 0x70020
def ETH_CNT_DISCARD : Nat := 0x70024
def ETH_CNT_OVERSIZE : Nat := 0x70028
def ETH_CNT_FWD_DROP : Nat := 0x7002C
def PRP_CNT_DUP : Nat := 0x70030
def PRP_CNT_WRONG_LAN : Nat := 0x70034
def ETH_CNT_CLR : Nat := 0x7003C
def PTP_STATUS : Nat := 0x70100
def PTP_GM_LO : Nat := 0x70104
def PTP_GM_HI : Nat := 0x70108
def PTP_PD (k : Nat) : Nat := 0x70110 + 0x4 * k
def PTP_FREQ : Nat := 0x70118
def PTP_UTC : Nat := 0x7011C
def PTP_CNT_SYNC : Nat := 0x70120
def PTP_CNT_SPIKE : Nat := 0x70124
def PTP_CNT_FUP_MISS : Nat := 0x70128
def PTP_CNT_TC_FUP : Nat := 0x7012C
def PTP_CNT_CLR : Nat := 0x7013C
def SV_CNT_LATE : Nat := 0x78050
def SV_CNT_GAP : Nat := 0x78054
def GO_CNT_STALE : Nat := 0x78058
def GO_CNT_MISMATCH : Nat := 0x7805C
def GO_CNT_SIM : Nat := 0x78060
def SV_CNT_CLR : Nat := 0x7807C
def SV_STATUS : Nat := 0x78000
def SV_S (k : Nat) : Nat := 0x78010 + 0x8 * k
def SV_S_Q (k : Nat) : Nat := 0x78014 + 0x8 * k
def GO_STATUS : Nat := 0x78100
def GO_C_ST (k : Nat) : Nat := 0x78110 + 0x8 * k
def GO_C_SQ (k : Nat) : Nat := 0x78114 + 0x8 * k
def GO_PTS_LO : Nat := 0x78190
def GO_PTS_HI : Nat := 0x78194
def CAN_CTRL (k : Nat) : Nat := 0x80000 + 0x8000 * k
def CAN_CFG (k : Nat) : Nat := 0x80004 + 0x8000 * k
def CAN_NBT (k : Nat) : Nat := 0x80008 + 0x8000 * k
def CAN_DBT (k : Nat) : Nat := 0x8000C + 0x8000 * k
def CAN_STATUS (k : Nat) : Nat := 0x80010 + 0x8000 * k
def CAN_ERR (k : Nat) : Nat := 0x80014 + 0x8000 * k
def CAN_TXREQ (k : Nat) : Nat := 0x80018 + 0x8000 * k
def CAN_TXABORT (k : Nat) : Nat := 0x8001C + 0x8000 * k
def CAN_RXSNAP (k : Nat) : Nat := 0x80020 + 0x8000 * k
def CAN_CNT_CLR (k : Nat) : Nat := 0x8003C + 0x8000 * k
def CAN_CNT_NOMATCH (k : Nat) : Nat := 0x80024 + 0x8000 * k
def CAN_CNT_RTR (k : Nat) : Nat := 0x80028 + 0x8000 * k
def CAN_CNT_PEXC (k : Nat) : Nat := 0x8002C + 0x8000 * k
def CAN_CNT_RXOK (k : Nat) : Nat := 0x80030 + 0x8000 * k
def CAN_SNAP (k i : Nat) : Nat := 0x8010C + 0x8000 * k + 0x4 * i
def CAN_OBJ_CFG (k i : Nat) : Nat := 0x81000 + 0x8000 * k + 0x80 * i
def CAN_OBJ_ID (k i : Nat) : Nat := 0x81004 + 0x8000 * k + 0x80 * i
def CAN_OBJ_MASK (k i : Nat) : Nat := 0x81008 + 0x8000 * k + 0x80 * i
def CAN_OBJ_ST (k i : Nat) : Nat := 0x8100C + 0x8000 * k + 0x80 * i
def CAN_OBJ_RXID (k i : Nat) : Nat := 0x81010 + 0x8000 * k + 0x80 * i
def CAN_OBJ_TIME (k i : Nat) : Nat := 0x81014 + 0x8000 * k + 0x80 * i
def CAN_OBJ_DATA (k i j : Nat) : Nat := 0x81040 + 0x8000 * k + 0x80 * i + 0x4 * j
def PWR_STATUS : Nat := 0x1000
def PWR_REQ : Nat := 0x1004
def PWR_REQ_STAT : Nat := 0x1008
def PWR_LAST : Nat := 0x100C
def PWR_VCFG : Nat := 0x1020
def PWR_VCORE : Nat := 0x1024
def PWR_ILIM : Nat := 0x1028
def PWR_IMONCAL : Nat := 0x102C
def PWR_IMON : Nat := 0x1030
def PWR_CNT_FASTLIM : Nat := 0x1034
def PWR_CNT_CLR : Nat := 0x103C
def PWR_VTAB (k : Nat) : Nat := 0x1010 + 0x4 * k
def PWR_VTAB0 : Nat := 0x1010
def PWR_VTAB1 : Nat := 0x1014
def PWR_VTAB2 : Nat := 0x1018
def PWR_VTAB3 : Nat := 0x101C
def MEM_STATUS : Nat := 0x90000
def MEM_CFG : Nat := 0x90004
def MEM_CNT_CLR : Nat := 0x9003C
def RCD_STATUS : Nat := 0x90100
def RCD_FREE : Nat := 0x90104
def RCD_RATE : Nat := 0x90108
def MEM_ERR_ADDR : Nat := 0x90008
def MEM_ERR_INFO : Nat := 0x9000C
def MEM_CNT_SRAM_CE1 : Nat := 0x90010
def MEM_CNT_SRAM_CE2 : Nat := 0x90014
def MEM_CNT_SRAM_UE : Nat := 0x90018
def MEM_CNT_DDR_CE1 : Nat := 0x9001C
def MEM_CNT_DDR_CE2 : Nat := 0x90020
def MEM_CNT_DDR_UE : Nat := 0x90024
def MEM_CNT_REMAP : Nat := 0x90028
def RCD_CAT_NUM (k : Nat) : Nat := 0x90200 + 0x10 * k
def RCD_CAT_CYC (k : Nat) : Nat := 0x90204 + 0x10 * k
def RCD_CAT_LEN (k : Nat) : Nat := 0x90208 + 0x10 * k
def RCD_CAT_FLG (k : Nat) : Nat := 0x9020C + 0x10 * k
def THERM_STATUS : Nat := 0xA0000
def THERM_BAND : Nat := 0xA0004
def THERM_MAX : Nat := 0xA0008
def THERM_CLR : Nat := 0xA003C
def SEC_STATUS : Nat := 0xA0100
def SEC_SVN : Nat := 0xA0104
def SEC_FWVER : Nat := 0xA0108
def SEC_CFGVER : Nat := 0xA010C
def SEC_OTP_PROG : Nat := 0xA0170
def UPD_STATUS : Nat := 0xA0200
def UPD_NODE : Nat := 0xA0204
def SEC_CKEY_HASH (k : Nat) : Nat := 0xA0140 + 0x4 * k
def PERT_CTRL : Nat := 0xF0000
def PERT_TETHER : Nat := 0xF0004
def PERT_TRAIN : Nat := 0xF0008
def PERT_DMA : Nat := 0xF000C
def PERT_DB : Nat := 0xF0010
def PERT_LT : Nat := 0xF0014
def GLB_GPIO_DIR : Nat := 0x100
def GLB_GPIO_OUT : Nat := 0x104
def GLB_GPIO_IN : Nat := 0x108
def GLB_ACC_ERR : Nat := 0x20
def GLB_ACC_ADDR : Nat := 0x24
def DB_CR_TAIL (k : Nat) : Nat := 0x100000 + 0x4 * k
def DB_CQ_HEAD (k : Nat) : Nat := 0x100020 + 0x4 * k
def DB_SR_TAIL (k : Nat) : Nat := 0x100040 + 0x4 * k
def DB_EV_HEAD : Nat := 0x100060

end RG

/-! ### Rows -/

/-- One register or regular group of registers: base offset, up to three (count, stride) steps, the
RW and W1C masks, the reset word. A step of count 1 has stride 0x200000. -/
structure RegRow where
  base : Nat
  n1 : Nat
  s1 : Nat
  n2 : Nat
  s2 : Nat
  n3 : Nat
  s3 : Nat
  rw : Word
  w1c : Word
  reset : Word
  deriving DecidableEq, Repr, Inhabited

/-- The row holds the offset. -/
def RegRow.has (r : RegRow) (off : Nat) : Bool :=
  decide (r.base ≤ off) &&
  (let d := off - r.base
   decide (d / r.s1 < r.n1) &&
   (let d := d % r.s1
    decide (d / r.s2 < r.n2) &&
    (let d := d % r.s2
     decide (d / r.s3 < r.n3) && d % r.s3 == 0)))

def regs_glb : List RegRow := [
  ⟨0x0, 1, 0x200000, 1, 0x200000, 1, 0x200000, 0x0, 0x0, 0x61440002⟩,
  ⟨0x4, 1, 0x200000, 1, 0x200000, 1, 0x200000, 0x0, 0x0, 0x0⟩,
  ⟨0x8, 1, 0x200000, 1, 0x200000, 1, 0x200000, 0x0, 0x0, 0x1⟩,
  ⟨0xC, 1, 0x200000, 1, 0x200000, 1, 0x200000, 0x0, 0x0, 0x1F409C4⟩,
  ⟨0x10, 1, 0x200000, 1, 0x200000, 1, 0x200000, 0x0, 0x0, 0x3E8⟩,
  ⟨0x14, 1, 0x200000, 1, 0x200000, 1, 0x200000, 0x0, 0x0, 0x0⟩,
  ⟨0x18, 1, 0x200000, 1, 0x200000, 1, 0x200000, 0x0, 0x0, 0x0⟩,
  ⟨0x100, 1, 0x200000, 1, 0x200000, 1, 0x200000, 0xFFFF, 0x0, 0x0⟩,
  ⟨0x104, 1, 0x200000, 1, 0x200000, 1, 0x200000, 0xFFFF, 0x0, 0x0⟩,
  ⟨0x108, 1, 0x200000, 1, 0x200000, 1, 0x200000, 0x0, 0x0, 0x0⟩,
  ⟨0x20, 1, 0x200000, 1, 0x200000, 1, 0x200000, 0x0, 0xF, 0x0⟩,
  ⟨0x24, 1, 0x200000, 1, 0x200000, 1, 0x200000, 0x0, 0x0, 0x0⟩]

def regs_herd0 : List RegRow := [
  ⟨0x10000, 1, 0x200000, 1, 0x200000, 12, 0x1000, 0x3133, 0x0, 0x12⟩,
  ⟨0x10004, 1, 0x200000, 1, 0x200000, 12, 0x1000, 0xF0F0F, 0x0, 0xC0202⟩,
  ⟨0x10008, 1, 0x200000, 1, 0x200000, 12, 0x1000, 0x0, 0x0, 0x0⟩,
  ⟨0x1000C, 1, 0x200000, 1, 0x200000, 12, 0x1000, 0x0, 0x0, 0x0⟩,
  ⟨0x10010, 1, 0x200000, 1, 0x200000, 12, 0x1000, 0x0, 0x0, 0x0⟩,
  ⟨0x10014, 1, 0x200000, 1, 0x200000, 12, 0x1000, 0x0, 0x0, 0x0⟩,
  ⟨0x10018, 1, 0x200000, 1, 0x200000, 12, 0x1000, 0x0, 0x0, 0x0⟩,
  ⟨0x1003C, 1, 0x200000, 1, 0x200000, 12, 0x1000, 0x0, 0x0, 0x0⟩,
  ⟨0x10400, 1, 0x200000, 1, 0x200000, 12, 0x1000, 0x1, 0x0, 0x1⟩,
  ⟨0x10404, 1, 0x200000, 1, 0x200000, 12, 0x1000, 0x0, 0x0, 0x0⟩,
  ⟨0x1043C, 1, 0x200000, 1, 0x200000, 12, 0x1000, 0x0, 0x0, 0x0⟩,
  ⟨0x10020, 1, 0x200000, 1, 0x200000, 12, 0x1000, 0x0, 0x0, 0x0⟩,
  ⟨0x10024, 1, 0x200000, 1, 0x200000, 12, 0x1000, 0x0, 0x0, 0x0⟩,
  ⟨0x10028, 1, 0x200000, 1, 0x200000, 12, 0x1000, 0x0, 0x0, 0x0⟩,
  ⟨0x1002C, 1, 0x200000, 1, 0x200000, 12, 0x1000, 0x0, 0x0, 0x0⟩,
  ⟨0x10030, 1, 0x200000, 1, 0x200000, 12, 0x1000, 0x0, 0x0, 0x0⟩,
  ⟨0x10410, 1, 0x200000, 1, 0x200000, 12, 0x1000, 0x0, 0x0, 0x0⟩,
  ⟨0x10414, 1, 0x200000, 1, 0x200000, 12, 0x1000, 0x0, 0x0, 0x0⟩,
  ⟨0x10418, 1, 0x200000, 1, 0x200000, 12, 0x1000, 0x0, 0x0, 0x0⟩,
  ⟨0x1041C, 1, 0x200000, 1, 0x200000, 12, 0x1000, 0x0, 0x0, 0x0⟩]

def regs_herd1 : List RegRow := [
  ⟨0x10420, 1, 0x200000, 1, 0x200000, 12, 0x1000, 0x0, 0x0, 0x0⟩,
  ⟨0x10100, 1, 0x200000, 12, 0x1000, 16, 0x8, 0x0, 0x0, 0x0⟩,
  ⟨0x10104, 1, 0x200000, 12, 0x1000, 16, 0x8, 0x0, 0x0, 0x0⟩,
  ⟨0x10180, 1, 0x200000, 12, 0x1000, 17, 0x4, 0x0, 0x0, 0x0⟩,
  ⟨0x10500, 1, 0x200000, 12, 0x1000, 16, 0x4, 0x0, 0x0, 0xFF⟩]

def regs_herd : List RegRow := regs_herd0 ++ regs_herd1

def regs_ctx : List RegRow := [
  ⟨0x1C000, 1, 0x200000, 1, 0x200000, 144, 0x8, 0x0, 0x0, 0x0⟩,
  ⟨0x1C004, 1, 0x200000, 1, 0x200000, 144, 0x8, 0x0, 0x0, 0x0⟩]

def regs_an : List RegRow := [
  ⟨0x48000, 1, 0x200000, 1, 0x200000, 1, 0x200000, 0x0, 0x0, 0x0⟩,
  ⟨0x48010, 1, 0x200000, 1, 0x200000, 1, 0x200000, 0xFFFFFF, 0x0, 0x17F⟩,
  ⟨0x48014, 1, 0x200000, 1, 0x200000, 1, 0x200000, 0x0, 0x0, 0x0⟩,
  ⟨0x48018, 1, 0x200000, 1, 0x200000, 1, 0x200000, 0x0, 0x0, 0x0⟩,
  ⟨0x4801C, 1, 0x200000, 1, 0x200000, 1, 0x200000, 0x0, 0x0, 0x0⟩,
  ⟨0x48100, 1, 0x200000, 1, 0x200000, 24, 0x4, 0x0, 0x0, 0x20000000⟩,
  ⟨0x48180, 1, 0x200000, 1, 0x200000, 24, 0x4, 0x0, 0x0, 0x0⟩,
  ⟨0x48200, 1, 0x200000, 1, 0x200000, 24, 0x4, 0x0, 0x0, 0x0⟩,
  ⟨0x48280, 1, 0x200000, 1, 0x200000, 24, 0x4, 0x0, 0x0, 0xF00465⟩,
  ⟨0x48300, 1, 0x200000, 1, 0x200000, 8, 0x4, 0x0, 0x0, 0x0⟩,
  ⟨0x48324, 1, 0x200000, 1, 0x200000, 4, 0x4, 0xFFFFFFFF, 0x0, 0xFFFF0000⟩]

def regs_ox : List RegRow := [
  ⟨0x20000, 1, 0x200000, 1, 0x200000, 1, 0x200000, 0x0, 0x0, 0x0⟩,
  ⟨0x20004, 1, 0x200000, 1, 0x200000, 1, 0x200000, 0x0, 0x0, 0x0⟩,
  ⟨0x20008, 1, 0x200000, 1, 0x200000, 1, 0x200000, 0x0, 0x0, 0x0⟩,
  ⟨0x2000C, 1, 0x200000, 1, 0x200000, 1, 0x200000, 0x0, 0x0, 0x0⟩,
  ⟨0x20010, 1, 0x200000, 1, 0x200000, 1, 0x200000, 0x0, 0x0, 0x0⟩,
  ⟨0x20020, 1, 0x200000, 1, 0x200000, 3, 0x10, 0x0, 0x0, 0x0⟩,
  ⟨0x20024, 1, 0x200000, 1, 0x200000, 3, 0x10, 0x0, 0x0, 0x0⟩,
  ⟨0x20028, 1, 0x200000, 1, 0x200000, 3, 0x10, 0x0, 0x0, 0x0⟩,
  ⟨0x2002C, 1, 0x200000, 1, 0x200000, 3, 0x10, 0x0, 0x0, 0x0⟩,
  ⟨0x21000, 1, 0x200000, 1, 0x200000, 144, 0x20, 0x0, 0x0, 0x0⟩,
  ⟨0x21004, 1, 0x200000, 1, 0x200000, 144, 0x20, 0x0, 0x0, 0x0⟩,
  ⟨0x21008, 1, 0x200000, 1, 0x200000, 144, 0x20, 0x0, 0x0, 0x0⟩,
  ⟨0x2100C, 1, 0x200000, 1, 0x200000, 144, 0x20, 0x0, 0x0, 0x0⟩,
  ⟨0x21010, 1, 0x200000, 1, 0x200000, 144, 0x20, 0x0, 0x0, 0x80000000⟩,
  ⟨0x21014, 1, 0x200000, 1, 0x200000, 144, 0x20, 0x0, 0x0, 0x0⟩,
  ⟨0x21018, 1, 0x200000, 1, 0x200000, 144, 0x20, 0x0, 0x0, 0x0⟩]

def regs_lt : List RegRow := [
  ⟨0x30000, 1, 0x200000, 1, 0x200000, 1, 0x200000, 0x0, 0x0, 0x0⟩,
  ⟨0x30004, 1, 0x200000, 1, 0x200000, 1, 0x200000, 0x0, 0x0, 0x78⟩,
  ⟨0x30008, 1, 0x200000, 1, 0x200000, 1, 0x200000, 0x0, 0x0, 0x0⟩,
  ⟨0x3000C, 1, 0x200000, 1, 0x200000, 1, 0x200000, 0x0, 0x0, 0x0⟩,
  ⟨0x30010, 1, 0x200000, 1, 0x200000, 1, 0x200000, 0x0, 0x0, 0x2134⟩,
  ⟨0x30014, 1, 0x200000, 1, 0x200000, 1, 0x200000, 0x0, 0x0, 0x0⟩,
  ⟨0x30018, 1, 0x200000, 1, 0x200000, 1, 0x200000, 0x0, 0x0, 0x0⟩,
  ⟨0x30020, 1, 0x200000, 1, 0x200000, 1, 0x200000, 0x0, 0x0, 0x0⟩,
  ⟨0x30024, 1, 0x200000, 1, 0x200000, 1, 0x200000, 0x0, 0x0, 0x0⟩,
  ⟨0x3003C, 1, 0x200000, 1, 0x200000, 1, 0x200000, 0x0, 0x0, 0x0⟩,
  ⟨0x31000, 1, 0x200000, 1, 0x200000, 2048, 0x4, 0x0, 0x0, 0x0⟩,
  ⟨0x34000, 1, 0x200000, 1, 0x200000, 512, 0x4, 0x0, 0x0, 0x0⟩]

def regs_lv : List RegRow := [
  ⟨0x40000, 1, 0x200000, 1, 0x200000, 1, 0x200000, 0x0, 0x0, 0x0⟩,
  ⟨0x40004, 1, 0x200000, 1, 0x200000, 1, 0x200000, 0x0, 0x0, 0x0⟩,
  ⟨0x40008, 1, 0x200000, 1, 0x200000, 1, 0x200000, 0x0, 0x0, 0x0⟩,
  ⟨0x4003C, 1, 0x200000, 1, 0x200000, 1, 0x200000, 0x0, 0x0, 0x0⟩,
  ⟨0x40100, 1, 0x200000, 1, 0x200000, 12, 0x10, 0x0, 0x0, 0x40⟩,
  ⟨0x40104, 1, 0x200000, 1, 0x200000, 12, 0x10, 0x0, 0x0, 0x0⟩,
  ⟨0x40108, 1, 0x200000, 1, 0x200000, 12, 0x10, 0x0, 0x0, 0x0⟩,
  ⟨0x4010C, 1, 0x200000, 1, 0x200000, 12, 0x10, 0x0, 0x0, 0x0⟩,
  ⟨0x40200, 1, 0x200000, 1, 0x200000, 16, 0x4, 0x0, 0x0, 0x0⟩]

def regs_sd : List RegRow := [
  ⟨0x50000, 1, 0x200000, 1, 0x200000, 1, 0x200000, 0x0, 0x0, 0x0⟩,
  ⟨0x50004, 1, 0x200000, 1, 0x200000, 1, 0x200000, 0x0, 0x0, 0x0⟩,
  ⟨0x50010, 1, 0x200000, 1, 0x200000, 1, 0x200000, 0x0, 0x0, 0x0⟩,
  ⟨0x50014, 1, 0x200000, 1, 0x200000, 1, 0x200000, 0x0, 0x0, 0x0⟩,
  ⟨0x50020, 1, 0x200000, 1, 0x200000, 1, 0x200000, 0x0, 0x0, 0x0⟩,
  ⟨0x50024, 1, 0x200000, 1, 0x200000, 1, 0x200000, 0x0, 0x0, 0x0⟩,
  ⟨0x50028, 1, 0x200000, 1, 0x200000, 1, 0x200000, 0x0, 0x0, 0x0⟩,
  ⟨0x5002C, 1, 0x200000, 1, 0x200000, 1, 0x200000, 0x0, 0x0, 0x0⟩,
  ⟨0x5003C, 1, 0x200000, 1, 0x200000, 1, 0x200000, 0x0, 0x0, 0x0⟩,
  ⟨0x50040, 1, 0x200000, 1, 0x200000, 5, 0x4, 0x0, 0x0, 0x0⟩,
  ⟨0x50400, 1, 0x200000, 1, 0x200000, 256, 0x4, 0x0, 0x0, 0x0⟩]

def regs_th : List RegRow := [
  ⟨0x58000, 1, 0x200000, 1, 0x200000, 1, 0x200000, 0x0, 0x0, 0x0⟩,
  ⟨0x58004, 1, 0x200000, 1, 0x200000, 1, 0x200000, 0x0, 0x0, 0x0⟩,
  ⟨0x58008, 1, 0x200000, 1, 0x200000, 1, 0x200000, 0x0, 0x0, 0x0⟩,
  ⟨0x5800C, 1, 0x200000, 1, 0x200000, 1, 0x200000, 0x0, 0x0, 0x0⟩,
  ⟨0x58010, 1, 0x200000, 1, 0x200000, 1, 0x200000, 0x0, 0x0, 0x0⟩,
  ⟨0x58014, 1, 0x200000, 1, 0x200000, 1, 0x200000, 0x0, 0x0, 0x0⟩,
  ⟨0x58018, 1, 0x200000, 1, 0x200000, 1, 0x200000, 0x0, 0x0, 0x0⟩,
  ⟨0x5801C, 1, 0x200000, 1, 0x200000, 1, 0x200000, 0x0, 0x0, 0xFFFFFFFF⟩,
  ⟨0x5803C, 1, 0x200000, 1, 0x200000, 1, 0x200000, 0x0, 0x0, 0x0⟩,
  ⟨0x58020, 1, 0x200000, 1, 0x200000, 1, 0x200000, 0x0, 0x0, 0x0⟩,
  ⟨0x58024, 1, 0x200000, 1, 0x200000, 1, 0x200000, 0x0, 0x0, 0x0⟩,
  ⟨0x58028, 1, 0x200000, 1, 0x200000, 1, 0x200000, 0x0, 0x0, 0x0⟩,
  ⟨0x5802C, 1, 0x200000, 1, 0x200000, 1, 0x200000, 0x0, 0x0, 0x0⟩,
  ⟨0x58030, 1, 0x200000, 1, 0x200000, 1, 0x200000, 0x0, 0x0, 0x0⟩]

def regs_hi0 : List RegRow := [
  ⟨0x60000, 1, 0x200000, 1, 0x200000, 1, 0x200000, 0x0, 0x400, 0x0⟩,
  ⟨0x60010, 1, 0x200000, 1, 0x200000, 1, 0x200000, 0x0, 0x0, 0x0⟩,
  ⟨0x60014, 1, 0x200000, 1, 0x200000, 1, 0x200000, 0x0, 0x0, 0x0⟩,
  ⟨0x60018, 1, 0x200000, 1, 0x200000, 1, 0x200000, 0x0, 0x0, 0x0⟩,
  ⟨0x6001C, 1, 0x200000, 1, 0x200000, 1, 0x200000, 0x0, 0x0, 0x0⟩,
  ⟨0x60020, 1, 0x200000, 1, 0x200000, 1, 0x200000, 0x0, 0x0, 0x0⟩,
  ⟨0x60024, 1, 0x200000, 1, 0x200000, 1, 0x200000, 0x0, 0x0, 0x0⟩,
  ⟨0x60028, 1, 0x200000, 1, 0x200000, 1, 0x200000, 0x0, 0x0, 0x0⟩,
  ⟨0x6002C, 1, 0x200000, 1, 0x200000, 1, 0x200000, 0x0, 0x0, 0x0⟩,
  ⟨0x6003C, 1, 0x200000, 1, 0x200000, 1, 0x200000, 0x0, 0x0, 0x0⟩,
  ⟨0x60100, 1, 0x200000, 1, 0x200000, 8, 0x20, 0xFFFFF000, 0x0, 0x0⟩,
  ⟨0x60104, 1, 0x200000, 1, 0x200000, 8, 0x20, 0xFFFFFFFF, 0x0, 0x0⟩,
  ⟨0x60108, 1, 0x200000, 1, 0x200000, 8, 0x20, 0x701FFFF, 0x0, 0x0⟩,
  ⟨0x6010C, 1, 0x200000, 1, 0x200000, 8, 0x20, 0xFFFFFFFF, 0x0, 0x0⟩,
  ⟨0x60110, 1, 0x200000, 1, 0x200000, 8, 0x20, 0xFFFFFFFF, 0x0, 0x0⟩,
  ⟨0x60114, 1, 0x200000, 1, 0x200000, 8, 0x20, 0x0, 0x0, 0x0⟩,
  ⟨0x60118, 1, 0x200000, 1, 0x200000, 8, 0x20, 0x0, 0x0, 0x0⟩,
  ⟨0x60200, 1, 0x200000, 1, 0x200000, 8, 0x10, 0xFFFFF000, 0x0, 0x0⟩,
  ⟨0x60204, 1, 0x200000, 1, 0x200000, 8, 0x10, 0xFFFFFFFF, 0x0, 0x0⟩,
  ⟨0x60208, 1, 0x200000, 1, 0x200000, 8, 0x10, 0xFF03FFFF, 0x0, 0x0⟩]

def regs_hi1 : List RegRow := [
  ⟨0x6020C, 1, 0x200000, 1, 0x200000, 8, 0x10, 0x0, 0x0, 0x0⟩,
  ⟨0x60280, 1, 0x200000, 1, 0x200000, 1, 0x200000, 0xFFFFF000, 0x0, 0x0⟩,
  ⟨0x60284, 1, 0x200000, 1, 0x200000, 1, 0x200000, 0xFFFFFFFF, 0x0, 0x0⟩,
  ⟨0x60288, 1, 0x200000, 1, 0x200000, 1, 0x200000, 0xFF03FFFF, 0x0, 0x0⟩,
  ⟨0x6028C, 1, 0x200000, 1, 0x200000, 1, 0x200000, 0x0, 0x0, 0x0⟩,
  ⟨0x60300, 1, 0x200000, 1, 0x200000, 8, 0x20, 0xFFFFF000, 0x0, 0x0⟩,
  ⟨0x60304, 1, 0x200000, 1, 0x200000, 8, 0x20, 0xFFFFFFFF, 0x0, 0x0⟩,
  ⟨0x60308, 1, 0x200000, 1, 0x200000, 8, 0x20, 0xFF03FFFF, 0x0, 0x0⟩,
  ⟨0x6030C, 1, 0x200000, 1, 0x200000, 8, 0x20, 0x1FFFF, 0x0, 0x0⟩,
  ⟨0x60310, 1, 0x200000, 1, 0x200000, 8, 0x20, 0x0, 0x0, 0x0⟩,
  ⟨0x60314, 1, 0x200000, 1, 0x200000, 8, 0x20, 0x0, 0x0, 0x0⟩]

def regs_hi : List RegRow := regs_hi0 ++ regs_hi1

def regs_clk : List RegRow := [
  ⟨0x2000, 1, 0x200000, 1, 0x200000, 1, 0x200000, 0x0, 0x0, 0x0⟩,
  ⟨0x2004, 1, 0x200000, 1, 0x200000, 1, 0x200000, 0x1, 0x0, 0x0⟩,
  ⟨0x2008, 1, 0x200000, 1, 0x200000, 1, 0x200000, 0x0, 0x0, 0x0⟩,
  ⟨0x200C, 1, 0x200000, 1, 0x200000, 1, 0x200000, 0xFF, 0x0, 0xA⟩,
  ⟨0x2010, 1, 0x200000, 1, 0x200000, 1, 0x200000, 0x0, 0x0, 0x0⟩,
  ⟨0x2014, 1, 0x200000, 1, 0x200000, 1, 0x200000, 0x0, 0x0, 0x0⟩,
  ⟨0x203C, 1, 0x200000, 1, 0x200000, 1, 0x200000, 0x0, 0x0, 0x0⟩,
  ⟨0x2100, 1, 0x200000, 1, 0x200000, 1, 0x200000, 0x0, 0x0, 0x0⟩,
  ⟨0x2110, 1, 0x200000, 1, 0x200000, 1, 0x200000, 0x0, 0x0, 0x0⟩,
  ⟨0x2114, 1, 0x200000, 1, 0x200000, 1, 0x200000, 0x0, 0x0, 0x0⟩,
  ⟨0x2118, 1, 0x200000, 1, 0x200000, 1, 0x200000, 0x0, 0x0, 0x0⟩,
  ⟨0x2040, 1, 0x200000, 1, 0x200000, 6, 0x8, 0x3, 0x0, 0x0⟩,
  ⟨0x2044, 1, 0x200000, 1, 0x200000, 6, 0x8, 0x0, 0x0, 0x0⟩,
  ⟨0x2104, 1, 0x200000, 1, 0x200000, 1, 0x200000, 0x0, 0x0, 0x0⟩,
  ⟨0x2108, 1, 0x200000, 1, 0x200000, 1, 0x200000, 0x0, 0x0, 0x0⟩,
  ⟨0x210C, 1, 0x200000, 1, 0x200000, 1, 0x200000, 0x0, 0x0, 0x0⟩]

def regs_net : List RegRow := [
  ⟨0x70000, 1, 0x200000, 1, 0x200000, 1, 0x200000, 0x0, 0x0, 0x0⟩,
  ⟨0x70008, 1, 0x200000, 1, 0x200000, 2, 0x8, 0x0, 0x0, 0x0⟩,
  ⟨0x7000C, 1, 0x200000, 1, 0x200000, 2, 0x8, 0x0, 0x0, 0x0⟩,
  ⟨0x70018, 1, 0x200000, 1, 0x200000, 2, 0x4, 0xFFFFFFFF, 0x0, 0x0⟩,
  ⟨0x70020, 1, 0x200000, 1, 0x200000, 1, 0x200000, 0x0, 0x0, 0x0⟩,
  ⟨0x70024, 1, 0x200000, 1, 0x200000, 1, 0x200000, 0x0, 0x0, 0x0⟩,
  ⟨0x70028, 1, 0x200000, 1, 0x200000, 1, 0x200000, 0x0, 0x0, 0x0⟩,
  ⟨0x7002C, 1, 0x200000, 1, 0x200000, 1, 0x200000, 0x0, 0x0, 0x0⟩,
  ⟨0x70030, 1, 0x200000, 1, 0x200000, 1, 0x200000, 0x0, 0x0, 0x0⟩,
  ⟨0x70034, 1, 0x200000, 1, 0x200000, 1, 0x200000, 0x0, 0x0, 0x0⟩,
  ⟨0x7003C, 1, 0x200000, 1, 0x200000, 1, 0x200000, 0x0, 0x0, 0x0⟩,
  ⟨0x70100, 1, 0x200000, 1, 0x200000, 1, 0x200000, 0x0, 0x0, 0xFF00⟩,
  ⟨0x70104, 1, 0x200000, 1, 0x200000, 1, 0x200000, 0x0, 0x0, 0x0⟩,
  ⟨0x70108, 1, 0x200000, 1, 0x200000, 1, 0x200000, 0x0, 0x0, 0x0⟩,
  ⟨0x70110, 1, 0x200000, 1, 0x200000, 2, 0x4, 0x0, 0x0, 0x0⟩,
  ⟨0x70118, 1, 0x200000, 1, 0x200000, 1, 0x200000, 0x0, 0x0, 0x0⟩,
  ⟨0x7011C, 1, 0x200000, 1, 0x200000, 1, 0x200000, 0x0, 0x0, 0x0⟩,
  ⟨0x70120, 1, 0x200000, 1, 0x200000, 4, 0x4, 0x0, 0x0, 0x0⟩,
  ⟨0x7013C, 1, 0x200000, 1, 0x200000, 1, 0x200000, 0x0, 0x0, 0x0⟩]

def regs_sv : List RegRow := [
  ⟨0x78000, 1, 0x200000, 1, 0x200000, 1, 0x200000, 0x0, 0x0, 0x0⟩,
  ⟨0x78010, 1, 0x200000, 1, 0x200000, 8, 0x8, 0x0, 0x0, 0x0⟩,
  ⟨0x78014, 1, 0x200000, 1, 0x200000, 8, 0x8, 0x0, 0x0, 0x0⟩,
  ⟨0x78050, 1, 0x200000, 1, 0x200000, 5, 0x4, 0x0, 0x0, 0x0⟩,
  ⟨0x7807C, 1, 0x200000, 1, 0x200000, 1, 0x200000, 0x0, 0x0, 0x0⟩,
  ⟨0x78100, 1, 0x200000, 1, 0x200000, 1, 0x200000, 0x0, 0x0, 0x0⟩,
  ⟨0x78110, 1, 0x200000, 1, 0x200000, 16, 0x8, 0x0, 0x0, 0x0⟩,
  ⟨0x78114, 1, 0x200000, 1, 0x200000, 16, 0x8, 0x0, 0x0, 0x0⟩,
  ⟨0x78190, 1, 0x200000, 1, 0x200000, 1, 0x200000, 0x0, 0x0, 0x0⟩,
  ⟨0x78194, 1, 0x200000, 1, 0x200000, 1, 0x200000, 0x0, 0x0, 0x0⟩]

def regs_can0 : List RegRow := [
  ⟨0x80000, 1, 0x200000, 1, 0x200000, 2, 0x8000, 0x1, 0x0, 0x1⟩,
  ⟨0x80004, 1, 0x200000, 1, 0x200000, 2, 0x8000, 0x7F01FF, 0x0, 0xF4⟩,
  ⟨0x80008, 1, 0x200000, 1, 0x200000, 2, 0x8000, 0x7FFFFFFF, 0x0, 0xA144E05⟩,
  ⟨0x8000C, 1, 0x200000, 1, 0x200000, 2, 0x8000, 0x7FFFF, 0x0, 0x2ACC2⟩,
  ⟨0x80010, 1, 0x200000, 1, 0x200000, 2, 0x8000, 0x0, 0x300, 0x0⟩,
  ⟨0x80014, 1, 0x200000, 1, 0x200000, 2, 0x8000, 0x0, 0x0, 0x0⟩,
  ⟨0x80018, 1, 0x200000, 1, 0x200000, 2, 0x8000, 0x0, 0x0, 0x0⟩,
  ⟨0x8001C, 1, 0x200000, 1, 0x200000, 2, 0x8000, 0x0, 0x0, 0x0⟩,
  ⟨0x80020, 1, 0x200000, 1, 0x200000, 2, 0x8000, 0x0, 0x0, 0x0⟩,
  ⟨0x8003C, 1, 0x200000, 1, 0x200000, 2, 0x8000, 0x0, 0x0, 0x0⟩,
  ⟨0x80024, 1, 0x200000, 1, 0x200000, 2, 0x8000, 0x0, 0x0, 0x0⟩,
  ⟨0x80028, 1, 0x200000, 1, 0x200000, 2, 0x8000, 0x0, 0x0, 0x0⟩,
  ⟨0x8002C, 1, 0x200000, 1, 0x200000, 2, 0x8000, 0x0, 0x0, 0x0⟩,
  ⟨0x80030, 1, 0x200000, 1, 0x200000, 2, 0x8000, 0x0, 0x0, 0x0⟩,
  ⟨0x81000, 1, 0x200000, 2, 0x8000, 128, 0x80, 0xF037F, 0x0, 0x0⟩,
  ⟨0x81004, 1, 0x200000, 2, 0x8000, 128, 0x80, 0x1FFFFFFF, 0x0, 0x0⟩,
  ⟨0x81008, 1, 0x200000, 2, 0x8000, 128, 0x80, 0x1FFFFFFF, 0x0, 0x1FFFFFFF⟩,
  ⟨0x8100C, 1, 0x200000, 2, 0x8000, 128, 0x80, 0x0, 0x0, 0x0⟩,
  ⟨0x81010, 1, 0x200000, 2, 0x8000, 128, 0x80, 0x0, 0x0, 0x0⟩,
  ⟨0x81014, 1, 0x200000, 2, 0x8000, 128, 0x80, 0x0, 0x0, 0x0⟩]

def regs_can1 : List RegRow := [
  ⟨0x81040, 2, 0x8000, 128, 0x80, 16, 0x4, 0xFFFFFFFF, 0x0, 0x0⟩,
  ⟨0x8010C, 1, 0x200000, 2, 0x8000, 3, 0x4, 0x0, 0x0, 0x0⟩,
  ⟨0x80140, 1, 0x200000, 2, 0x8000, 16, 0x4, 0x0, 0x0, 0x0⟩]

def regs_can : List RegRow := regs_can0 ++ regs_can1

def regs_pwr : List RegRow := [
  ⟨0x1000, 1, 0x200000, 1, 0x200000, 1, 0x200000, 0x0, 0x100000, 0x0⟩,
  ⟨0x1004, 1, 0x200000, 1, 0x200000, 1, 0x200000, 0x0, 0x0, 0x0⟩,
  ⟨0x1008, 1, 0x200000, 1, 0x200000, 1, 0x200000, 0x0, 0x0, 0x0⟩,
  ⟨0x100C, 1, 0x200000, 1, 0x200000, 1, 0x200000, 0x0, 0x0, 0x0⟩,
  ⟨0x1020, 1, 0x200000, 1, 0x200000, 1, 0x200000, 0xF07, 0x0, 0x400⟩,
  ⟨0x1024, 1, 0x200000, 1, 0x200000, 1, 0x200000, 0x0, 0x0, 0x60⟩,
  ⟨0x1028, 1, 0x200000, 1, 0x200000, 1, 0x200000, 0xFF00FF, 0x0, 0x230028⟩,
  ⟨0x102C, 1, 0x200000, 1, 0x200000, 1, 0x200000, 0xFF03FF, 0x0, 0x64012C⟩,
  ⟨0x1030, 1, 0x200000, 1, 0x200000, 1, 0x200000, 0x0, 0x0, 0x0⟩,
  ⟨0x1034, 1, 0x200000, 1, 0x200000, 1, 0x200000, 0x0, 0x0, 0x0⟩,
  ⟨0x103C, 1, 0x200000, 1, 0x200000, 1, 0x200000, 0x0, 0x0, 0x0⟩,
  ⟨0x1010, 1, 0x200000, 1, 0x200000, 1, 0x200000, 0x3FF, 0x0, 0x2BC⟩,
  ⟨0x1014, 1, 0x200000, 1, 0x200000, 1, 0x200000, 0x3FF, 0x0, 0x2EE⟩,
  ⟨0x1018, 1, 0x200000, 1, 0x200000, 1, 0x200000, 0x3FF, 0x0, 0x320⟩,
  ⟨0x101C, 1, 0x200000, 1, 0x200000, 1, 0x200000, 0x3FF, 0x0, 0x352⟩]

def regs_mem : List RegRow := [
  ⟨0x90000, 1, 0x200000, 1, 0x200000, 1, 0x200000, 0x0, 0x0, 0x0⟩,
  ⟨0x90004, 1, 0x200000, 1, 0x200000, 1, 0x200000, 0xFFFF, 0x0, 0x400⟩,
  ⟨0x9003C, 1, 0x200000, 1, 0x200000, 1, 0x200000, 0x0, 0x0, 0x0⟩,
  ⟨0x90100, 1, 0x200000, 1, 0x200000, 1, 0x200000, 0x0, 0x0, 0x0⟩,
  ⟨0x90104, 1, 0x200000, 1, 0x200000, 1, 0x200000, 0x0, 0x0, 0x0⟩,
  ⟨0x90108, 1, 0x200000, 1, 0x200000, 1, 0x200000, 0x0, 0x0, 0x10⟩,
  ⟨0x90008, 1, 0x200000, 1, 0x200000, 1, 0x200000, 0x0, 0x0, 0x0⟩,
  ⟨0x9000C, 1, 0x200000, 1, 0x200000, 1, 0x200000, 0x0, 0x0, 0x0⟩,
  ⟨0x90010, 1, 0x200000, 1, 0x200000, 1, 0x200000, 0x0, 0x0, 0x0⟩,
  ⟨0x90014, 1, 0x200000, 1, 0x200000, 1, 0x200000, 0x0, 0x0, 0x0⟩,
  ⟨0x90018, 1, 0x200000, 1, 0x200000, 1, 0x200000, 0x0, 0x0, 0x0⟩,
  ⟨0x9001C, 1, 0x200000, 1, 0x200000, 1, 0x200000, 0x0, 0x0, 0x0⟩,
  ⟨0x90020, 1, 0x200000, 1, 0x200000, 1, 0x200000, 0x0, 0x0, 0x0⟩,
  ⟨0x90024, 1, 0x200000, 1, 0x200000, 1, 0x200000, 0x0, 0x0, 0x0⟩,
  ⟨0x90028, 1, 0x200000, 1, 0x200000, 1, 0x200000, 0x0, 0x0, 0x0⟩,
  ⟨0x90200, 1, 0x200000, 1, 0x200000, 16, 0x10, 0x0, 0x0, 0x0⟩,
  ⟨0x90204, 1, 0x200000, 1, 0x200000, 16, 0x10, 0x0, 0x0, 0x0⟩,
  ⟨0x90208, 1, 0x200000, 1, 0x200000, 16, 0x10, 0x0, 0x0, 0x0⟩,
  ⟨0x9020C, 1, 0x200000, 1, 0x200000, 16, 0x10, 0x0, 0x0, 0x0⟩]

def regs_therm : List RegRow := [
  ⟨0xA0000, 1, 0x200000, 1, 0x200000, 1, 0x200000, 0x0, 0x1000000, 0x0⟩,
  ⟨0xA0004, 1, 0x200000, 1, 0x200000, 1, 0x200000, 0xFFFFF, 0x0, 0x35519⟩,
  ⟨0xA0008, 1, 0x200000, 1, 0x200000, 1, 0x200000, 0x0, 0x0, 0x8000⟩,
  ⟨0xA003C, 1, 0x200000, 1, 0x200000, 1, 0x200000, 0x0, 0x0, 0x0⟩,
  ⟨0xA0100, 1, 0x200000, 1, 0x200000, 1, 0x200000, 0x0, 0x0, 0x0⟩,
  ⟨0xA0104, 1, 0x200000, 1, 0x200000, 1, 0x200000, 0x0, 0x0, 0x0⟩,
  ⟨0xA0108, 1, 0x200000, 1, 0x200000, 1, 0x200000, 0x0, 0x0, 0x0⟩,
  ⟨0xA010C, 1, 0x200000, 1, 0x200000, 1, 0x200000, 0x0, 0x0, 0x0⟩,
  ⟨0xA0170, 1, 0x200000, 1, 0x200000, 1, 0x200000, 0x0, 0x0, 0x0⟩,
  ⟨0xA0200, 1, 0x200000, 1, 0x200000, 1, 0x200000, 0x0, 0x0, 0x0⟩,
  ⟨0xA0204, 1, 0x200000, 1, 0x200000, 1, 0x200000, 0x0, 0x0, 0x0⟩,
  ⟨0xA0140, 1, 0x200000, 1, 0x200000, 12, 0x4, 0xFFFFFFFF, 0x0, 0x0⟩]

def regs_pert : List RegRow := [
  ⟨0xF0000, 1, 0x200000, 1, 0x200000, 1, 0x200000, 0x1, 0x2, 0x0⟩,
  ⟨0xF0004, 1, 0x200000, 1, 0x200000, 1, 0x200000, 0xFFF007F, 0x0, 0x0⟩,
  ⟨0xF0008, 1, 0x200000, 1, 0x200000, 1, 0x200000, 0xFFF0FFF, 0x0, 0x0⟩,
  ⟨0xF000C, 1, 0x200000, 1, 0x200000, 1, 0x200000, 0xFFFF, 0x0, 0x0⟩,
  ⟨0xF0010, 1, 0x200000, 1, 0x200000, 1, 0x200000, 0xFFFF, 0x0, 0x0⟩,
  ⟨0xF0014, 1, 0x200000, 1, 0x200000, 1, 0x200000, 0x1FFFF, 0x0, 0x0⟩]

def regs_doorbell : List RegRow := [
  ⟨0x100000, 1, 0x200000, 1, 0x200000, 8, 0x4, 0xFFFFFFFF, 0x0, 0x0⟩,
  ⟨0x100020, 1, 0x200000, 1, 0x200000, 8, 0x4, 0xFFFFFFFF, 0x0, 0x0⟩,
  ⟨0x100040, 1, 0x200000, 1, 0x200000, 8, 0x4, 0xFFFFFFFF, 0x0, 0x0⟩,
  ⟨0x100060, 1, 0x200000, 1, 0x200000, 1, 0x200000, 0xFFFFFFFF, 0x0, 0x0⟩]

/-- The rows of the block that an offset lies in (R525). -/
def regBlock (off : Nat) : List RegRow :=
  if off < 0x1000 then regs_glb
  else if off < 0x2000 then regs_pwr
  else if off < 0x10000 then regs_clk
  else if off < 0x1C000 then regs_herd
  else if off < 0x20000 then regs_ctx
  else if off < 0x30000 then regs_ox
  else if off < 0x40000 then regs_lt
  else if off < 0x48000 then regs_lv
  else if off < 0x50000 then regs_an
  else if off < 0x58000 then regs_sd
  else if off < 0x60000 then regs_th
  else if off < 0x70000 then regs_hi
  else if off < 0x78000 then regs_net
  else if off < 0x80000 then regs_sv
  else if off < 0x90000 then regs_can
  else if off < 0xA0000 then regs_mem
  else if off < 0xF0000 then regs_therm
  else if off < 0x100000 then regs_pert
  else regs_doorbell

/-- The row of a register; none: unmapped (R525). -/
def regRow (off : Nat) : Option RegRow := (regBlock off).find? (fun r => r.has off)

/-- The Vector Control word of an entry of the MSI-X table, at BAR4's offset behind 0x200000: masked at reset (PRESUMED, log entry 119). -/
def isMsixCtrl (off : Nat) : Bool := decide (0x200000 ≤ off ∧ off < 0x200200) && off % 16 == 12

/-- What a register reads as while its store lists nothing for it: its Reset column (R6); ETH_TSLATp has its factory value (DESIGN
CHOICE, log entry 5). -/
def regDefault (off : Nat) : Word :=
  if isMsixCtrl off then 1
  else if off = RG.ETH_TSLAT 0 then Config.tslat 0
  else if off = RG.ETH_TSLAT 1 then Config.tslat 1
  else ((regRow off).map (·.reset)).getD 0

/-- The power domains (14_power.md), and the Lull domain. -/
inductive RegDom where
  | lull | core | lane | ana | net
  deriving DecidableEq, Repr, Inhabited

/-- The reset domain of an offset (R525). -/
def regDomain (off : Nat) : RegDom :=
  if off < 0x1000 then .core
  else if off < 0x2000 then .lull
  else if off = RG.CLK_CFG ∨ off = RG.CLK_START then .lull
  else if off < 0x10000 then (if 0x2044 ≤ off ∧ off < 0x2074 ∧ (off - 0x2044) % 8 = 0 then .lull else .core)
  else if off < 0x1C000 then .lane
  else if off < 0x48000 then .core
  else if off < 0x50000 then .ana
  else if off = RG.TH_HIST ∨ off = RG.TH_REVERT then .lull
  else if off < 0x70000 then .core
  else if off < 0x90000 then .net
  else .core

end Sys2Proof.Machine
end

