-- ==== Sys2Proof/Machine/StateCore.lean ====
section
/-! DEFINITION. Plain data of the global block, Sheepdog and the Gust path, the host interface, and
the log of what a half has sent. -/
namespace Sys2Proof.Machine

/-- Device states (R28). -/
inductive DevState where
  | lullOnly | booting | configured | ready | running | safe
  deriving DecidableEq, Repr, Inhabited

def DevState.code : DevState → Nat
  | .lullOnly => 0 | .booting => 1 | .configured => 2 | .ready => 3 | .running => 4 | .safe => 5

/-- CONFIGURED, READY or RUNNING: the cycle schedule runs. -/
def DevState.inService : DevState → Bool
  | .configured | .ready | .running => true
  | _ => false

/-- Half roles (01_architecture.md, after R30). -/
inductive Role where
  | off | syncing | standby | active | fenced | updating
  deriving DecidableEq, Repr, Inhabited

def Role.code : Role → Nat
  | .off => 0 | .syncing => 1 | .standby => 2 | .active => 3 | .fenced => 4 | .updating => 5

/-- Stage states (01_architecture.md, before R33). -/
inductive Stage where
  | stopped | precharge | run | test | recovery | tripped
  deriving DecidableEq, Repr, Inhabited

def Stage.code : Stage → Nat
  | .stopped => 0 | .precharge => 1 | .run => 2 | .test => 3 | .recovery => 4 | .tripped => 5

def Stage.ofCode : Nat → Stage
  | 0 => .stopped | 1 => .precharge | 2 => .run | 3 => .test | 4 => .recovery | _ => .tripped

/-- The global block of a half (01_architecture.md). -/
structure Glb where
  /-- PREFER names this half -/
  preferred : Bool
  dev : DevState
  role : Role
  mv : Stage
  lv : Stage
  /-- cycle count; `started`: cycle 0 has begun (R25) -/
  cycle : Nat
  started : Bool
  /-- instant of the last T0, and the timebase at which the next T0 falls -/
  t0 : Nat
  nextT0 : Nat
  ts : Nat
  ta : Nat
  /-- T_S and T_A wanted by the last R14, in force from the next boundary that R18 allows -/
  want : Option (Nat × Nat)
  need : Nat
  worst : Nat
  budget : Bool
  wrapped : Bool
  sealedAt : Option Nat
  dispAt : Option Nat
  applied : Bool
  /-- the command trains of the cycle have left -/
  trained : Bool
  /-- this half drives the PWM and BRKOUT balls (R8) -/
  own : Bool
  commits : Word
  live : Bank
  pend : Bank
  /-- the last sealed snapshot, by word (R147) -/
  snap : WMap
  /-- since when the MV stage has been in its state (instant) -/
  mvSince : Nat
  /-- upper halves latched by a read of the lower (R40, R380, R412) -/
  cycHi : Word
  /-- STAGE.MV_REQ and STAGE.LV_REQ written since the last applied commit (R36) -/
  reqMv : Bool
  reqLv : Bool
  deriving DecidableEq, Repr, Inhabited

/-- A Gust decision that no block yet carries (R277), with its instant and cycle (R82). -/
structure GustDec where
  time : Nat
  cycle : Nat
  clusters : Nat
  stage : Bool
  trip : Option Nat
  deriving DecidableEq, Repr, Inhabited

/-- A stage trip not yet in effect (R272, R531): stages bit 0 MV, bit 1 LV; the instant of the raise;
Gust whole-stage trips take effect at the first T0 whatever their age. -/
structure TripReq where
  stages : Nat
  time : Nat
  gust : Bool
  deriving DecidableEq, Repr, Inhabited

/-- A fence request that waits for the instant of R267. -/
structure FenceReq where
  unit : FUnit
  time : Nat
  deriving DecidableEq, Repr, Inhabited

/-- A pending SD_CLEAR (R282): UNIT and INDEX as written; units 10 and 11 stand for a converter and a pair that the
other half clears. `report`: it is the last write, whose outcome SD_CLEAR_STAT shows. -/
structure ClearReq where
  unit : Nat
  index : Nat
  time : Nat
  spoiled : Bool
  report : Bool
  deriving DecidableEq, Repr, Inhabited

/-- Sheepdog and the Gust path of one half (08_sheepdog_gust.md). -/
structure Sd where
  /-- records waiting, in order of raise, at most 512, each with the instant of its raise (R265, R266) -/
  queue : List (Nat × EvRec)
  /-- records passed to the other half, newest first, with those instants (R265) -/
  passed : List (Nat × EvRec)
  /-- node events waiting for the event ring, kept whole (R347) -/
  nodeEv : List (Nat × BitVec 64 × Word × SvcFrame)
  merged : List (Nat × Nat)
  drops : Nat
  deg : BitVec 2
  /-- clears of degraded marks: 1 by the last write here, 2 by an earlier one, 0 by the other half; stages -/
  degClear : List (Nat × Nat)
  /-- the raises of one clock (R263): its instant, the marks before it, the stages they trip and the units of those that
  trip, and by source the marks they set, with their units -/
  clockAt : Nat
  clockBase : BitVec 2
  clockTrip : BitVec 2
  clockUnits : List Nat
  clockDeg : List (Nat × BitVec 2 × List Nat)
  hold : BitVec 3
  /-- what each cluster's hold waits for (R278): trip inputs, a stage trip, and when it was set -/
  holdTrips : Vector (BitVec 16) 3
  holdStage : BitVec 3
  holdAt : Vector Nat 3
  holdRelease : BitVec 3
  gen : Nat
  decisions : List GustDec
  /-- shared sources whose MV stage trip this half has decided for, with the cycle (R273) -/
  decided : List (Nat × Nat)
  /-- shared records that this half has queued, newest first: source, argument, cycle (R265) -/
  sharedRecs : List (Nat × Nat × Word)
  trips : List TripReq
  fences : List FenceReq
  ringFence : BitVec 12
  pairFence : BitVec 13
  pairLocal : BitVec 13
  adcFence : BitVec 24
  oadcFence : BitVec 24
  ethFence : BitVec 2
  canFence : BitVec 2
  /-- last raise that could fence each unit, by unit code (R282), and at FENCE or above -/
  raisedAt : List (Nat × Nat)
  fencedAt : List (Nat × Nat)
  clear : List ClearReq
  deriving DecidableEq, Repr, Inhabited

/-- A completion record (R345) without its PHASE. -/
structure Rec where
  ring : Nat
  seq : Nat
  cycle : Nat
  result : Word
  tag : Nat
  opcode : Nat
  status : Nat
  fin : Bool
  single : Bool
  afterHo : Bool
  dueAt : Nat
  deriving DecidableEq, Repr, Inhabited

/-- A command held for a cycle (R339). -/
structure Held where
  ring : Nat
  cycle : Nat
  d : Desc
  deriving DecidableEq, Repr, Inhabited

/-- A descriptor sent by CMD_REPLICA and not yet acknowledged (R335 to R337). -/
structure Repl where
  ring : Nat
  seq : Nat
  d : Desc
  status : Nat
  cycle : Nat
  result : Word
  first : Nat
  last : Nat
  single : Bool
  /-- the count of the descriptor in its ring -/
  pos : Nat
  deriving DecidableEq, Repr, Inhabited

/-- What a half keeps of a command ring besides its registers. -/
structure CmdRing where
  next : Nat
  cons : Nat
  lastCycle : Nat
  /-- the last 256 judged, newest first: SEQ, assigned cycle and final status of one that took its SEQ (R331) -/
  hist : List (Option (Nat × Nat × Nat))
  err : Bool
  seqHi : Word
  deriving DecidableEq, Repr, Inhabited

/-- A completion ring or the event ring. -/
structure CplRing where
  prod : Nat
  due : List Rec
  irqAt : Option Nat
  irqWait : Bool
  stallAt : Option Nat
  stallRaised : Bool
  err : Bool
  deriving DecidableEq, Repr, Inhabited

/-- One unit of stream data (R350): STREAM, cycle, payload. -/
structure SUnit where
  stream : Nat
  cycle : Nat
  data : List Byte
  whole : Bool
  deriving DecidableEq, Repr, Inhabited

/-- A stream ring: units waiting, write-backs done, drops since the last write-back. -/
structure StrRing where
  prod : Nat
  units : List SUnit
  cont : Bool
  first : Option Nat
  firstTb : Nat
  dropped : Nat
  gap : Bool
  dropRun : Bool
  err : Bool
  deriving DecidableEq, Repr, Inhabited

/-- The host interface of one half (10_host_interface.md). -/
structure Hi where
  speed : Nat
  width : Nat
  lastRing : Nat
  cr : Vector CmdRing 8
  cq : Vector CplRing 8
  ev : CplRing
  sr : Vector StrRing 8
  held : List Held
  outcomes : List Rec
  repl : List Repl
  /-- replicas received: ring, SEQ, descriptor as admitted, its count in the ring (newest first) -/
  stored : List (Nat × Nat × Desc × Nat)
  /-- replicas received whose descriptor in host memory has not been compared yet, oldest first (R335) -/
  unread : List (Nat × Nat × Desc)
  /-- MSI-X Enable and Function Mask of the configuration space (R348, R505) -/
  msixOn : Bool
  msixMask : Bool
  /-- CMD_READ_STATE and CMD_RECORDER READ under way: command ring and descriptor -/
  reading : Option (Nat × Desc)
  readingRec : Option (Nat × Desc)
  /-- read-back: when it may start, and whether it is under way (R353) -/
  rbAt : Option Nat
  rbBusy : Bool
  /-- records due since the half last entered STANDBY, with their completion ring (R354) -/
  history : List (Nat × Rec)
  /-- VENDOR and MODEL of the headers that admitted CMD_UPDATE_STAGEs named: ring, SEQ, values (R492) -/
  updHdr : List (Nat × Nat × BitVec 16 × BitVec 16)
  deriving DecidableEq, Repr, Inhabited

/-- The header of words 3 and 608 to 612 of a snapshot as the ACTIVE half sends it, with the commit
count, the command count and the throttle level (R149, R199). -/
structure SnapHdr where
  cycle : BitVec 64
  commits : Word
  w3 : Word
  nCmd : Word
  fences : List Word
  throttle : Nat
  deriving DecidableEq, Repr, Inhabited

/-- A message on the Tether (R286). -/
inductive TMsg where
  | heartbeat (m : Heartbeat)
  | snap (m : SnapMsg)
  | slotMap (k : Nat) (mask : BitVec 16)
  | slotRec (r : SlotRec)
  | anWords (ws : List (BitVec 24 × BitVec 7))
  | digest (cycle : BitVec 16) (st : DigStatus) (d : BitVec 64)
  | replica (ring : Nat) (seq cycle : BitVec 64) (d : Desc)
  | replicaAck (ring : Nat) (seq : BitVec 64)
  | relay (m : RelayMsg)
  /-- `sync`: for a SYNCING half, not under R151 (R287) -/
  | xfer (part : XferPart) (install : Nat) (sync : Bool)
  /-- the state and outputs of Loop Table instance i, of this type, as the pass evaluates it (R297) -/
  | xferBlk (type i install : Nat) (sync : Bool)
  | timeAlign (t1 t2 t3 t4 adj : Int)
  deriving DecidableEq, Repr, Inhabited

/-- One ASDU of a sampled-value frame (R398), each sample's value with its quality. -/
structure SvAsdu where
  svId : List Byte
  smpCnt : Nat
  confRev : Word
  synch : Nat
  rate : Option Nat
  data : List (Word × Word)
  deriving DecidableEq, Repr, Inhabited

/-- A sampled-value frame (R398), its fields in order; `vlan`: VID and priority. -/
structure SvMsg where
  dst : BitVec 48
  src : BitVec 48
  vlan : Option (Nat × Nat)
  appid : Nat
  sim : Bool
  asdus : List SvAsdu
  deriving DecidableEq, Repr, Inhabited

/-- What leaves on an Ethernet port: PTP messages, forwarded frames, sampled values and PRP supervision
with the PRP trailer. `corr` is in units of 2⁻¹⁶ ns. -/
inductive EthMsg where
  | sync (m : SyncMsg)
  | followUp (m : SyncMsg)
  /-- the half's own PTP frames carry the tag of PTP.VID and PTP.PRIO where PTP.VLAN_EN is 1 -/
  | pdelayReq (vlan : Option (Nat × Nat)) (seq : BitVec 16)
  | pdelayResp (vlan : Option (Nat × Nat)) (source : BitVec 80) (seq : BitVec 16) (corr : Int)
  | frame (f : EthFrame)
  /-- the bytes of a frame of stream i, and its t_last + P (R399) -/
  | sv (i due : Nat) (bytes : List Byte)
  | supervision (bytes : List Byte)
  deriving DecidableEq, Repr, Inhabited

/-- What a half has sent, with the instant: blocks of a train or single blocks on ring k, service
frames, Tether messages as they are handed over (when each starts follows from R287, `tetherSent`), writes to host memory, MSI-X requests, Ethernet and CAN frames. -/
inductive Out where
  | ring (t : Nat) (k : Nat) (bs : List Block)
  | svc (t : Nat) (k : Nat) (f : SvcFrame)
  | tether (t : Nat) (m : TMsg)
  /-- a T0, whose window of R287 ends at its SEAL instant -/
  | window (t : Nat) (stop : Nat)
  | mem (t : Nat) (addr : Nat) (bytes : List Byte)
  | msix (t : Nat) (v : Nat)
  | eth (t : Nat) (p : Nat) (m : EthMsg)
  | can (t : Nat) (i : Nat) (f : CanFrame)
  | stream (t : Nat) (s : Nat) (addr : Nat) (bytes : List Byte)
  | jtag (t : Nat) (w : Word)
  | flash (t : Nat) (image : Nat) (slot : Bool) (img : Image)
  | slots (t : Nat) (fw cfg trialFw trialCfg : Bool)
  /-- an access under way to domain d is ended with the error response of R365 -/
  | abort (t : Nat) (d : Nat)
  deriving DecidableEq, Repr, Inhabited

end Sys2Proof.Machine
end

