-- ==== Sys2Proof/Machine/StateHerd.lean ====
section
/-! DEFINITION. Plain data of the Herd rings, the cell contexts, the analog front end and Ox. -/
namespace Sys2Proof.Machine

/-- Lane states (R49). -/
inductive LaneState where
  | down | signal | block | up
  deriving DecidableEq, Repr, Inhabited

def LaneState.code : LaneState → Nat
  | .down => 0 | .signal => 1 | .block => 2 | .up => 3

/-- Cell state codes (03_herd_rings.md, after R93). -/
inductive CellState where
  | absent | forwardOnly | enumerated | blocked | bypassed | charging | active | faulted
  deriving DecidableEq, Repr, Inhabited

def CellState.code : CellState → Nat
  | .absent => 0 | .forwardOnly => 1 | .enumerated => 2 | .blocked => 3
  | .bypassed => 4 | .charging => 5 | .active => 6 | .faulted => 7

/-- A command slot is held (the codes from BLOCKED to ACTIVE, and FAULTED as R169 lists it). -/
def CellState.slot : CellState → Bool
  | .blocked | .bypassed | .charging | .active | .faulted => true
  | _ => false

/-- A service frame sent and not yet acknowledged (R88). -/
structure SvcOut where
  pos : Nat
  seq : Nat
  kind : Nat
  data : List Block
  sent : Nat
  tries : Nat
  deriving DecidableEq, Repr, Inhabited

/-- A position that is being bound (R532): when the reply came, whether the TIME_SET has left, when
it was acknowledged. -/
structure Binding where
  replyAt : Nat
  timeSet : Bool
  ackAt : Option Nat
  deriving DecidableEq, Repr, Inhabited

/-- What a half holds of one ring position. -/
structure Node where
  /-- ABSENT or FORWARD_ONLY while no context is bound to it -/
  fwd : Bool
  /-- it has answered a probe, so that `cut` stands (R533) -/
  answered : Bool
  known : Bool
  noReply : Bool
  abandoned : Bool
  cut : Nat
  conv : Nat
  model : Nat
  fwver : Nat
  caps : Nat
  serial : Nat
  timeAck : Bool
  unlock : Bool
  binding : Option Binding
  missRun : Nat
  arrive : Nat
  tsNslot : Nat
  tsAt : Nat
  tsDue : Bool
  /-- the CLUSTER that a TIME_SET carries has changed (R89) -/
  tsNow : Bool
  cfgDue : List Nat
  sideUpSince : Option Nat
  unwrapAt : Option Nat
  grantAt : Nat
  probeAt : Nat
  deriving DecidableEq, Repr, Inhabited

/-- The valid reports kept for one position (R56): the last four, newest first; the
latest RES, if any; AGE. -/
structure PosRep where
  vals : List (Int × Nat)
  res : Option Nat
  age : Nat
  deriving DecidableEq, Repr, Inhabited

/-- One Herd ring of one half. Positions of `spans` and `cuts` count from Half A's side, those of `reps` from this half's. -/
structure Ring where
  lane : LaneState
  los : Bool
  ctleDone : Bool
  shWin : Nat
  lastM : Option Nat
  /-- instant of the last valid marker (R49) -/
  mkAt : Nat
  readapt : Option Nat
  hops : Nat
  otherSrc : Bool
  loop : Option Nat
  otherLoop : Option Nat
  /-- the difference of the loop delays exceeds HL_CFG.ASYM_NS (R58) -/
  asymOver : Bool
  reps : Vector PosRep 16
  spans : List Nat
  cuts : List Nat
  /-- HL_STATUS.DELAY_SRC: 0 NONE, 1 ESTIMATED, 2 STORED, 3 MEASURED -/
  src : Nat
  /-- delays computed and waiting for their cycle boundary (R57): cycle, DELAY_SRC, spans, cut-throughs -/
  newDelays : Option (Nat × Nat × List Nat × List Nat)
  wrapA : Nat
  wrapB : Nat
  nextA : Nat
  nextB : Nat
  wrapped : Bool
  nslot : Nat
  /-- NSLOT as R14 uses it in both halves, and the cycle from whose T0 another value is used (R18) -/
  nslotUse : Nat
  nslotNext : Option (Nat × Nat)
  nodes : Vector Node 16
  slots : List SlotRec
  oslots : List SlotRec
  mapSent : Bool
  /-- a run of train blocks is being received (R144) -/
  inRun : Bool
  /-- positions whose slot records have gone to the other half in this cycle (R145) -/
  sentRecs : BitVec 16
  omap : Option (BitVec 16)
  trains : Nat
  /-- the cycle of the last COLL_GO (R74) -/
  goCycle : Option Nat
  /-- when the ring's fence was last removed: its trains go on from the next window (R282) -/
  freeAt : Nat
  deriving DecidableEq, Repr, Inhabited

/-- Service traffic and windows of one ring (R84 to R88, R65, R108). -/
structure RingSvc where
  seq : Nat
  wait : List SvcOut
  /-- the end of the last frame that has been given its place between the windows (R73) -/
  busy : Nat
  /-- cycles of the last slot errors, below 0 before the cycle count began anew, and instants of the last dropped frames
  (sources 0x17, 0x1A) -/
  crcHist : List Int
  svcHist : List Nat
  /-- number of the next marker to send (R51); negative before the epoch (DEDUCED, log entry 105) -/
  mcount : Int
  deriving DecidableEq, Repr, Inhabited

/-- The record of a context in the sealed snapshot (R147). -/
structure CellRec where
  vdc : Nat
  icell : Nat
  idab : Nat
  isw : Nat
  temp : Nat
  flags : Nat
  nstate : Nat
  src : Nat
  miss : Nat
  deriving DecidableEq, Repr, Inhabited

/-- Identification of a cell (R156 to R159). -/
structure CellId where
  thC : F32
  pC : F32
  thL : F32
  pL : F32
  capSince : Option Nat
  capLatch : Bool
  indSince : Option Nat
  indLatch : Bool
  deriving DecidableEq, Repr, Inhabited

/-- The command of a context: MODE, MREF, DAB and CPH of its slot (R169). -/
structure CellCmd where
  mode : Nat
  mref : BitVec 16
  dab : BitVec 16
  cph : Nat
  release : Bool
  deriving DecidableEq, Repr, Inhabited

/-- One cell context. -/
structure Cell where
  bound : Bool
  ring : Nat
  pos : Nat
  st : CellState
  prevSt : CellState
  serial : Nat
  missing : Bool
  fenced : Bool
  /-- fenced after the fence-set instant of R149, to act from the next snapshot -/
  late : Bool
  byCmd : Bool
  /-- the record of the last snapshot; a missing one keeps its values (R153) -/
  rcd : CellRec
  prevV : F32
  prevI : F32
  prevMiss : Bool
  id : CellId
  cmd : CellCmd
  /-- what ESTIMATE still uses of a context that has become ABSENT since the last command (R153) -/
  gone : Option (CellRec × CellId)
  standby : Bool
  queued : Bool
  startCyc : Nat
  rank : Option Nat
  ofs : Nat
  /-- o_c before this cycle's slew; the cell entered its cluster in this cycle (R171, R173) -/
  ofs0 : Nat
  entered : Bool
  /-- bypassed after FAULTED (R169); reached by neither half (source 0x1C) -/
  aft : Bool
  unre : Bool
  /-- its admission would have needed a T_A that is not allowed (R19) -/
  barred : Bool
  /-- Δm_c of the cycle (R163); the DAB field before this cycle's (R141) -/
  dm : F32
  /-- BALANCE met a value that is not finite; 0x82 has been raised in the cycle (R141) -/
  nonfin : Bool
  told82 : Bool
  dab0 : BitVec 16
  mprev : F32
  isenseCnt : Nat
  mismCnt : Nat
  satCnt : Nat
  chargeNew : Bool
  pdab : F32
  deriving DecidableEq, Repr, Inhabited

/-- One shared analog channel in one half. -/
structure AnCh where
  /-- the last modulator bits, newest first, at most 2,048 (R112) -/
  hist : List Bool
  on : Bool
  raw : Int
  word : Int
  /-- the calibrated words of the last 3 ms with their instants in ns of the timebase, newest first (R119, R395) -/
  last : List (Nat × Int)
  /-- of the cycles of the last 3 ms, newest first: t of T0 in ns; bit 0 OVERRANGE of the chosen word, bit 1 DISPUTED,
  bit 2 own word UNSETTLED, bit 3 own converter fenced (R396) -/
  qhist : List (Nat × Nat)
  unsettled : Bool
  ovr : Bool
  stuckAt : Option Nat
  ovlAt : Option Nat
  /-- STUCK and OVERLOAD shown since the words were last sent -/
  stuckNow : Bool
  ovlNow : Bool
  /-- the self-check conditions of R128 that this half's converter showed in the cycle -/
  cyc : BitVec 5
  /-- by condition, when this half's converter and the other's last showed it alone (R128) -/
  selfAt : Vector (Option Nat) 5
  oSelfAt : Vector (Option Nat) 5
  /-- further words formed since T0 (R119) -/
  sub : Nat
  /-- this half's converter showed STUCK or OVERLOAD and the other did not, at the last SEAL that could tell -/
  alone : Bool
  oword : Option Int
  oqual : Nat
  pcount : Nat
  dispute : Nat
  qual : Nat
  snapWord : Int
  lost : Bool
  deriving DecidableEq, Repr, Inhabited

/-- The analog front end of one half. -/
structure An where
  ch : Vector AnCh 24
  calSet : Nat
  calNext : Option Nat
  fallback : Bool
  otherOk : Bool
  wordsSent : Bool
  /-- channels of the running sequence still to convert, and when the present conversion ends -/
  seq : List Nat
  seqEnd : Nat
  /-- when the last sequence completed; when the pending one starts, in the clock after (R133) -/
  seqDone : Option Nat
  seqFrom : Option Nat
  pend : Option Nat
  dropped : Nat
  dropRaised : Bool
  lastPeriod : Nat
  refBad : Option Nat
  loopBad : Option Nat
  ints : Vector (Option Int) 8
  /-- outcomes of disputes from the ACTIVE half that wait for this half's SEAL (R127): cycle, channel, loser -/
  verdicts : List (Nat × Nat × Option HalfId)
  deriving DecidableEq, Repr, Inhabited

/-- Ox of one half. -/
structure Ox where
  ix : Vector F32 3
  vsum : Vector F32 3
  vmean : Vector F32 3
  w : Vector F32 3
  pdab : Vector F32 3
  nins : Vector Nat 3
  /-- n′_x of MODULATE (R171, R182) -/
  ninsCmd : Vector Nat 3
  m : Vector F32 3
  vcm : F32
  vlv : F32
  vlvHist : List F32
  substRun : Bool
  overRun : Vector Bool 3
  shortRun : Vector Bool 3
  car : BitVec 32
  /-- the cycle of the last start group; below 0: before the cycle count began anew -/
  lastGroup : Option Int
  /-- 0 none, 1 PASSIVE, 2 INSERT, 3 ended (R176) -/
  prePhase : Nat
  preAt : Nat
  preRaised : Bool
  rampFrom : Option Nat
  abstain : Bool
  installAt : Option Nat
  residue : Bool
  /-- cells that have left their cluster since MODULATE: cluster, context, rank, offset (R172) -/
  left : List (Nat × Nat × Nat × Nat)
  snapDigest : BitVec 64
  digest : BitVec 64
  single : Bool
  deriving DecidableEq, Repr, Inhabited

end Sys2Proof.Machine
end

