-- ==== Sys2Proof/Machine/StateLv.lean ====
section
/-! DEFINITION. Plain data of the LV stage generator and of redundancy. -/
namespace Sys2Proof.Machine

/-- The pair settings that change with a load (R224). -/
structure PairPar where
  dt : Nat
  minp : Nat
  stretch : Bool
  bsN : Nat
  bsTmin : Nat
  swap : Bool
  invert : Bool
  lowOn : Bool
  deriving DecidableEq, Repr, Inhabited

/-- A load presented and not yet in effect (R220, R221). -/
structure PLoad where
  c : Nat
  en : Bool
  par : PairPar
  at_ : Int
  deferred : Bool
  deriving DecidableEq, Repr, Inhabited

/-- The two ball signals of a pair behind their dead time (R225): the commands, and for each ball the
instant from which it is on while its command is 1, and the instant at which it last turned off. -/
structure Dead where
  cmdH : Bool
  cmdL : Bool
  onH : Nat
  onL : Nat
  offH : Nat
  offL : Nat
  deriving DecidableEq, Repr, Inhabited

/-- One PWM pair of one half's generator. Edges and `cppAt` are in fine units since the epoch (below 0
before it), the instants of
`d6`, `d7`, `edge1`, `edge2` and `forceEnd` in units of 12.5 ps. -/
structure Pair where
  c : Nat
  en : Bool
  par : PairPar
  load : Option PLoad
  /-- edges of c″ still to come: instant and new level -/
  edges : List (Int × Bool)
  cpp : Bool
  cppAt : Int
  /-- the least length of the interval that begins with the last of these edges (R227, R228) -/
  cppMin : Nat
  /-- the interval of c′ that the last of these edges belongs to is one that DROP does not produce (R226) -/
  drop : Bool
  bsCount : Nat
  /-- number of the period of the last reload -/
  lastReload : Int
  /-- H_cmd and L_cmd of stage 4 -/
  lh : Bool
  ll : Bool
  /-- the balls after stage 6, and after stage 7 -/
  d6 : Dead
  d7 : Dead
  /-- instants of the last stage-6 turn-off and turn-on (R236) -/
  edge1 : Nat
  edge2 : Nat
  force : Nat
  forceEnd : Option Nat
  forceLeave : Bool
  flt : Bool
  fltIn : Bool
  /-- held safe until the next rising edge (R243); held off until the next command edge (R250) -/
  waitEdge : Bool
  waitOwn : Bool
  /-- the pair is started (R233) and has not been stopped -/
  started : Bool
  startLoad : Option PLoad
  stopAt : Option Int
  deriving DecidableEq, Repr, Inhabited

/-- One trip input of one half. -/
structure Trip where
  /-- the input in microvolts, as last given (R235) -/
  uv : Nat
  softNow : Bool
  hardNow : Bool
  softAt : Nat
  hardAt : Nat
  softOff : Nat
  hardOff : Nat
  softLatch : Bool
  hardLatch : Bool
  softLatchAt : Nat
  hardLatchAt : Nat
  blanked : Bool
  deriving DecidableEq, Repr, Inhabited

/-- The LV stage generator of one half (07_lv_stage.md). -/
structure Lv where
  pairs : Vector Pair 12
  trips : Vector Trip 16
  brkHw : Bool
  brkInhibit : Bool
  brkNosense : Bool
  brkAcc : F32
  brkOn : Bool
  /-- BRKOUT before protection, and the instant of its last change (R236, LINK 12) -/
  brkRaw : Bool
  brkEdge : Nat
  /-- when BRKOUT was last computed, and whether the software brake command alone decides it from then on (R236, R246) -/
  brkAt : Nat
  brkBySoft : Bool
  brkC : Nat
  brkEn : Bool
  brkLoad : Option PLoad
  brkReload : Int
  brkForce : Nat
  brkForceEnd : Option Nat
  clkSafe : Bool
  /-- the two-leg trips in force, each by its two latches: input, and whether it is the hard one (R238) -/
  twoLeg : List (Nat × Bool × Nat × Bool)
  preCount : Nat
  preAt : Nat
  preRaised : Bool
  preDone : Bool
  /-- RUN or TEST was entered at this cycle's T0, STOP was taken at it (R233) -/
  starting : Bool
  stopNow : Bool
  /-- a STOP waits for the pairs (R233) -/
  stopping : Bool
  /-- references of the 32 sinks SK_LV as DISPATCH handed them over (R179) -/
  refs : List F32
  /-- the LV stage state of the header that the last SEAL took (R149) -/
  hdrLv : Option Stage
  /-- CMD_PWM_FORCE of the cycle, accepted at its T0 (R229) -/
  forceCmds : List (Nat × Nat × Nat)
  deriving DecidableEq, Repr, Inhabited

/-- Redundancy of one half (09_redundancy.md). -/
structure Th where
  oRole : Role
  oDev : Nat
  hbAt : Nat
  hbOk : Bool
  hbSent : Nat
  lostAt : Option Nat
  /-- LEAVING in the other half's last heartbeat, and as it was at the last T0 (R314) -/
  oLeaving : Bool
  oLeft : Bool
  oThrottle : Nat
  oPlanned : Option Nat
  oFencesN : Nat
  oClean : Nat
  /-- hand-overs set, in the order in which they were: cycle, half to be ACTIVE, cause (1 CMD_ROLE, 2 revert) -/
  planned : List (Nat × HalfId × Nat)
  roleLine : Bool
  /-- the last fall of the ROLE line, and the last rise, which a planned hand-over sets 20 ns after its T0: not before
  `lineAt` (R306); when this half was last granted the shared balls (R292) -/
  roleLow : Nat
  roleHigh : Nat
  lineAt : Nat
  ownAt : Nat
  /-- role code of the other half's last heartbeat; when one with ROLE ACTIVE last came -/
  oRoleHb : Nat
  activeHbAt : Nat
  /-- when the half reached CONFIGURED, and whether it has left service until it is reset (R314) -/
  confAt : Nat
  /-- when the other half's heartbeats first showed it in service; 0: they do not -/
  oConfAt : Nat
  stayOff : Bool
  oFencedMsg : Bool
  /-- this half's request on the fence line of the other half, and the line on this half -/
  fenceReq : Option Nat
  fenced : Bool
  lanesTx : BitVec 2
  lanesRx : BitVec 2
  /-- the receive lanes up from each change on, newest first: instant and number (R288) -/
  laneLog : List (Nat × Nat)
  leaving : Option Nat
  run : Nat
  winMm : Nat
  winFrom : Nat
  ownDigest : Option (Nat × DigStatus × BitVec 64)
  oDigest : Option (Nat × DigStatus × BitVec 64)
  oStatus : Nat
  outcome : Nat
  compared : Bool
  notCmp : Nat
  /-- the cycle of the mismatch whose check is running -/
  check : Option Nat
  checkAt : Nat
  ownVerdict : Option Nat
  oVerdict : Option Nat
  verdictDone : Bool
  failAt : Option Nat
  resCyc : Option Nat
  /-- the last cycle in which the loop engine's residue count rose (R304) -/
  loopCyc : Option Nat
  eccCyc : Option Nat
  bankCrc : Word
  lastCause : Nat
  lastCycle : Nat
  fenceHist : List Nat
  barRaised : Bool
  cleanFrom : Option Nat
  lastRevert : Option Nat
  gotSlow : Bool
  installs : Nat
  xferFor : Option Nat
  activeAt : Nat
  /-- when the half last left the role ACTIVE -/
  leftAt : Nat
  /-- instants of the last messages with a bad CRC (source 0x9B) -/
  crcHist : List Nat
  hdr : Option SnapHdr
  hdrSent : Bool
  oSnapDigest : Option (BitVec 64)
  /-- what the TH registers show, as of the last T0 (R318), by word -/
  shown : Vector Word 13
  deriving DecidableEq, Repr, Inhabited

end Sys2Proof.Machine
end

