-- ==== Sys2Proof/Machine/StateRest.lean ====
section
/-! DEFINITION. Plain data of the Loop Table, the clocks and the timebase, the station network, CAN,
power, memory and the recorder, thermal, security and update, and the package. -/
namespace Sys2Proof.Machine

/-- What one Loop Table instance keeps (R206, R212, R214): its state words, whether its next run is the first,
whether its last run gave a non-finite value, and what LT_BLKi shows. -/
structure LtBlk where
  st : List F32
  first : Bool
  bad : Bool
  ran : Bool
  nf : Nat
  /-- the cycle of the last run; below 0: before the cycle count began anew -/
  last : Int
  deriving DecidableEq, Repr, Inhabited

/-- The running pass (R196, R197): when it began, the throttle level and the due instances, which are evaluated as it ends. -/
structure LtPass where
  start : Nat
  thr : Nat
  due : List Nat
  deriving DecidableEq, Repr, Inhabited

/-- The Loop Table of one half (06_loop_table.md). `bus` holds HOST_REF, block outputs and latched sinks;
`stage` the sinks that a SINK block has written; `shown` what LT_SIGs and LT_BLKi read. -/
structure Lt where
  bus : WMap
  stage : List (Nat × F32)
  blk : List (Nat × LtBlk)
  pass : Option LtPass
  overrun : Bool
  /-- the loop engine's residue count (R304) -/
  residues : Nat
  thr : Nat
  shown : WMap
  shownBlk : List (Nat × LtBlk)
  deriving DecidableEq, Repr, Inhabited

/-- The timebase of one half (11_clocks_timebase.md): `now` is t in units of 2⁻³² ns (R366), `epoch` the t at which
cycle 0 began. Offsets are in units of 2⁻¹⁶ ns, corrections in units of ADJ. -/
structure Tb where
  now : Nat
  epoch : Nat
  /-- what the lanes' time has gone on by while the half was held in reset and the timebase stood (R43, R51) -/
  lag : Nat
  /-- the terms of ADJ (R367); the slew term acts for `slewLeft` more ticks -/
  freq : Int
  slew : Int
  slewLeft : Nat
  align : Int
  fallback : Bool
  /-- 0 FREE, 1 LOCKED, 2 HOLDOVER, 3 SLEWING -/
  st : Nat
  disc : Nat
  cal : Bool
  /-- the offset not yet corrected, and the last offset from the discipline source -/
  rem : Int
  theta : Int
  /-- the servo of R390: integrator and output in ppb, the previous offset used and t (ns) at it -/
  int : F32
  y : F32
  prev : Option Int
  offAt : Nat
  /-- SLEWING has been entered and no offset has come since -/
  slewNew : Bool
  /-- a step scheduled: cycle K and Δ in ns (R376); after T0 of K the x by which T0 of K + 1 moves the epoch (R377) -/
  step : Option (Nat × Int)
  rephase : Option Nat
  /-- alignment: the last offset of R371 and when it came, exchanges beyond 1.5 ns in succession, 8 µs intervals sent,
  the times t2, t3, t4 of the last exchange -/
  offAlign : Int
  alignAt : Option Nat
  alignCnt : Nat
  alignSent : Nat
  lastRx : Option (Int × Int × Int)
  /-- instant of the last edge of REFIN_PPS within ±100 µs -/
  ppsAt : Nat
  /-- entry to HOLDOVER, and smpSynch then (R397) -/
  holdAt : Nat
  holdSync : Nat
  hi : Word
  secHi : Word
  deriving DecidableEq, Repr, Inhabited

/-- One PLL: powered, its output in use, its domains on the fallback or stopped, last loss (R362, R363). -/
structure Pll where
  on : Bool
  locked : Bool
  fallback : Bool
  lostAt : Nat
  /-- it has locked since its domain powered up (R362) -/
  found : Bool
  /-- the value of REFMUL in force since its last lock, 3 being 0 (R364) -/
  mult : Nat
  deriving DecidableEq, Repr, Inhabited

/-- Reference and PLLs of one half. -/
structure Ck where
  xtalStart : Nat
  xtalOk : Bool
  refOk : Bool
  ref10 : Bool
  pll : Vector Pll 6
  deriving DecidableEq, Repr, Inhabited

/-- One Ethernet port (R381, R386). Times of PTP are in units of 2⁻¹⁶ ns. -/
structure Port where
  link : Bool
  spErr : Bool
  /-- the last Pdelay_Req: t1, answered; when it was sent; its sequenceId -/
  req : Option (Int × Bool)
  reqAt : Nat
  reqSeq : BitVec 16
  /-- a two-step Pdelay_Resp waiting: t2, t4, correction -/
  two : Option (Int × Int × Int)
  /-- the last valid exchanges, newest first, and whether the last three requests were answered -/
  pds : List Int
  ans : List Bool
  pdValid : Bool
  /-- two-step Syncs waiting for their Follow_Up: source, sequenceId, t2, instant -/
  pend : List (BitVec 80 × BitVec 16 × Int × Nat)
  /-- when the last frame with a PRP trailer came; silence reported -/
  trailAt : Nat
  lanQuiet : Bool
  /-- frames waiting to leave with their priority and arrival, and the end of the frame that is leaving -/
  egress : List (Nat × Nat × EthMsg)
  busy : Nat
  deriving DecidableEq, Repr, Inhabited

/-- A master heard on a port (R387). -/
structure Master where
  port : Nat
  m : AnnounceMsg
  lastAt : Nat
  /-- two Announce messages have arrived within four announce intervals -/
  two : Bool
  deriving DecidableEq, Repr, Inhabited

/-- The SV fields and the running, TEST and SIM sets that serve the frames whose first sample instant is at or after
`at_` (ns of the timebase; R400, R401). -/
structure SvCfg where
  at_ : Nat
  bank : Bank
  run : BitVec 8
  test : BitVec 8
  sim : BitVec 8
  deriving DecidableEq, Repr, Inhabited

/-- One sampled-value stream (R394 to R402): t in ns before which no further frame begins, SMPCNT, INVALID; around a
step: the old time's end, Δ and the new time's start, all in ns. -/
structure SvStream where
  from_ : Nat
  smpCnt : Nat
  invalid : BitVec 16
  gap : Option (Nat × Int × Nat)
  /-- t_last + P of the last frame that left late, which counts once -/
  late : Option Nat
  deriving DecidableEq, Repr, Inhabited

/-- One GOOSE control block (R403 to R405); `seen`: a frame has been accepted since enabling or the last expiry. -/
structure GoBlk where
  seen : Bool
  expired : Bool
  st : Word
  sq : Word
  expiry : Nat
  sim : Bool
  badRun : Bool
  deriving DecidableEq, Repr, Inhabited

/-- A source in the PRP node table: when it was last heard, and the copies of the discard window (R408). -/
structure PrpNode where
  src : BitVec 48
  at_ : Nat
  seen : List (Nat × BitVec 16 × Nat)
  deriving DecidableEq, Repr, Inhabited

/-- The station network of one half (12_station_network.md). -/
structure Net where
  ports : Vector Port 2
  masters : List Master
  sel : Option (Nat × BitVec 80)
  /-- PTP is lost, or has not been found; the cause shown; the last offset used; spikes in succession -/
  lost : Bool
  cause : Nat
  usedAt : Nat
  spikes : Nat
  gmHi : Word
  /-- corrections held for Follow_Ups: ingress port, source, sequenceId, sum, instant (R393) -/
  tc : List (Nat × BitVec 80 × BitVec 16 × Int × Nat)
  fcs : List Nat
  fwdDropAt : Option Nat
  /-- newest first; none: no stream has run -/
  svCfg : List SvCfg
  sv : Vector SvStream 8
  go : Vector GoBlk 16
  points : BitVec 64
  nodes : List PrpNode
  prpSeq : BitVec 16
  /-- SupSequenceNumber of the next PRP_Supervision frame -/
  supSeq : BitVec 16
  supAt : Nat
  deriving DecidableEq, Repr, Inhabited

/-- A received frame as it was stored: when, in which object, whether that held another, and the object's registers before
(R430). -/
structure RxHeld where
  at_ : Nat
  obj : Nat
  frame : CanFrame
  lost : Bool
  old : List Word
  deriving DecidableEq, Repr, Inhabited

/-- One CAN FD controller (13_can.md); its message objects stand in the registers. -/
structure Can where
  /-- 0 off the bus or integrating, 1 on the bus, 3 bus-off; since when -/
  st : Nat
  at_ : Nat
  tec : Nat
  rec_ : Nat
  /-- the object whose frame is on the bus, that frame, and whether it has been aborted (R427) -/
  tx : Option Nat
  frame : CanFrame
  abort : Bool
  /-- a write of 1 to INIT waits for the frame in progress (R416) -/
  initWait : Bool
  /-- the frame stored last (R430) -/
  held : Option RxHeld
  /-- the half has left role OFF since reset; it has entered SAFE, FENCED or OFF since (R413) -/
  served : Bool
  dead : Bool
  deriving DecidableEq, Repr, Inhabited

/-- Supplies and the sequencer of one half (14_power.md). Domains: 0 CORE, 1 MEM, 2 LANE, 3 NET, 4 ANA.
Rails in the order of `RailId`. Voltages are in quarters of a millivolt. -/
structure Pw where
  rails : Vector Bool 7
  up : BitVec 5
  grp : BitVec 4
  /-- the running ramp: domain and start; 5 stands for the 20 µs before core reset is released, which end at the instant
  given (R436) -/
  ramp : Option (Nat × Nat)
  /-- the end of the last ramp -/
  rampedAt : Nat
  /-- whole-half power-up under way; the domain whose rails are waited for and since when -/
  seqUp : Bool
  wait : Option (Nat × Nat)
  /-- domains to be powered down, in order; the switches of the first open at `downAt` -/
  downs : List Nat
  downAt : Nat
  /-- whole-half power-down: cause; it waits for the running ramp -/
  whole : Option Nat
  wholeWait : Option Nat
  /-- an orderly power-down that has been called for: cause and earliest start (R442, R483) -/
  orderly : Option (Nat × Nat)
  heldUp : BitVec 5
  heldDown : BitVec 5
  hold : Option Nat
  holdS : Nat
  again : Bool
  cause : Nat
  causeDom : Nat
  /-- cause to be reported at the next entry to CONFIGURED (R443) -/
  report : Option Nat
  /-- setpoint at `setAt`, target, slewing -/
  set : Nat
  setAt : Nat
  target : Nat
  slewing : Bool
  pend : Bool
  sel : Nat
  phases : BitVec 2
  localSense : Bool
  delta : Int
  fastRun : Vector Nat 2
  fastAt : Vector Nat 2
  deriving DecidableEq, Repr, Inhabited
/-- One recorder frame (R467): its cycle, its bytes, and whether frames were lost before it. -/
structure Frame where
  cycle : Nat
  bytes : List Byte
  gap : Bool
  deriving DecidableEq, Repr, Inhabited

/-- A record, open or frozen (R471 to R475); frames newest first; causes with half and cycle. -/
structure Rcd where
  num : Nat
  trig : Nat
  stamp : BitVec 64
  pre : Nat
  stop : Nat
  causes : List (RcdCause × Nat × Nat)
  commits : Word
  frames : List Frame
  truncated : Bool
  retrig : Bool
  reading : Bool
  /-- catalogue slot of a frozen record (R477) -/
  slot : Nat
  deriving DecidableEq, Repr, Inhabited

/-- Memory protection and the recorder of one half (15_memory_recorder.md). -/
structure Me where
  /-- triggers of the recorder that this command has raised (R470); those of this half and of the other half that wait
  for T0, with the half and the cycle -/
  trig : List RcdCause
  trigs : List (RcdCause × Nat × Nat)
  armed : Bool
  /-- frames that belong to no record, newest first -/
  ring : List Frame
  opened : Option Rcd
  /-- frozen records, oldest first -/
  frozen : List Rcd
  nextNum : Nat
  gap : Bool
  /-- event records and analog words of the cycle -/
  evs : List EvRec
  words : List (Nat × Word)
  sigCond : Bool
  /-- the bank image whose RCD fields stay in force while a record is open (R469) -/
  hold : Option Bank
  /-- scrubbers: next word or line, start of the pass, late raised -/
  sramPos : Nat
  sramFrom : Nat
  sramLate : Bool
  ddrPos : Nat
  ddrFrom : Nat
  ddrLate : Bool
  /-- instants of one-bit corrections within 24 h, and when 0xA7 was last raised, per memory -/
  ce1 : Vector (List Nat) 2
  ceAt : Vector (Option Nat) 2
  /-- LPDDR4X rows with a two-bit correction (and its pass) or an uncorrectable error; spare rows -/
  ce2Rows : List (Nat × Nat)
  ueRows : List Nat
  mapped : List Nat
  ddrPass : Nat
  spareUsed : Nat
  spareLow : Bool
  mr4 : Nat
  refMult : Nat
  /-- when the half entered FENCED through source 0xA1 (R459) -/
  ueAt : Option Nat
  deriving DecidableEq, Repr, Inhabited

/-- Temperature, secure boot and update of one half (16_thermal_security_update.md). -/
structure Tm where
  /-- last T_j in 0.1 °C, when the last result came, and the highest since cleared -/
  temp : Int
  tempAt : Nat
  maxTemp : Int
  /-- thresholds active: warning, throttle 1, throttle 2; the level requested -/
  warn : Bool
  thr1 : Bool
  thr2 : Bool
  level : Nat
  failed : Bool
  band : Nat
  /-- the LULL shutdown comparator is asserted; the instant of the shutdown raise -/
  cmp : Bool
  shut : Option Nat
  fwSlot : Bool
  cfgSlot : Bool
  /-- the booted slots that are on trial (R490) -/
  trialFw : Bool
  trialCfg : Bool
  fallback : Bool
  presetSkip : Bool
  fwSvn : Nat
  cfgSvn : Nat
  fwVer : Word
  cfgVer : Word
  /-- sources 0xF0 to raise at the next entry to CONFIGURED, by VALUE -/
  report : List Nat
  /-- rollback counters raised since delivery, and the customer key hash programmed (R487, R488) -/
  otpFw : Option Nat
  otpCfg : Option Nat
  ckey : Option (BitVec 384)
  /-- BOOTING waits for the customer key hash (R487): the flash it boots from -/
  waitKey : Option Flash
  bootSel : Bool
  /-- the slot table: the active slots and their TRIAL marks (R485, R490) -/
  markFw : Bool
  markCfg : Bool
  trialMarkFw : Bool
  trialMarkCfg : Bool
  /-- the cycle of the last CMD_UPDATE_ACTIVATE that this half has taken (R489) -/
  actCyc : Option Nat
  /-- the end of BOOTING, and whether STANDBY or ACTIVE has been entered since -/
  bootEnd : Nat
  served : Bool
  /-- UPD_STATUS: state, IMAGE, blocks written; the stage's descriptor and image -/
  upd : Nat
  updImage : Nat
  updBlocks : Nat
  updDesc : Option Desc
  updImg : Option Image
  /-- node firmware: contexts named, holding the whole image, left out; next offset per context -/
  fwNodes : List Nat
  fwDone : List Nat
  fwFailed : List Nat
  fwNext : List (Nat × Nat)
  deriving DecidableEq, Repr, Inhabited

/-- What the package's balls hold of one half (17_package.md, R504 to R508). -/
structure Pk where
  /-- RESET_x_N holds the half's core reset -/
  low : Bool
  /-- the half is halted through its TAP -/
  halt : Bool
  /-- the TAP's instruction register and boundary register -/
  ir : BitVec 8
  bsr : List Bool
  /-- instant of the last core reset: a fence request older than it is void (R293) -/
  rstAt : Nat
  deriving DecidableEq, Repr, Inhabited

end Sys2Proof.Machine
end

