-- ==== Sys2Proof/Machine/State.lean ====
section
/-! DEFINITION. The state of the package: two halves, the instant, and the queue of commands. -/
namespace Sys2Proof.Machine

/-- The slow state as the ACTIVE half sends it (R298): what its items are taken from, as it was then. -/
structure Slow where
  glb : Glb
  sd : Sd
  hi : Hi
  rings : Vector Ring 12
  cells : Vector Cell 144
  an : An
  ox : Ox
  tb : Tb
  svCfg : List SvCfg
  nextNum : Nat
  armed : Bool
  winMm : Nat
  winFrom : Nat
  bankCrc : Word
  regs : WMap
  deriving DecidableEq, Repr, Inhabited

/-- State transfer (R297, R298): what this half has sent, as it was then; for each part the offset of the chunk that comes
next, and what has come whole. The fast parts stand with their install cycle. -/
structure Xfer where
  /-- the slow state as this half has sent it -/
  slowOut : Option Slow
  /-- the Ox state as this half has sent it, for its install cycle -/
  oxOut : Option (Nat × Vector Cell 144 × Ox)
  /-- the Loop Table's state as this half has sent it, for its install cycle -/
  ltOut : Option (Nat × Lt)
  /-- for each part, the offset of the chunk that comes next -/
  next : Vector (Option Nat) 3
  /-- the Ox state that has come whole, for its install cycle -/
  oxIn : Option (Nat × Vector Cell 144 × Ox)
  /-- the Loop Table's state that has come whole, for its install cycle -/
  ltIn : Option (Nat × Lt)
  /-- replicas that have come since the first slow chunk, before the slow state is whole -/
  early : List Repl
  deriving DecidableEq, Repr, Inhabited

/-- What the hardware and accesses have done to write-1-to-clear bits in a clock that may be the present one (R5, R528). -/
structure Acc where
  /-- W1C bits that the hardware has set: register, instant and bits -/
  w1c : List (Nat × Nat × Word)
  /-- the last flagged access: its instant, its GLB_ACC_ADDR, and OVERFLOW before it -/
  last : Option (Nat × Word × Bool)
  /-- the last write that cleared a bit of GLB_ACC_ERR -/
  clr : Option Nat
  deriving DecidableEq, Repr

/-- One half (one die) of the package. -/
structure Half where
  id : HalfId
  glb : Glb
  sd : Sd
  hi : Hi
  rings : Vector Ring 12
  svc : Vector RingSvc 12
  cells : Vector Cell 144
  an : An
  ox : Ox
  lt : Lt
  lv : Lv
  th : Th
  xf : Xfer
  tb : Tb
  ck : Ck
  net : Net
  can : Vector Can 2
  pw : Pw
  me : Me
  tm : Tm
  pk : Pk
  /-- registers that differ from their Reset column, by BAR0 offset (R525; doorbells at 0x100000) -/
  regs : WMap
  acc : Acc
  /-- what the half has sent, newest first -/
  out : List Out
  deriving DecidableEq, Repr

/-- The package: the instant in units of 12.5 ps since the model's time 0 (DESIGN CHOICE, log entry 1), the two halves, and
the commands waiting, first in, first out. -/
structure State where
  time : Nat
  a : Half
  b : Half
  pending : List Instr
  deriving DecidableEq, Repr

/-- No command ends in a fault: the block gives every command an effect or ignores it. The type has no
constructor, so that no meaning can raise one. -/
inductive Fault where
  deriving DecidableEq, Repr

/-- Why a command has no meaning in the model. -/
inductive Refusal where
  /-- a row of the opcode table whose meaning is not written; raised by Dispatch.lean alone; safe -/
  | notModelled (mnemonic : String)
  deriving DecidableEq, Repr

/-! ### Reset -/

/-- A context with no node bound: its estimators read 1.0 (R156). -/
def Cell.init : Cell :=
  { (default : Cell) with
    id := ⟨F32.one, F32.one, F32.one, F32.one, none, false, none, false⟩
    cmd := ⟨0, 0, 0x8000#16, 0, false⟩ }

/-- A half as the rise of its VLULL rail leaves it: LULL_ONLY, every register at its Reset column, the
banks at their reset values. What the spec gives no reset value for is 0, empty or off (DESIGN CHOICE, log entry 20). -/
def Half.init (i : HalfId) : Half where
  id := i
  glb := { (default : Glb) with ts := 500, ta := 1000 }
  sd := default
  hi := default
  rings := Vector.replicate 12 default
  svc := Vector.replicate 12 default
  cells := Vector.replicate 144 Cell.init
  an := { (default : An) with ch := Vector.replicate 24 { (default : AnCh) with qual := 0x20 } }
  ox := default
  lt := default
  lv := default
  th := { (default : Th) with shown := vset (Vector.replicate 13 0#32) 7 0xFFFFFFFF#32 }
  xf := default
  tb := default
  ck := default
  net := { (default : Net) with lost := true }
  can := default
  pw := { (default : Pw) with phases := 3 }
  me := default
  tm := { (default : Tm) with maxTemp := -32768 }
  pk := { (default : Pk) with ir := 0x02 }
  regs := []
  acc := ⟨[], none, none⟩
  out := []

/-- The package before any rail has risen: both halves in LULL_ONLY, nothing waiting. (DESIGN CHOICE, log entry 7.) -/
def State.reset : State := ⟨0, Half.init .a, Half.init .b, []⟩

end Sys2Proof.Machine
end

