-- ==== Sys2Proof/Machine/Ops.lean ====
section
/-! DEFINITION. The named operations over the state: registers, banks, counters, the advance of time
and of the timebase, the log of what is sent, and the shape of a command's effect. -/
namespace Sys2Proof.Machine

/-! ### Registers and banks -/

/-- The stored word of a register (its Reset column while nothing is listed). -/
def Half.reg (h : Half) (off : Nat) : Word := WMap.get regDefault h.regs off

def Half.put (h : Half) (off : Nat) (v : Word) : Half :=
  { h with regs := WMap.set regDefault h.regs off v }

/-- Field hi:lo of a register. -/
def Half.getF (h : Half) (off hi lo : Nat) : Nat := wbits (h.reg off) hi lo

def Half.putF (h : Half) (off hi lo v : Nat) : Half := h.put off (wset (h.reg off) hi lo v)

/-- Two instants lie in the same clock of CORE, 1 ns (R5, DEDUCED, log entry 107). -/
def sameClock (a b : Nat) : Bool := a / 80 == b / 80

/-- The hardware sets W1C bit n of a register (R5): a write of 1 in the same clock leaves it set. -/
def Half.setW1c (h : Half) (now off n : Nat) : Half :=
  { h.putF off n n 1 with acc := { h.acc with
      w1c := (off, now, BitVec.ofNat 32 (2 ^ n)) :: h.acc.w1c.filter fun x => sameClock x.2.1 now } }

/-- The W1C bits of a register that the hardware has set in the clock of `now`. -/
def Half.w1cKept (h : Half) (now off : Nat) : Word :=
  (h.acc.w1c.filter fun x => x.1 == off && sameClock x.2.1 now).foldl (fun w x => w ||| x.2.2) 0

/-- One more event in a saturating 32-bit counter. -/
def Half.count (h : Half) (off : Nat) : Half := h.put off (sat32 (h.reg off) 1)

/-- The live bank. -/
def Half.bn (h : Half) (off : Nat) : Nat := Bank.nat h.glb.live off
def Half.bw (h : Half) (off : Nat) : Word := Bank.word h.glb.live off
def Half.bi (h : Half) (off : Nat) : Int := Bank.int h.glb.live off
def Half.bf (h : Half) (off : Nat) : Bool := Bank.flag h.glb.live off

/-- The image of a bank (R342, R344). -/
def bankBytes (b : Bank) : List Byte := (List.range 32768).flatMap fun i => leWord (Bank.word b (4 * i))

/-! ### Parts of a half -/

def Half.modGlb (h : Half) (f : Glb → Glb) : Half := { h with glb := f h.glb }
def Half.modSd (h : Half) (f : Sd → Sd) : Half := { h with sd := f h.sd }
def Half.modHi (h : Half) (f : Hi → Hi) : Half := { h with hi := f h.hi }
def Half.modAn (h : Half) (f : An → An) : Half := { h with an := f h.an }
def Half.modOx (h : Half) (f : Ox → Ox) : Half := { h with ox := f h.ox }
def Half.modLv (h : Half) (f : Lv → Lv) : Half := { h with lv := f h.lv }
def Half.modTh (h : Half) (f : Th → Th) : Half := { h with th := f h.th }
def Half.modXf (h : Half) (f : Xfer → Xfer) : Half := { h with xf := f h.xf }
def Half.modTb (h : Half) (f : Tb → Tb) : Half := { h with tb := f h.tb }
def Half.modCk (h : Half) (f : Ck → Ck) : Half := { h with ck := f h.ck }
def Half.modRing (h : Half) (k : Nat) (f : Ring → Ring) : Half := { h with rings := vmod h.rings k f }
def Half.modSvc (h : Half) (k : Nat) (f : RingSvc → RingSvc) : Half := { h with svc := vmod h.svc k f }
def Half.modCell (h : Half) (c : Nat) (f : Cell → Cell) : Half := { h with cells := vmod h.cells c f }
def Half.modNode (h : Half) (k p : Nat) (f : Node → Node) : Half :=
  h.modRing k (fun r => { r with nodes := vmod r.nodes (p - 1) f })
def Half.modPair (h : Half) (n : Nat) (f : Pair → Pair) : Half :=
  h.modLv (fun l => { l with pairs := vmod l.pairs n f })
def Half.modTrip (h : Half) (n : Nat) (f : Trip → Trip) : Half :=
  h.modLv (fun l => { l with trips := vmod l.trips n f })
def Half.modAnCh (h : Half) (n : Nat) (f : AnCh → AnCh) : Half :=
  h.modAn (fun a => { a with ch := vmod a.ch n f })

def Half.ring (h : Half) (k : Nat) : Ring := vget h.rings k
def Half.cell (h : Half) (c : Nat) : Cell := vget h.cells c
def Half.node (h : Half) (k p : Nat) : Node := vget (vget h.rings k).nodes (p - 1)
def Half.anCh (h : Half) (n : Nat) : AnCh := vget h.an.ch n

/-- One more item in the log of what the half has sent. -/
def Half.send (h : Half) (o : Out) : Half := { h with out := o :: h.out }

/-- A field of a perturbation register while perturbations act, else 0 (R494, R495). -/
def Half.pert (h : Half) (off hi lo : Nat) : Nat := if h.getF RG.PERT_CTRL 0 0 = 1 then h.getF off hi lo else 0

/-- The bit of PERT_TETHER.CLASSES that names a message; TIME_ALIGN has none. -/
def TMsg.pertBit : TMsg → Option Nat
  | .heartbeat _ => some 0
  | .snap _ => some 1
  | .slotMap .. | .slotRec _ => some 2
  | .anWords _ => some 3
  | .digest .. => some 4
  | .replica .. | .replicaAck .. => some 5
  | .relay _ | .xfer .. | .xferBlk .. => some 6
  | .timeAlign .. => none

/-- How much later than it otherwise would a message starts (PERT_TETHER, R495). -/
def Half.tetherPert (h : Half) (m : TMsg) : Nat :=
  match m.pertBit with
  | some b => if h.pert RG.PERT_TETHER b b = 1 then tNs (h.pert RG.PERT_TETHER 27 16) else 0
  | none => 0

/-- The instant at which a memory write is issued (PERT_DMA, R495). -/
def Half.writeAt (h : Half) (now : Nat) : Nat := now + tNs (1000 * h.pert RG.PERT_DMA 7 0)

/-- A message on the Tether; nothing crosses a direction that has lost both lanes (R288). -/
def Half.tether (h : Half) (now : Nat) (m : TMsg) : Half :=
  if h.th.lanesTx = 0 then h else h.send (.tether (now + h.tetherPert m) m)

def halfOf (n : Nat) : HalfId := if n % 2 = 0 then .a else .b

/-! ### Time -/

/-- ADJ without and with the slew term (R366, R367); the alignment term counts only in a half that is not ACTIVE. -/
def Half.adjOf (h : Half) (slew : Bool) : Int :=
  clampI (h.tb.freq + (if slew then h.tb.slew else 0) + (if h.glb.role = .active then 0 else h.tb.align))
    (-17179869) 17179869

/-- ADJ in force. -/
def Half.adj (h : Half) : Int := h.adjOf (h.tb.slewLeft != 0)

/-- n ticks of 4 ns, of which the slew term acts in the first `slewLeft` (R366, R375). -/
def Tb.run (tb : Tb) (adjS adj0 : Int) (n : Nat) : Tb :=
  let m := min n tb.slewLeft
  { tb with
    now := tb.now + m * (4 * 2 ^ 32 + adjS).toNat + (n - m) * (4 * 2 ^ 32 + adj0).toNat
    slewLeft := tb.slewLeft - m
    rem := if m = 0 then tb.rem else if tb.slewLeft ≤ n then 0 else tb.rem - m * tb.slew / 65536 }

/-- The timebase counts while the CORE domain is up, that is, from BOOTING on: at every whole tick of 4 ns, or of
10 ns without correction while CORE runs from its RC fallback (R366, R373). While the half is held in reset it stands, and
the lanes' time alone goes on (R43, R504). -/
def Half.tick (h : Half) (t0 t1 : Nat) : Half :=
  if h.glb.dev = .lullOnly then h
  else if h.pk.low then h.modTb fun tb => { tb with
    lag := tb.lag + (if tb.fallback then (t1 / 800 - t0 / 800) * 10 else (t1 / 320 - t0 / 320) * 4) * 2 ^ 32 }
  else if h.tb.fallback then h.modTb fun tb => { tb with now := tb.now + (t1 / 800 - t0 / 800) * (10 * 2 ^ 32) }
  else h.modTb fun tb => tb.run (h.adjOf true) (h.adjOf false) (t1 / 320 - t0 / 320)

/-- The time a has reached the time b, compared as R370 says: by their difference modulo 2³² ns, read as signed. -/
def reached (a b : Nat) : Bool := decide (((a : Int) - b) % 2 ^ 64 < 2 ^ 63)

/-- t in whole nanoseconds. -/
def Half.ns (h : Half) : Nat := h.tb.now / 2 ^ 32

/-- The half as its timebase stood at an earlier instant t, having run since at the nominal rate (DEDUCED, log entry 126). -/
def Half.before (now t : Nat) (h : Half) : Half := { h with tb := { h.tb with now := h.tb.now - (now - t) * 2 ^ 32 / 80 } }

/-- A 64-bit time field in the format in force (R368). -/
def time64 (cal : Bool) (ns : Nat) : BitVec 64 :=
  if cal then BitVec.ofNat 64 ((ns / 1000000000 % 2 ^ 34) * 2 ^ 30 + ns % 1000000000)
  else BitVec.ofNat 64 ns

def Half.stamp (h : Half) : BitVec 64 := time64 h.tb.cal h.ns

/-- Tc in units of the timebase. -/
def Half.tc (h : Half) : Nat := h.bn BK.CYCLE_TC_TICKS * 4 * 2 ^ 32

/-! ### The shape of a command's effect -/

/-- What a command's effect sees besides its own half: which half it is, the instant, and the other
half as it stands (its lines and the bank of the STATE_XFER; DESIGN CHOICE, log entry 2). -/
structure Cx where
  me : HalfId
  now : Nat
  other : Half

/-- What happened at an earlier instant t of this row: the half raises and stamps as of then (DEDUCED, log entry 126). -/
def atInstant (t : Nat) (f : Cx → Half → Half) (cx : Cx) (h : Half) : Half :=
  let now := h.tb.now
  (f { cx with now := t } (h.before cx.now t)).modTb fun b => { b with now := now }

def State.half (s : State) : HalfId → Half
  | .a => s.a
  | .b => s.b

def State.setHalf (s : State) (i : HalfId) (h : Half) : State :=
  match i with
  | .a => { s with a := h }
  | .b => { s with b := h }

/-- Time passes to instant t; it never runs back. -/
def State.advance (s : State) (t : Nat) : State :=
  let t' := max s.time t
  { s with time := t', a := s.a.tick s.time t', b := s.b.tick s.time t' }

/-- What a command's effect sees besides its half. -/
def State.cx (s : State) (e : Evt) : Cx :=
  { me := e.half, now := max s.time e.time, other := (s.half e.half.other).tick s.time (max s.time e.time) }

/-- The half that a command comes to, after time has passed. -/
def State.at (s : State) (e : Evt) : Half := (s.half e.half).tick s.time (max s.time e.time)

/-! ### The core supply's target (R446, R447) -/

/-- Slew rate in quarters of a millivolt per µs; 0 counts as 1. -/
def slewRate (h : Half) : Nat := max 1 (h.getF RG.PWR_VCFG 11 8)

/-- The setpoint at an instant: during a slew it moves toward the target at the slew rate. -/
def setNow (now : Nat) (h : Half) : Nat :=
  let p := h.pw
  match p.ramp with
  | some (0, t) => p.target * min (now - t) (tUs 200) / tUs 200
  | _ =>
  if !p.slewing then p.set else
  let d := slewRate h * (now - p.setAt) / 80000
  if p.set ≤ p.target then min p.target (p.set + d) else max p.target (p.set - d)

/-- The index in force. -/
def vIndex (h : Half) : Nat := if h.getF RG.PWR_VCFG 0 0 = 1 then h.getF RG.PWR_VCFG 2 1 else h.pw.sel

/-- The target of the index in force, in quarters of a millivolt. -/
def vTarget (h : Half) : Nat := 4 * h.getF (RG.PWR_VTAB (vIndex h)) 9 0

/-- A change of target: held in an ACTIVE half, else the slew starts from the present setpoint. -/
def retarget (now : Nat) (h : Half) : Half :=
  let t := vTarget h
  if !h.pw.up.getLsbD 0 then { h with pw := { h.pw with target := t } }
  else if h.glb.role = .active then { h with pw := { h.pw with pend := t != h.pw.target } }
  else
    let v := setNow now h
    { h with pw := { h.pw with set := v, setAt := now, target := t, slewing := v != t, pend := false } }

/-! ### Standing conditions -/

/-- A position is settled for R96. -/
def posDone (h : Half) (k p : Nat) : Bool :=
  let n := h.node k p
  n.fwd || n.known || n.noReply || n.abandoned

/-- Enumeration is complete on ring k (R96); not before one of the half's markers has returned (DEDUCED, log entry 113). -/
def enumDone (h : Half) (k : Nat) : Bool :=
  let r := h.ring k
  let hops := min r.hops 16
  (decide (1 ≤ hops) || r.loop.isSome) &&
  ((List.range hops).all fun i => posDone h k (i + 1)) &&
  ((vget h.svc k).wait.all fun f => f.kind ≠ 0x01 || decide (hops < f.pos) || posDone h k f.pos)

/-- Enumeration is complete on every configured ring, of which there may be none. -/
def allEnumDone (h : Half) : Bool :=
  (List.range 12).all fun k => !h.bf (BK.HERD_RING_EN k) || enumDone h k

/-- At least one command ring and one completion ring are enabled. -/
def ringsEnabled (h : Half) : Bool :=
  ((List.range 8).any fun r => h.getF (RG.CR_CFG r) 16 0 != 0) &&
  ((List.range 8).any fun q => h.getF (RG.CQ_CFG q) 16 0 != 0)

/-- The conditions of READY (R29). -/
def readyOk (h : Half) : Bool :=
  allEnumDone h && !h.glb.budget && ringsEnabled h &&
  (h.glb.role == .active || h.glb.role == .standby)

/-- The device state that the conditions of R29 give a half in CONFIGURED, READY or RUNNING; two transitions that fall
due at one instant are both taken (DEDUCED, log entry 60). The move from READY back to CONFIGURED is not the entry to
CONFIGURED at which rules set things to 0: that one comes from BOOTING (DEDUCED, log entry 125). -/
def settleDev (h : Half) : DevState :=
  let moving := decide (h.glb.mv ≠ .stopped ∨ h.glb.lv ≠ .stopped)
  let still : DevState := if readyOk h then .ready else .configured
  match h.glb.dev with
  | .running => if moving then .running else still
  | .ready => if moving then .running else still
  | .configured => if readyOk h && moving then .running else still
  | d => d

/-- A half outside CONFIGURED, READY and RUNNING is OFF (R31, last row). -/
def settleRole (d : DevState) (r : Role) : Role := if d.inService then r else .off

/-- A protective power-down is under way: the LULL domain keeps the ROLE line low and the shared pads off (R442). -/
def Half.protecting (h : Half) : Bool := (h.pw.whole.map fun c => decide (5 ≤ c ∧ c ≤ 10)).getD false

/-- The ROLE line of a half is asserted at an instant: while the half is fenced it asserts none, so this is its effective
ROLE too (R292, R293). -/
def roleOn (now : Nat) (t : Th) : Bool := t.roleLine && decide (t.roleHigh ≤ now)

/-- The effective ROLE of the other half has risen since this half was granted the balls, and is then no reason for them
any longer (R292, R295). -/
def otherRose (now : Nat) (t o : Th) : Bool := roleOn now o || decide (t.ownAt < o.roleHigh ∧ o.roleHigh ≤ now)

/-- The pad drivers of the shared balls: only the half whose role is ACTIVE drives, never with the
fence line on it asserted, and never while the other half drives or its ROLE is asserted (R8, R30, R292, R293, R295, R442). -/
def settleOwn (g : Glb) (fenced otherOwn : Bool) : Bool :=
  g.own && decide (g.role = .active) && !fenced && !otherOwn

/-- This half drives the shared balls as the other half's lines stand (R292, R295). -/
def drivesBalls (cx : Cx) (h : Half) : Bool := h.glb.own && !otherRose cx.now h.th cx.other.th

/-- On entry to SAFE, FENCED or OFF a CAN controller is taken off the bus, and stays off (R413). What waited for the frame on
the bus is carried out with the controller's next command (log entry 43). -/
def settleCan (d : DevState) (r : Role) (c : Can) : Can :=
  let dead := c.dead || d == .safe || r == .fenced || (r == .off && c.served)
  let c := { c with dead := dead, served := c.served || r != .off }
  if dead then { c with st := 0, tx := if c.abort || c.initWait then c.tx else none } else c

/-- The recorder's triggers of the command wait for T0; a STANDBY half passes each to the ACTIVE half (R470, R471).
Sources 0xA8 and 0xA9 trigger nothing. -/
def settleTrig (cx : Cx) (h : Half) : Half :=
  if h.me.trig.isEmpty then h else
  let cs := h.me.trig.filter fun c => c != .source 0xA8 && c != .source 0xA9
  let h := { h with me := { h.me with trig := [], trigs := h.me.trigs ++ cs.map fun c => (c, cx.me.bit, h.glb.cycle) } }
  if h.glb.role = .standby ∧ h.th.oRole = .active then cs.foldl (fun h c => h.tether cx.now (.relay (.trigger c))) h else h

/-- The standing conditions that hold after every command: R29, R31's last row, R8, R291 and R413. -/
def settle (cx : Cx) (h : Half) : Half :=
  let h := settleTrig cx h
  let d := settleDev h
  let r := settleRole d h.glb.role
  let g := { h.glb with dev := d, role := r }
  let off := h.th.fenced || h.protecting
  let line := decide (r = .active) && !off
  let last := if r = h.glb.role then h.th.lastCycle else h.glb.cycle % 65536
  let h := if h.pw.pend && r != .active then retarget cx.now { h with glb := g } else h
  { h with
    can := h.can.map (settleCan d r)
    glb := { g with own := settleOwn g off (cx.other.glb.own || otherRose cx.now h.th cx.other.th) }
    th := { h.th with
      roleLine := line
      roleLow := if h.th.roleLine && !line then cx.now else h.th.roleLow
      roleHigh := if !h.th.roleLine && line then max cx.now h.th.lineAt else h.th.roleHigh
      lastCycle := last } }

/-- A half takes part: it is neither halted through its TAP nor held in reset (R252, R504). -/
def Half.runs (h : Half) : Bool := !(h.pk.halt || h.pk.low)

/-- Comparators and latches: they work in a halted half too (R252), not in one held in reset. -/
def Half.senses (h : Half) : Bool := !h.pk.low

/-- A command's effect f on the half it comes to, at its instant: time passes, f acts where p holds of that half,
and the standing conditions are taken. -/
def State.onIf (p : Half → Bool) (s : State) (e : Evt) (f : Cx → Half → Half) : State :=
  let s1 := s.advance e.time
  let cx : Cx := { me := e.half, now := s1.time, other := s1.half e.half.other }
  let h := s1.half e.half
  s1.setHalf e.half (settle cx (if p h then f cx h else h))

/-- The effect of a command that only a running half takes. -/
def State.on (s : State) (e : Evt) (f : Cx → Half → Half) : State := s.onIf Half.runs e f

/-- The outcome of a command that acts on one running half. -/
def runOn (s : State) (e : Evt) (f : Cx → Half → Half) : Host.Outcome State Fault Refusal :=
  .next (s.on e f)

/-- The outcome of a message that comes over the Tether: with both receive lanes lost nothing comes (R288). -/
def runTether (s : State) (e : Evt) (f : Cx → Half → Half) : Host.Outcome State Fault Refusal :=
  runOn s e fun cx h => if h.th.lanesRx = 0 then h else f cx h

/-- The outcome of a command of the comparators and latches of one half. -/
def runComp (s : State) (e : Evt) (f : Cx → Half → Half) : Host.Outcome State Fault Refusal :=
  .next (s.onIf Half.senses e f)

/-- The outcome of a command that acts on a half whether it runs or not: its supplies, clocks and balls. -/
def runAlways (s : State) (e : Evt) (f : Cx → Half → Half) : Host.Outcome State Fault Refusal :=
  .next (s.onIf (fun _ => true) e f)

/-- An effect that happens only where its condition holds; else nothing but time happens. (DESIGN CHOICE, log entry 4.) -/
def gate (c : Bool) (f : Half → Half) (h : Half) : Half := if c then f h else h

end Sys2Proof.Machine
end

