-- ==== Sys2Proof/Machine/Sheepdog.lean ====
section
/-! DEFINITION. Sheepdog: raising an event source and every reaction to it (08_sheepdog_gust.md), as
one shared operation that every block calls. -/
namespace Sys2Proof.Machine

/-- The severity in force for a source (R260). -/
def Half.sev (h : Half) (s : Nat) : Nat := h.bn (BK.SD_SEV s)
/-- The stages in force for a source: bit 0 MV, bit 1 LV. -/
def Half.stages (h : Half) (s : Nat) : Nat := h.bn (BK.SD_STAGE s)

/-! ### Arguments (R266) -/

def argRing (k : Nat) : Nat := k % 16
def argPos (k p : Nat) : Nat := k % 16 + 16 * (p % 32)
def argCh (n : Nat) (i : HalfId) : Nat := n % 32 + 256 * i.bit
/-- Of the analog sources only 0x41, 0x44 and 0x45 name a half too (R136). -/
def argChan (n : Nat) : Nat := n % 32
def argHalf (i : HalfId) : Nat := 256 * i.bit

/-- The context that HERD.CTX resolves for a position (R92); none: no context. -/
def ctxOf (h : Half) (k p : Nat) : Option Nat :=
  let e := h.bn (BK.HERD_CTX k (p - 1))
  if e < 144 then some e
  else if p ≤ 12 then
    let c := 12 * k + p - 1
    let named := (List.range 12).any fun k' => (List.range 16).any fun i =>
      h.bn (BK.HERD_CTX k' i) == c
    if named then none else some c
  else none

/-- The context bound at a position. -/
def boundAt (h : Half) (k p : Nat) : Option Nat :=
  match ctxOf h k p with
  | some c => let x := h.cell c; if x.bound ∧ x.ring = k ∧ x.pos = p then some c else none
  | none => none

/-- The unit that FENCE, DEGRADE, STAGE_TRIP and DEVICE_SAFE fence (R261). -/
def unitOf (me : HalfId) (h : Half) (s arg : Nat) : FUnit :=
  if reservedSrc s then .none
  else if s ≤ 0x0B then .ring s
  else if inR s 0x0C 0x12 || s == 0x17 || s == 0x1A || s == 0x1B then .ring (arg % 16)
  else if inR s 0x13 0x16 || s == 0x19 || s == 0x1C || s == 0x1D then
    match boundAt h (arg % 16) (arg / 16 % 32) with
    | some c => .ctx c
    | none => .none
  else if s == 0x18 || inR s 0x20 0x3F then .ctx (arg % 256)
  else if s == 0x40 || s == 0x44 || s == 0x45 then .conv me (arg % 32)
  else if s == 0x41 then .conv (halfOf (arg / 256)) (arg % 32)
  else if inR s 0x60 0x6F then .pairs (BitVec.ofNat 13 (h.bn (BK.LV_TRIP_MASK (s - 0x60))))
  else if inR s 0x70 0x7B then .pairs (BitVec.ofNat 13 (2 ^ (s - 0x70)))
  else if s == 0x7C then .pairs 0xFFF
  else if s == 0x80 then .half me
  else if s == 0x82 then (if arg / 2 ^ 15 % 2 = 1 then .none else .ctx (arg % 256))
  else if inR s 0x90 0x9F then .half (halfOf (arg / 256))
  else if inR s 0xD0 0xD3 || s == 0xD7 || s == 0xDD || s == 0xDE then .eth (arg % 4)
  else if inR s 0xE0 0xE7 then .can (arg % 2)
  else .none

/-- The codes of the units of a source, for the quiet time of R282. -/
def unitCodes : FUnit → List Nat
  | .none => []
  | .ctx c => [0x1000 + c]
  | .ring k => [0x100 + k]
  | .conv i n => [0x200 + n + 0x40 * i.bit]
  | .pairs m => ((List.range 13).filter fun i => m.getLsbD i).map (0x300 + ·)
  | .eth p => [0x400 + p]
  | .can i => [0x500 + i]
  | .half _ => []

/-- The code of the unit that a clear in this half names. -/
def clearCode (me : HalfId) (unit index : Nat) : Nat :=
  match unit with
  | 2 => 0x200 + index + 0x40 * me.bit
  | 10 => 0x200 + index + 0x40 * me.other.bit
  | 11 => 0x300 + index
  | u => 0x100 * u + index

/-- Note a raise for its units; at FENCE or above it spoils a pending clear (R282). -/
def noteRaise (me : HalfId) (now : Nat) (u : FUnit) (fencing : Bool) (h : Half) : Half :=
  let cs := unitCodes u
  let put (l : List (Nat × Nat)) : List (Nat × Nat) := (cs.map (·, now)) ++ l.filter fun p => !cs.contains p.1
  h.modSd fun s => { s with
    raisedAt := put s.raisedAt
    fencedAt := if fencing then put s.fencedAt else s.fencedAt
    clear := s.clear.map (fun q =>
      if fencing && cs.contains (clearCode me q.unit q.index) then { q with spoiled := true } else q) }

/-! ### Records (R264 to R266) -/

/-- A record takes its place in the queue, which stands in order of raise (R265), the raises of one clock in ascending
source number (R263). -/
def insRec (r : Nat × EvRec) : List (Nat × EvRec) → List (Nat × EvRec)
  | [] => [r]
  | x :: l =>
    if r.1 / 80 < x.1 / 80 ∨ (sameClock r.1 x.1 ∧ r.2.source < x.2.source) then r :: x :: l else x :: insRec r l

def recKey (r : EvRec) : Nat × Nat × Word := (r.source, r.arg, r.cycle)

/-- Queue one record by the instant of its raise; it also enters the recorder's frame of the cycle (R467). A full queue drops
it. -/
def pushRec (at_ : Nat) (r : EvRec) (h : Half) : Half :=
  let h := { h with me := { h.me with evs := h.me.evs ++ [r] } }
  if h.sd.queue.length < 512 then h.modSd fun s => { s with
    queue := insRec (at_, r) s.queue
    sharedRecs := if r.shared then (recKey r :: s.sharedRecs).take 512 else s.sharedRecs }
  else (h.count RG.SD_CNT_DROP).modSd fun s => { s with drops := s.drops + 1 }

/-- A shared source is recorded once, by the ACTIVE half; with no ACTIVE half each half queues its own. -/
def recordHere (h : Half) (shared : Bool) : Bool :=
  !shared || h.glb.role == .active || h.th.oRole != .active

/-- The schedule of control cycles runs: from CONFIGURED on once cycle 0 has begun, and on in SAFE (DEDUCED, log entry 108). -/
def cyclesRun (h : Half) : Bool := h.glb.started && (h.glb.dev.inService || h.glb.dev == .safe)

/-- The degraded marks once the raises of the clock up to source s have been handled, in ascending source number (R263). -/
def degUpTo (d : Sd) (s : Nat) : BitVec 2 :=
  d.clockDeg.foldl (fun m x => if x.1 ≤ s then m ||| x.2.1 else m) d.clockBase

/-- The degraded marks after the reaction of source s. -/
def degAfter (cx : Cx) (s : Nat) (h : Half) : BitVec 2 :=
  if sameClock h.sd.clockAt cx.now then degUpTo h.sd s else h.sd.deg

/-- The record of a raise, unless the same source and argument were raised in this cycle (R264). -/
def record (cx : Cx) (s sev arg : Nat) (value : Word) (h : Half) : Half :=
  if cyclesRun h && h.sd.merged.contains (s, arg) then h
  else
    let h := h.modSd fun d => { d with merged := (s, arg) :: d.merged }
    if recordHere h (sharedSrc s) then
      pushRec cx.now
        { source := s, sev := sev, half := cx.me, shared := sharedSrc s, deg := degAfter cx s h
          arg := arg, value := value, cycle := BitVec.ofNat 32 h.glb.cycle, time := h.stamp } h
    else h

/-! ### Fences (R267, R268) -/

/-- The unit is fenced already. -/
def isFenced (me : HalfId) (h : Half) : FUnit → Bool
  | .none => true
  | .ctx c => (h.cell c).fenced
  | .ring k => h.sd.ringFence.getLsbD k
  | .conv i n => if i = me then h.sd.adcFence.getLsbD n else h.sd.oadcFence.getLsbD n
  | .pairs m => decide (m &&& ~~~(h.sd.pairFence ||| h.sd.pairLocal) = 0)
  | .eth p => h.sd.ethFence.getLsbD p
  | .can i => h.sd.canFence.getLsbD i
  | .half _ => false

/-- A request for the fence of a unit, unless it is fenced already. -/
def askUnit (cx : Cx) (u : FUnit) (h : Half) : Half :=
  if isFenced cx.me h u then h else h.modSd fun s => { s with
    fences := s.fences ++ [⟨u, cx.now⟩]
    pairLocal := match u with
      | .pairs m => s.pairLocal ||| m
      | _ => s.pairLocal }

/-- Fence a unit that is not a half: a pair at once in this half, a context by a shared source in the same cycle (R168),
the others at the instant of R267. Every raise on a pair or a converter goes to the other half, where it spoils a clear,
as does a cell fence of a half that is not ACTIVE (R268, R282). -/
def fenceUnit (cx : Cx) (u : FUnit) (shared : Bool) (h : Half) : Half :=
  match u with
  | .none => h
  | .half _ => h
  | .ctx c =>
      if shared then h.modCell c fun x => { x with fenced := true, late := false }
      else if (h.cell c).fenced ∨ h.glb.role = .active then askUnit cx u h
      else (askUnit cx u h).tether cx.now (.relay (.fence u))
  | .pairs _ => (askUnit cx u h).tether cx.now (.relay (.fence u))
  | .conv _ _ => if shared then askUnit cx u h else (askUnit cx u h).tether cx.now (.relay (.fence u))
  | _ => askUnit cx u h

/-- A fence request takes effect at its unit (R267); the network's part stands in Net.lean. -/
def applyFence (me : HalfId) (u : FUnit) (h : Half) : Half :=
  match u with
  | .ctx c => h.modCell c fun x => { x with fenced := true }
  | .ring k => h.modSd fun s => { s with ringFence := s.ringFence ||| BitVec.ofNat 12 (2 ^ k) }
  | .conv i n => h.modSd fun s =>
      if i = me then { s with adcFence := s.adcFence ||| BitVec.ofNat 24 (2 ^ n) }
      else { s with oadcFence := s.oadcFence ||| BitVec.ofNat 24 (2 ^ n) }
  | .pairs m => h.modSd fun s => { s with pairFence := s.pairFence ||| m, pairLocal := s.pairLocal &&& ~~~m }
  | .eth p => h.modSd fun s => { s with ethFence := s.ethFence ||| BitVec.ofNat 2 (2 ^ p) }
  | .can i => h.modSd fun s => { s with canFence := s.canFence ||| BitVec.ofNat 2 (2 ^ i) }
  | _ => h

/-- Requests at least 200 ns old for units that p names take effect. -/
def matureFences (me : HalfId) (now : Nat) (p : FUnit → Bool) (h : Half) : Half :=
  let due (f : FenceReq) : Bool := p f.unit && decide (f.time + tNs 200 ≤ now)
  (h.sd.fences.filter due).foldl (fun h f => applyFence me f.unit h)
    (h.modSd fun s => { s with fences := s.fences.filter fun f => !due f })

def isRingUnit : FUnit → Bool
  | .ring _ => true
  | _ => false
def isConvUnit : FUnit → Bool
  | .conv _ _ => true
  | _ => false
def isPairUnit : FUnit → Bool
  | .pairs _ => true
  | _ => false
def isNetUnit : FUnit → Bool
  | .eth _ => true
  | .can _ => true
  | _ => false
def isCtxUnit : FUnit → Bool
  | .ctx _ => true
  | _ => false

/-! ### Gust decisions (R273, R277, R278) -/

/-- Set the holds of a decision (R278): for each cluster, the trip inputs, the stage trip and the instant. -/
def setHolds (now : Nat) (clusters : BitVec 3) (trips : BitVec 16) (stage : Bool) (h : Half) : Half :=
  h.modSd fun s => { s with
    hold := s.hold ||| clusters
    holdTrips := vmapi s.holdTrips fun i t => if clusters.getLsbD i then t ||| trips else t
    holdStage := if stage then s.holdStage ||| clusters else s.holdStage
    holdAt := vmapi s.holdAt fun i t => if clusters.getLsbD i && !s.hold.getLsbD i then now else t
    holdRelease := s.holdRelease &&& ~~~clusters
    trips := s.trips ++ [⟨1, now, true⟩] }

/-- A decision that blocks clusters: the holds are set, the other half is told, the MV stage is to be
tripped at the first T0. (DEDUCED, log entry 88.) -/
def gustDecide (cx : Cx) (clusters : Nat) (stage : Bool) (trip : Option Nat) (tell : Bool) (h : Half) : Half :=
  if clusters % 8 = 0 then h else
  let tb : BitVec 16 := match trip with
    | some n => BitVec.ofNat 16 (2 ^ n)
    | none => 0
  let cl := BitVec.ofNat 3 clusters
  let h := setHolds cx.now cl tb stage (h.modSd fun s => { s with
    decisions := s.decisions ++ [⟨cx.now, h.glb.cycle, clusters % 8, stage, trip⟩] })
  if tell then h.tether cx.now (.relay (.hold cl tb stage)) else h

/-! ### Marks and trips of one clock (R263, R270) -/

/-- The raises of an earlier clock are past. -/
def newClock (cx : Cx) (h : Half) : Half :=
  if sameClock h.sd.clockAt cx.now then h
  else h.modSd fun s => { s with
    clockAt := cx.now, clockBase := s.deg, clockTrip := 0, clockUnits := [], clockDeg := [] }

/-- The marks as the raises of the clock have set them, in the half and in the records of that clock. -/
def clockMarks (cx : Cx) (h : Half) : Half :=
  h.modSd fun d => { d with
    deg := degUpTo d 255
    queue := d.queue.map fun q =>
      if q.2.half = cx.me ∧ sameClock q.1 cx.now then (q.1, { q.2 with deg := degUpTo d q.2.source }) else q }

/-- The stages of a mark as the other half is told of them. -/
def tellMarks (m : BitVec 2) : Bool × Bool := (m.getLsbD 0, m.getLsbD 1)

/-- DEGRADE: the stages are marked in both halves, but for those that a raise of the same clock trips; none where such a
raise is of the same unit. -/
def markStages (cx : Cx) (s : Nat) (us : List Nat) (h : Half) : Half :=
  let h := newClock cx h
  let m : BitVec 2 := if us.any h.sd.clockUnits.contains then 0 else BitVec.ofNat 2 (h.stages s) &&& ~~~h.sd.clockTrip
  let h := clockMarks cx (h.modSd fun d => { d with clockDeg := (s, m, us) :: d.clockDeg })
  if m = 0 then h else h.tether cx.now (.relay (.degrade (tellMarks m).1 (tellMarks m).2))

/-- The stages are tripped: a mark of theirs, or of the same unit, that a raise of the same clock has set is taken back.
(DEDUCED, log entry 109.) -/
def tripMarks (cx : Cx) (stages : Nat) (us : List Nat) (h : Half) : Half :=
  let h := newClock cx h
  let t : BitVec 2 := BitVec.ofNat 2 stages
  let was := h.sd.deg
  let h := clockMarks cx (h.modSd fun d => { d with
    clockTrip := d.clockTrip ||| t, clockUnits := us ++ d.clockUnits
    clockDeg := d.clockDeg.map fun x => (x.1, if x.2.2.any us.contains then 0 else x.2.1 &&& ~~~t, x.2.2) })
  let back := was &&& ~~~h.sd.deg
  if back = 0 then h else h.tether cx.now (.relay (.degBack (tellMarks back).1 (tellMarks back).2))

/-- This half has decided for the MV stage trip of a shared source of this cycle already (R273). -/
def hasDecided (h : Half) (src cycle : Nat) : Bool := sharedSrc src && h.sd.decided.contains (src, cycle)

/-- The Gust decision of an MV stage trip, by its source and cycle; the MV stage is neither STOPPED nor TRIPPED (R273). -/
def decideTrip (cx : Cx) (src cycle : Nat) (tell : Bool) (h : Half) : Half :=
  if h.glb.mv = .stopped ∨ h.glb.mv = .tripped ∨ hasDecided h src cycle then h
  else (gustDecide cx 7 true none tell h).modSd fun s => { s with
    decided := (src, cycle) :: s.decided.filter fun d => decide (d.2 + 1 ≥ cycle) }

/-- A stage trip by source `src` (R272, R273): pending until its T0, told to the other half, and a Gust decision for all
clusters. -/
def stageTrip (cx : Cx) (src stages : Nat) (us : List Nat) (h : Half) : Half :=
  let h := tripMarks cx stages us (h.modSd fun s => { s with trips := s.trips ++ [⟨stages, cx.now, false⟩] })
  let h := h.tether cx.now (.relay (.trip (decide (stages % 2 = 1)) (decide (stages / 2 % 2 = 1)) false
    (BitVec.ofNat 8 src) (BitVec.ofNat 32 h.glb.cycle)))
  if stages % 2 = 1 then decideTrip cx src (h.glb.cycle % 2 ^ 32) true h else h

/-! ### Leaving service -/

/-- Entries of this half to FENCED in the last 24 h (R312). -/
def fences24 (now : Nat) (h : Half) : Nat := (h.th.fenceHist.filter fun a => decide (now < a + tSec 86400)).length

/-- The preferred half is barred from a revert: its entries have reached RED.FENCE_LIMIT (R312). -/
def isBarred (now : Nat) (h : Half) : Bool := h.glb.preferred && decide (h.bn BK.RED_FENCE_LIMIT ≤ fences24 now h)

/-- One entry of this half to FENCED (R31, R312). Event records that an ACTIVE half still holds are not
carried over (R355). -/
def enterFenced (cx : Cx) (h : Half) : Half :=
  let h := if h.glb.role = .active then h.modSd fun s => { s with queue := [], nodeEv := [] } else h
  let below := decide (fences24 cx.now h < h.bn BK.RED_FENCE_LIMIT)
  let was := h.glb.role
  let h := h.modGlb fun g => { g with role := .fenced, own := false }
  h.modTh fun t => { t with
    leftAt := if was = .active then cx.now else t.leftAt
    barRaised := t.barRaised && !below
    fenceHist := cx.now :: t.fenceHist.filter (fun a => decide (cx.now < a + tSec 86400))
    lastCycle := h.glb.cycle % 65536 }

/-- The hand-over that this half announces: the first of those set that changes the role (R306). -/
def announced (h : Half) : Option (Nat × HalfId × Nat) :=
  h.th.planned.find? fun p => (p.2.1 == h.id) != (h.glb.role == .active)

/-- The HEARTBEAT of this half (R289). -/
def ownHeartbeat (now : Nat) (h : Half) : Heartbeat :=
  { role := h.glb.role.code, dev := h.glb.dev.code, cycle := BitVec.ofNat 16 h.glb.cycle,
    throttle := h.getF 0xA0000 19 18,
    planned := (announced h).isSome,
    hcycle := BitVec.ofNat 16 (((announced h).map (·.1)).getD 0),
    leaving := h.th.leaving.isSome || h.glb.role == .updating,
    verdict := BitVec.ofNat 4 (match h.th.ownVerdict with
      | some v => v % 8 + 8
      | none => 0),
    fences := min 15 (fences24 now h),
    clean := min 65535 (match h.th.cleanFrom with
      | some t => (now - t) / tSec 1
      | none => 0) }

/-- The HANDOVER reaction (R271), its third case without the source it raises: true says that source
0xFE is due. -/
def handoverCore (cx : Cx) (h : Half) : Half × Bool :=
  match h.glb.role with
  | .active =>
    if h.th.oRole = .standby then
      let h := (enterFenced cx h).modTh fun t => { t with lastCause := 3 }
      (h.tether cx.now (.heartbeat (ownHeartbeat cx.now h)), false)
    else (stageTrip cx 0xFE 3 [] h, true)
  | .standby | .syncing => (enterFenced cx h, false)
  | _ => (h, false)

/-- A request for the fence line on a half that was last reset at `rst`: one made before that is void, since the
reset has released the line (R293, R504). -/
def liveReq (req : Option Nat) (rst : Nat) : Option Nat := req.filter fun r => decide (rst ≤ r)

/-- Request the fence line on the other half (R294, R296). -/
def askFence (cx : Cx) (h : Half) : Half :=
  h.modTh fun t => { t with fenceReq := (liveReq t.fenceReq cx.other.pk.rstAt).or (some cx.now) }

/-! ### Raising -/

/-- A raise counts, and triggers the recorder where RCD.TRIG_SRC says so (R264, R470). -/
def countRaise (s : Nat) (h : Half) : Half :=
  let h := h.putF (RG.SD_SRC s) 15 0 (min 0xFFFF (h.getF (RG.SD_SRC s) 15 0 + 1))
  if h.bn (BK.RCD_TRIG_SRC (s / 32)) / 2 ^ (s % 32) % 2 = 1 then
    { h with me := { h.me with trig := h.me.trig ++ [.source s] } } else h

/-- What DEGRADE, STAGE_TRIP and DEVICE_SAFE do to the stages (R270, R272 to R274). -/
def reactStages (cx : Cx) (s sev : Nat) (us : List Nat) (h : Half) : Half :=
  match sev with
  | 3 => markStages cx s us h
  | 5 => stageTrip cx s (h.stages s) us h
  | 6 => (stageTrip cx s 3 us h).modGlb fun g => { g with dev := .safe, own := false }
  | _ => h

/-- Source 0xFE, raised inside a HANDOVER reaction: a HANDOVER set for it is taken without raising it anew in the same
instant, whose record R264 merges. -/
def raiseNoHandover (cx : Cx) (h : Half) : Half :=
  let sev := h.sev 0xFE
  let h := reactStages cx 0xFE sev [] (countRaise 0xFE h)
  let h := if sev = 4 then (handoverCore cx h).1 else h
  record cx 0xFE sev (argHalf cx.me) 0 h

/-- The HANDOVER reaction with its source (R271). -/
def handover (cx : Cx) (h : Half) : Half :=
  let (h, due) := handoverCore cx h
  if due then raiseNoHandover cx h else h

/-- The part of a reaction that fences a unit; a half as the unit takes the HANDOVER reaction (R262). -/
def reactUnit (cx : Cx) (u : FUnit) (shared : Bool) (h : Half) : Half :=
  match u with
  | .half i => if i = cx.me then handover cx h else askFence cx h
  | u => fenceUnit cx u shared h

/-- Source s is raised: the count, the reaction of the severity in force, the record. -/
def raiseOne (cx : Cx) (s arg : Nat) (value : Word) (h : Half) : Half :=
  let sev := h.sev s
  let u := unitOf cx.me h s arg
  let h := noteRaise cx.me cx.now u (decide (2 ≤ sev)) (countRaise s h)
  let h := if sev == 2 || sev == 3 || sev == 5 || sev == 6 then reactUnit cx u (sharedSrc s) h else h
  let h := if sev = 4 then handover cx h else h
  record cx s sev arg value (reactStages cx s sev (unitCodes u) h)

/-- The queue has room again after drops: they are reported (R266). -/
def reportDrops (cx : Cx) (h : Half) : Half :=
  let n := h.sd.drops
  if n = 0 ∨ 512 ≤ h.sd.queue.length then h
  else raiseOne cx 0xFD 0 (BitVec.ofNat 32 n) (h.modSd fun s => { s with drops := 0 })

/-- Raise source s with its arguments and take the reaction of the severity in force (R257 to R274); a reaction that empties
the queue gives it room. (DEDUCED, log entry 80.) -/
def raise (cx : Cx) (s arg : Nat) (value : Word) (h : Half) : Half := reportDrops cx (raiseOne cx s arg value h)

/-- Source s is raised n times: each raise counts and takes its reaction (R264). -/
def raises (n : Nat) (cx : Cx) (s arg : Nat) (value : Word) (h : Half) : Half :=
  match n with
  | 0 => h
  | n + 1 => raises n cx s arg value (raise cx s arg value h)

/-- Raise only where a condition holds. -/
def raiseIf (c : Bool) (cx : Cx) (s arg : Nat) (value : Word) (h : Half) : Half :=
  if c then raise cx s arg value h else h

/-- One record leaves the queue; a drop is then reported (R266). -/
def popRec (cx : Cx) (h : Half) : Half := reportDrops cx (h.modSd fun s => { s with queue := s.queue.tail })

end Sys2Proof.Machine
end

