-- ==== Sys2Proof/Machine/HerdLane.lean ====
section
/-! DEFINITION. Herd lanes, markers and hop delays (02_herd_link_physical.md), and the offsets T_S and
T_A that follow from them (R14 to R19). -/
namespace Sys2Proof.Machine

/-! ### T_S and T_A -/

/-- The LANE PLL clocks the lanes of this half. -/
def laneOn (h : Half) : Bool := (vget h.ck.pll 1).on && (vget h.ck.pll 1).locked

def sumN (l : List Nat) : Nat := l.foldl (· + ·) 0

/-- S_coll and S_cmd of one ring, the larger of the two halves' sides, in tenths of a nanosecond (R14). -/
def ringSums (r : Ring) : Nat × Nat :=
  let c := sumN r.cuts
  let f := sumN r.spans
  let first := r.spans.headD 0
  let last := r.spans.getLastD 0
  (c + f - min first last, c + f - min first last)

/-- The ring counts for R14: configured, with delays known. -/
def ringInUse (h : Half) (k : Nat) : Bool := h.bf (BK.HERD_RING_EN k) && (h.ring k).src != 0

/-- A span or hop beyond what 12 bits of 0.1 ns hold puts the ring over budget (R68). -/
def ringOver (r : Ring) : Bool :=
  r.spans.any (fun f => decide (4095 < f)) ||
  (List.range r.cuts.length).any (fun i =>
    decide (4095 < r.spans.getD i 0 + r.cuts.getD i 0) ||
    decide (4095 < r.spans.getD (i + 1) 0 + r.cuts.getD i 0))

/-- What R14 gives: T_S, the T_A before CYCLE.APPLY_NS, the ring that sets it, and whether R68 holds. -/
structure Need where
  ts : Nat
  ta : Nat
  worst : Nat
  ovr : Bool
  /-- the ring that the ring budget event names: one that R68 puts over budget, else the one that sets T_A -/
  names : Nat

/-- DEDUCED, log entry 11. -/
def needOf (h : Half) : Need :=
  let ks := (List.range 12).filter (ringInUse h)
  let coll := fun k => 800 + (ringSums (h.ring k)).1 + 128 * (h.ring k).nslotUse + 600
  let ts := ks.foldl (fun t k => max t (ceil4 (coll k))) 500
  let cmd := fun k => (ringSums (h.ring k)).2
  let worst := ks.foldl (fun w k => if cmd w + coll w < cmd k + coll k then k else w) (ks.headD 0)
  let s := ks.foldl (fun m k => max m (cmd k)) 0
  ⟨ts, ceil4 (10 * ts + 2128 + s + 800), worst, ks.any fun k => ringOver (h.ring k),
    (ks.find? fun k => ringOver (h.ring k)).getD worst⟩

/-- Recompute T_S and T_A (R14 to R16, R18): what is wanted from the next boundary, and the ring budget
event, source 0x10 when it becomes active. -/
def recompute (cx : Cx) (h : Half) : Half :=
  let n := needOf h
  let apply := h.bn BK.CYCLE_APPLY_NS
  let ta := max apply n.ta
  let stopped := decide (h.glb.mv = .stopped)
  let (want, bad) :=
    if h.bf BK.CYCLE_AUTO_OFFSET then
      (if ta > 1500 ∨ n.ovr then (none, true) else (some (n.ts, ta), false))
    else if stopped then
      (if n.ta ≤ apply ∧ !n.ovr then (some (n.ts, apply), false) else (some (h.glb.ts, apply), true))
    else (none, decide (h.glb.ta < ta) || n.ovr)
  let was := h.glb.budget
  let h := h.modGlb fun g => { g with want := want, need := min 0x7FF n.ta, worst := n.worst, budget := bad }
  raiseIf (bad && !was) cx 0x10 (argRing n.names) 0 h

/-- At a cycle boundary the wanted values take effect: in either direction while the MV stage is
STOPPED, else only rising (R18). -/
def takeOffsets (g : Glb) : Glb :=
  match g.want with
  | none => g
  | some (ts, ta) =>
    if g.mv = .stopped then { g with ts := ts, ta := ta, want := none }
    else { g with ts := max g.ts ts, ta := max g.ta ta, want := none }

/-- A node admitted to a command slot would need a T_A that R15 or R16 does not allow (R19). -/
def slotAllowed (h : Half) : Bool :=
  let n := needOf h
  let ta := max (h.bn BK.CYCLE_APPLY_NS) n.ta
  !n.ovr && (if h.bf BK.CYCLE_AUTO_OFFSET then decide (ta ≤ 1500)
    else if h.glb.mv = .stopped then decide (n.ta ≤ h.bn BK.CYCLE_APPLY_NS) else decide (ta ≤ h.glb.ta))

/-! ### The train window (R73) -/

/-- Instants until the next T0, from the timebase (0 where it has passed). -/
def untilT0 (h : Half) : Nat := (h.glb.nextT0 - h.tb.now) * 80 / 2 ^ 32

/-- The half keeps train windows: its schedule runs or is about to (R73), in SAFE too (DEDUCED, log entry 108). -/
def hasWindows (h : Half) : Bool := h.glb.dev.inService || cyclesRun h

/-- The instant lies in this half's train window, or a frame of `len` instants would reach into one. -/
def inWindow (now len : Nat) (h : Half) : Bool :=
  hasWindows h &&
  (decide (now < h.glb.t0 + tNs (h.glb.ta + 100) ∧ h.glb.started) || decide (untilT0 h < len + tNs 800))

/-! ### Lane states (R46 to R49, R65, R66) -/

def signalDetectF (k : Nat) (_cx : Cx) (h : Half) : Half :=
  gate (laneOn h && (h.ring k).lane == .down)
    (fun h => h.modRing k fun r => { r with lane := .signal, los := false, ctleDone := false }) h

/-- Index of the largest element, the first of equals. -/
def argmax (l : List Nat) : Nat :=
  (l.zipIdx.foldl (fun (b : Nat × Nat) x => if b.1 < x.1 then x else b) (l.headD 0, 0)).2

def ctleSelectF (k : Nat) (eyes : List Nat) (_cx : Cx) (h : Half) : Half :=
  gate ((h.ring k).lane == .signal && !(h.ring k).ctleDone && eyes.length == 16) (fun h =>
    let i := argmax eyes
    let h := (h.putF (RG.HL_EQ k) 3 0 i).putF (RG.HL_EQ2 k) 23 16 (min 255 (eyes.getD i 0))
    h.modRing k fun r => { r with ctleDone := true }) h

def blockLockF (k : Nat) (_cx : Cx) (h : Half) : Half :=
  gate ((h.ring k).lane == .signal && (h.ring k).ctleDone)
    (fun h => h.modRing k fun r => { r with lane := .block, lastM := none }) h

/-- Four marker periods have passed without a valid marker (R49). -/
def markersGone (now : Nat) (r : Ring) : Bool := decide (r.mkAt + tTenth (4 * 1048576) ≤ now)

def markerLossF (k : Nat) (cx : Cx) (h : Half) : Half :=
  gate ((h.ring k).lane == .up && markersGone cx.now (h.ring k)) (fun h => h.modRing k fun r => { r with lane := .block, lastM := none }) h

/-- A lane goes DOWN; from BLOCK or UP it counts and raises LANE_DOWN_k (R66). -/
def toDown (cx : Cx) (k : Nat) (h : Half) : Half :=
  let was := (h.ring k).lane
  let h := h.modRing k fun r => { r with lane := .down, ctleDone := false, lastM := none }
  if was = .block ∨ was = .up then raise cx k (argRing k) 0 (h.count (RG.HL_CNT_DOWN k)) else h

/-- Loss of the signal, or at least 4 invalid sync headers (R49): `bad` counts those of the run that ends the lane. -/
def laneDownF (k : Nat) (los : Bool) (bad : Nat) (cx : Cx) (h : Half) : Half :=
  gate ((h.ring k).lane != .down && (los || decide (4 ≤ bad))) (fun h =>
    let h := if los then h.count (RG.HL_CNT_LOS k) else h
    let h := h.put (RG.HL_CNT_SH k) (sat32 (h.reg (RG.HL_CNT_SH k)) bad)
    toDown cx k (h.modRing k fun r => { r with los := los, shWin := r.shWin + bad })) h

/-- One sign-sign LMS update of the five taps (R47), each in its width. The spec does not give tap_min and tap_max: each tap
is held within the signed range of its register field (DESIGN CHOICE, log entry 112). -/
def dfeUpdateF (k : Nat) (err : Int) (ds : List Int) (_cx : Cx) (h : Half) : Half :=
  gate (((h.ring k).lane == .block || (h.ring k).lane == .up) && h.getF (RG.HL_CTRL k) 8 8 == 0) (fun h =>
    let step (off hi lo w j : Nat) (h : Half) : Half :=
      let t := sgn w (h.getF off hi lo) + err.sign * (ds.getD j 0).sign
      h.putF off hi lo (enc w (clampI t (-(2 ^ (w - 1) : Nat)) ((2 ^ (w - 1) : Nat) - 1)))
    step (RG.HL_EQ2 k) 13 8 6 4 <| step (RG.HL_EQ2 k) 5 0 6 3 <| step (RG.HL_EQ k) 29 24 6 2 <|
      step (RG.HL_EQ k) 21 16 6 1 <| step (RG.HL_EQ k) 14 8 7 0 h) h

def readaptationEndF (k : Nat) (cx : Cx) (h : Half) : Half :=
  match (h.ring k).readapt with
  | some t => gate (decide (t ≤ cx.now)) (fun h => h.modRing k fun r => { r with readapt := none }) h
  | none => h

/-- A window of 2³⁰ blocks ends (R65). -/
def berWindowF (k : Nat) (invalid : Nat) (cx : Cx) (h : Half) : Half :=
  let h := h.put (RG.HL_CNT_SH k) (sat32 (h.reg (RG.HL_CNT_SH k)) (invalid - (h.ring k).shWin))
  let h := h.modRing k fun r => { r with shWin := 0 }
  let ex := max 6 (h.getF (RG.HL_CFG k) 19 16)
  raiseIf (decide (2 ^ 30 * 66 < invalid * 10 ^ ex)) cx 0x0D (argRing k) 0 h

/-! ### Sending markers (R51, R52) -/

/-- t since the epoch in tenths of a nanosecond, at the instant itself; negative before the epoch. -/
def sinceEpoch (now : Nat) (h : Half) : Int :=
  ((h.tb.now + h.tb.lag : Nat) - (h.tb.epoch : Int)) * 10 / 2 ^ 32 + ((if h.tb.fallback then now % 800 else now % 320) / 8 : Nat)

/-- Under a new epoch every lane goes on with the first marker whose nominal instant is not past (DEDUCED, log entry 105). -/
def markersAnew (now : Nat) (h : Half) : Half :=
  { h with svc := h.svc.map fun s => { s with mcount := -(-(sinceEpoch now h) / 2 ^ 20) } }

/-- While the half has not reached CONFIGURED the epoch is the instant at which its LANE PLL locked (R51). -/
def laneEpoch (now : Nat) (h : Half) : Half :=
  if h.glb.dev.inService || h.glb.dev == .safe then h
  else markersAnew now (h.modTb fun t => { t with epoch := t.now, lag := 0 })

/-- M0 and M1 as they leave: RING, SRC, MCOUNT and LATE, everything else 0 (marker format). -/
def markerBlocks (me : HalfId) (k : Nat) (m : Int) (late : Nat) : List Block :=
  let m0 := fld 0x4B 0 ||| fld (k % 16) 8 ||| fld me.bit 12 ||| fld (m % 2 ^ 24).toNat 24 ||| fld (late % 2 ^ 16) 48
  let m1 := withCrc 0 (crc16Pair m0 0)
  [m0, m1]

def markerSendF (k : Nat) (cx : Cx) (h : Half) : Half :=
  let m := (vget h.svc k).mcount
  let t := sinceEpoch cx.now h
  gate (laneOn h && h.glb.dev != .lullOnly && decide (m * 2 ^ 20 ≤ t) && !inWindow cx.now (tTenth 128) h)
    (fun h =>
      let m := max m (t / 2 ^ 20)
      (h.send (.ring cx.now k (markerBlocks cx.me k m (t - m * 2 ^ 20).toNat))).modSvc k
        fun s => { s with mcount := m + 1 }) h

/-- The IDLE block (R45). -/
def idleBlock : Block := fld 0x1E 0

/-- An item of the log as a run of blocks on ring k: its first instant and its blocks. -/
def blocksOf (k : Nat) : Out → Option (Nat × List Block)
  | .ring t j bs => if j = k then some (t, bs) else none
  | .svc t j f => if j = k then some (t, f.start :: f.data ++ [f.fin]) else none
  | _ => none

/-- A GUST_BLOCK by itself, which is inserted between other blocks (R72). -/
def isGust (x : Nat × List Block) : Bool := x.2.length == 1 && bits (x.2.headD 0) 7 0 == 0x99

/-- The instants at which GUST_BLOCKs have been inserted into the run that begins at t and has n blocks. -/
def gustsIn (h : Half) (k t n : Nat) : List Nat :=
  let gs := (h.out.filterMap (blocksOf k)).filterMap fun x => if isGust x && decide (t ≤ x.1) then some x.1 else none
  gs.filter fun g => decide (g < t + tTenth 64 * (n + (gs.filter (decide <| · < g)).length))

/-- What leaves the transmit ball of ring k at an instant (R43): nothing without the LANE clock; an inserted GUST_BLOCK; the
block of a train, a marker or a frame whose time it is, each GUST_BLOCK inserted into it having moved what follows by a
block (R82); else IDLE, of which the first after the run is thus dropped. A block takes 6.4 ns. -/
def sendsAt (now k : Nat) (h : Half) : Option Block :=
  if !laneOn h then none else
  let runs := h.out.filterMap (blocksOf k)
  let at_ (t : Nat) (bs : List Block) : Option Block := if now < t then none else bs[(now - t) / tTenth 64]?
  let gust := runs.findSome? fun x => if isGust x then at_ x.1 x.2 else none
  let rest := runs.findSome? fun x =>
    if isGust x then none
    else at_ (x.1 + tTenth 64 * ((gustsIn h k x.1 x.2.length).filter (decide <| · ≤ now)).length) x.2
  some ((gust.or rest).getD idleBlock)

/-- The first block boundary from an instant on at which a GUST_BLOCK may leave (R72, R82): not between M0 and M1 of a
marker nor between the two blocks of a slot. -/
def gustAt (now k : Nat) (h : Half) : Nat :=
  let len (x : Nat × List Block) : Nat := x.2.length + (gustsIn h k x.1 x.2.length).length
  match (h.out.filterMap (blocksOf k)).find? fun x => !isGust x && decide (x.1 ≤ now ∧ now < x.1 + tTenth 64 * len x) with
  | none => now
  | some x =>
    let g := (gustsIn h k x.1 x.2.length).length
    let j := ceilDiv (now - x.1) (tTenth 64)
    let pair := let ty := bits (x.2.headD 0) 7 0; ty == 0x4B || ty == 0x66
    x.1 + tTenth 64 * (if pair && decide ((j - g) % 2 = 1) then j + 1 else j)

/-! ### Hop delays (R55 to R61, R533) -/

/-- Mean of the reports, to the nearest tenth, halves away from zero (DEDUCED, log entry 10). -/
def meanI (l : List Int) : Int := if l.isEmpty then 0 else divAway (l.foldl (· + ·) 0) l.length

def repDelta (r : PosRep) : Int := meanI (r.vals.map (·.1))
def repCut (r : PosRep) : Int := meanI (r.vals.map fun v => (v.2 : Int))

/-- The number of nodes that the returning markers show. -/
def Ring.n (r : Ring) : Nat := min r.hops 16

/-- The reports of position p, which stand in the half's own order. -/
def repOf (me : HalfId) (r : Ring) (p : Nat) : PosRep :=
  match me with
  | .a => vget r.reps (p - 1)
  | .b => vget r.reps (r.n - p)

def reported (me : HalfId) (r : Ring) (p : Nat) : Bool := !(repOf me r p).vals.isEmpty

/-- The cut-through of a position: accepted, or of its ENUM_REPLY, or 12 ns until it has answered (R533). -/
def cutOf (me : HalfId) (r : Ring) (p : Nat) : Int :=
  if reported me r p then repCut (repOf me r p)
  else let n := vget r.nodes (p - 1); if n.answered then (n.cut : Int) else 120

/-- The loop delays L_A and L_B; while the other half's is unknown, this half's stands for it. -/
def loops (me : HalfId) (r : Ring) : Option (Int × Int) :=
  r.loop.map fun l =>
    let o := r.otherLoop.getD l
    match me with
    | .a => ((l : Int), (o : Int))
    | .b => ((o : Int), (l : Int))

/-- The delay of span i from the equations, where they give it; the half of an odd number of tenths is taken away from
zero (DEDUCED, log entry 10). -/
def spanEq (me : HalfId) (r : Ring) (la lb : Int) (i : Nat) : Option Int :=
  let n := r.n
  let d := fun p => repDelta (repOf me r p)
  let c := cutOf me r
  if i = 1 then (if reported me r 1 then some (divAway (d 1 + lb - c 1) 2) else none)
  else if i = n + 1 then (if reported me r n then some (divAway (la - c n - d n) 2) else none)
  else if reported me r i && reported me r (i - 1) then
    some (divAway (d i - d (i - 1) - c (i - 1) - c i) 2)
  else none

def sumI (l : List Int) : Int := l.foldl (· + ·) 0

/-- The half whose reports are used: this one, or the other where this one has none (R60). -/
def repSide (cx : Cx) (h : Half) (k : Nat) : HalfId × Vector PosRep 16 :=
  let has (r : Ring) : Bool := r.reps.any fun x => !x.vals.isEmpty
  if !has (h.ring k) && has (cx.other.ring k) then (cx.me.other, (cx.other.ring k).reps) else (cx.me, (h.ring k).reps)

/-- Source (DELAY_SRC), spans and cut-throughs that the present reports give (R56, R60, R61, R533). Shares are rounded to a
tenth of a nanosecond, so that the spans need not add up to L, and a delay below 0 counts as 0 (DEDUCED, log entry 10). -/
def computeDelays (cx : Cx) (h : Half) (k : Nat) : Option (Nat × List Nat × List Nat) :=
  let (side, reps) := repSide cx h k
  let me := cx.me
  let r := { h.ring k with reps := reps }
  let n := r.n
  match loops me r with
  | none => none
  | some (la, lb) =>
    if n = 0 then none else
    let own := match me with
      | .a => la
      | .b => lb
    let ps := (List.range n).map (· + 1)
    let is := (List.range (n + 1)).map (· + 1)
    let cuts := ps.map (cutOf side r)
    let nat (l : List Int) : List Nat := l.map Int.toNat
    if ps.any (reported side r) then
      let eqs := is.map (spanEq side r la lb)
      let known := sumI (eqs.filterMap id)
      let missing := (eqs.filter (·.isNone)).length
      let share := if missing = 0 then 0 else divAway (own - known - sumI cuts) missing
      some (3, nat (eqs.map fun o => o.getD share), nat cuts)
    else
      let rc := ps.map fun p => ((repOf side r p).res.map fun x => (x : Int)).getD (cutOf side r p)
      let tab := is.map fun i => (h.bn (BK.HERD_SPAN k (i - 1)) : Int)
      if tab.all (· != 0) ∧ (sumI tab + sumI rc - own).natAbs ≤ 20 then some (2, nat tab, nat rc)
      else some (1, List.replicate (n + 1) (divAway (own - sumI rc) (n + 1)).toNat, nat rc)

def sat12 (n : Nat) : Nat := min n 0xFFF

/-- Spans and cut-throughs counted from this half's own side. -/
def ownSide (me : HalfId) (l : List Nat) : List Nat :=
  match me with
  | .a => l
  | .b => l.reverse

/-- Write the delays in use into HL_HOPq and HL_SPANj. -/
def showDelays (me : HalfId) (k : Nat) (h : Half) : Half :=
  let f := ownSide me (h.ring k).spans
  let c := ownSide me (h.ring k).cuts
  let h := (List.range 16).foldl (fun h i =>
    let v := if i < c.length then
        BitVec.ofNat 32 (sat12 (f.getD i 0 + c.getD i 0) + 2 ^ 16 * sat12 (c.getD i 0 + f.getD (i + 1) 0)) else 0
    h.put (RG.HL_HOP k i) v) h
  (List.range 17).foldl (fun h i => h.put (RG.HL_SPAN k i) (BitVec.ofNat 32 (sat12 (f.getD i 0)))) h

/-- New delays come into use at the boundary of their cycle (R57), or at once while no schedule runs; on a wrapped ring they
wait (R103). -/
def adoptDelays (cx : Cx) (k : Nat) (h : Half) : Half :=
  match (h.ring k).newDelays with
  | none => h
  | some (n, src, sp, cu) =>
    if (h.ring k).wrapped || (h.glb.dev.inService && h.glb.started && decide (h.glb.cycle < n)) then h else
    let h := h.modRing k fun r => { r with src := src, spans := sp, cuts := cu, newDelays := none }
    recompute cx (showDelays cx.me k h)

/-- The half's own computation counts: it is ACTIVE, or no half is (R57). (DEDUCED, log entry 76.) -/
def ownDelays (h : Half) : Bool := h.glb.role == .active || h.th.oRole != .active

/-- Look at the delays again (R59): on a change of source, on a report of a position that lacked one,
or on a change beyond HL_CFG.SHIFT_NS (source 0x0F). They come into use in both halves two cycles on (DESIGN CHOICE, log entry
111). -/
def updateDelays (cx : Cx) (k : Nat) (first : Bool) (h : Half) : Half :=
  let r := h.ring k
  if r.wrapped then h else
  match computeDelays cx h k with
  | none => h
  | some (src, sp, cu) =>
    if (r.newDelays.map fun x => x.2 == (src, sp, cu)).getD false then h else
    let thr := 10 * max 1 (h.getF (RG.HL_CFG k) 3 0)
    let far := fun (x y : Nat) => decide (thr < (max x y) - (min x y))
    let moved := decide (sp.length = r.spans.length) &&
      ((sp.zip r.spans).any (fun p => far p.1 p.2) || (cu.zip r.cuts).any (fun p => far p.1 p.2))
    let srcNew := decide (src ≠ r.src) || decide (sp.length ≠ r.spans.length)
    let h := raiseIf (moved && (!srcNew || src == 3)) cx 0x0F (argRing k) 0 h
    if (srcNew || moved || first) && ownDelays h then
      let n := h.glb.cycle + 2
      let h := h.modRing k fun r => { r with newDelays := some (n, src, sp, cu) }
      let h := if h.glb.role = .active then h.tether cx.now (.relay (.hops ⟨k % 12, Nat.mod_lt _ (by decide)⟩
        (BitVec.ofNat 64 n) ⟨src % 4, Nat.mod_lt _ (by decide)⟩ sp cu)) else h
      adoptDelays cx k h
    else h

/-- L_A − L_B in tenths, where both are known. -/
def asym (me : HalfId) (r : Ring) : Option Int :=
  match r.loop, r.otherLoop with
  | some l, some o => some (match me with
    | .a => (l : Int) - o
    | .b => (o : Int) - l)
  | _, _ => none

/-- HL_ASYM and source 0x0E, which is raised when the difference comes to exceed HL_CFG.ASYM_NS, by a new loop delay or a
new threshold (R58; once for each time, DESIGN CHOICE, log entry 121). -/
def checkAsym (cx : Cx) (k : Nat) (h : Half) : Half :=
  match asym cx.me (h.ring k) with
  | none => h
  | some d =>
    let thr := 10 * max 1 (h.getF (RG.HL_CFG k) 11 8)
    let was := (h.ring k).asymOver
    let above := decide (thr < d.natAbs)
    let h := h.put (RG.HL_ASYM k) (BitVec.ofNat 32 (enc 16 (clampI d (-32768) 32767) + 2 ^ 31))
    raiseIf (above && !was) cx 0x0E (argRing k) 0 (h.modRing k fun r => { r with asymOver := above })

/-! ### Receiving markers (R53 to R56) -/

/-- A block error of R45: a control block of no defined type, or an IDLE block with other bits set. (DEDUCED, log entry 99.) -/
def blockError (b : Block) : Bool :=
  !([0x1E, 0x2D, 0x36, 0x4B, 0x55, 0x66, 0x78, 0x87, 0x99, 0xAA].contains (bits b 7 0)) ||
    (bits b 7 0 == 0x1E && b != 0x1E)

/-- The receiver of ring k counts a block error in the control block b. -/
def countBlock (k : Nat) (b : Block) (h : Half) : Half := if blockError b then h.count (RG.HL_CNT_BLK k) else h

def markerOk (k : Nat) (m0 m1 : Block) (follows : Bool) : Bool :=
  bits m0 7 0 == 0x4B && follows && crcField m1 == crc16Pair m0 m1 && bits m0 11 8 == k

/-- The lane comes UP: reports and loop delays start afresh. -/
def laneUp (k : Nat) (h : Half) : Half :=
  let h := h.modRing k fun r => { r with
    lane := .up, reps := Vector.replicate 16 ⟨[], none, 0⟩, loop := none, asymOver := false }
  let h := (h.put (RG.HL_LOOP k) 0).putF (RG.HL_ASYM k) 31 31 0
  (List.range 16).foldl (fun h i => h.put (RG.HL_POS k i) 0) h

/-- The report that this half's own marker brings back (R55, R56): the position counts from its side. -/
def takeReport (cx : Cx) (k : Nat) (m0 m1 : Block) (h : Half) : Half :=
  let q := bits m1 36 32
  let n := (h.ring k).n
  let turn := bits m0 47 24 % 16 + 1
  let mod (q : Nat) (f : PosRep → PosRep) (h : Half) : Half := h.modRing k fun r => { r with reps := vmod r.reps (q - 1) f }
  let valid := m1.getLsbD 37 && decide (1 ≤ q) && decide (q ≤ n)
  if valid then
    let first := (vget (h.ring k).reps (q - 1)).vals.isEmpty
    let h := mod q (fun x =>
      { vals := ((sgn 24 (bits m1 23 0), bits m1 31 24) :: x.vals).take 4, res := some (bits m1 31 24), age := 0 }) h
    let c := repCut (vget (h.ring k).reps (q - 1))
    let h := h.put (RG.HL_POS k (q - 1)) (BitVec.ofNat 32 (c.toNat % 256 + 2 ^ 31))
    updateDelays cx k first h
  else
    let h := if 1 ≤ q ∧ q ≤ n then
        mod q (fun x => { x with res := some (bits m1 31 24) }) h
      else h
    let h := if turn ≤ n then
        let a := min 15 ((vget (h.ring k).reps (turn - 1)).age + 1)
        (mod turn (fun x => { x with age := a }) h).putF
          (RG.HL_POS k (turn - 1)) 11 8 a
      else h
    updateDelays cx k false h

/-- A marker arrives. (DEDUCED, log entry 73.) -/
def markerF (k : Nat) (m0 m1 : Block) (follows : Bool) (cx : Cx) (h : Half) : Half :=
  let lane := (h.ring k).lane
  if !(laneOn h && (lane == .block || lane == .up)) then h
  else if blockError m0 then countBlock k m0 h
  else if !markerOk k m0 m1 follows then
    let h := h.count (RG.HL_CNT_MKR k)
    raiseIf (bits m0 7 0 == 0x4B && bits m0 11 8 != k) cx 0x0C (argRing k) 0 h
  else
    let mc := bits m0 47 24
    let lock := lane == .block &&
      ((h.ring k).lastM.map fun l => decide ((l + 1) % 2 ^ 24 = mc)).getD false
    let h := if lock then laneUp k h else h
    let own := bits m0 12 12 == cx.me.bit
    let h := h.modRing k fun r => { r with lastM := some mc, mkAt := cx.now, otherSrc := !own }
    if !own || (h.ring k).lane != .up then h
    else
      let hops := bits m0 23 16
      let h := h.modRing k fun r => { r with hops := if r.wrapped then r.hops else hops }
      if (h.ring k).wrapped then h else
      let l := ((sinceEpoch cx.now h - mc * 2 ^ 20 - bits m0 63 48) % 2 ^ 44).toNat
      let changed := decide ((h.ring k).loop ≠ some l)
      let h := h.modRing k fun r => { r with loop := some l }
      let h := h.put (RG.HL_LOOP k) (BitVec.ofNat 32 (min l 0xFFFFF + 2 ^ 31))
      let h := if changed then
          checkAsym cx k (h.tether cx.now (.relay (.loop ⟨k % 12, Nat.mod_lt _ (by decide)⟩ l))) else h
      takeReport cx k m0 m1 h

end Sys2Proof.Machine
end

