-- ==== Sys2Proof/Machine/HerdRing.lean ====
section
/-! DEFINITION. Trains, slots, wrapping, Gust blocks and the sending of service frames
(03_herd_rings.md). -/
namespace Sys2Proof.Machine

/-! ### Reach (R102) -/

/-- The highest position of which the half knows: by its own markers, or by a node that has answered. -/
def ringLen (r : Ring) : Nat :=
  (List.range 16).foldl (fun m i => let x := vget r.nodes i; if x.known || x.fwd then max m (i + 1) else m) r.n

/-- The positions this half reaches in the present cycle, counted from Half A's side: first and last. On a wrapped ring on
which no node has reported a wrap on the side facing away from the half, it reaches them all (DEDUCED, log entry 114). -/
def reach (me : HalfId) (r : Ring) : Nat × Nat :=
  match me with
  | .a => (1, if !r.wrapped then r.n else if r.wrapB = 0 then ringLen r else r.wrapB)
  | .b => (if r.wrapped && r.wrapA != 0 then r.wrapA else 1, if r.wrapped then ringLen r else r.n)

def reaches (me : HalfId) (r : Ring) (p : Nat) : Bool :=
  let (lo, hi) := reach me r
  decide (lo ≤ p ∧ p ≤ hi)

/-- The ring may carry this half's trains (R50, R102, R267, R293). -/
def ringServes (h : Half) (k : Nat) : Bool :=
  h.bf (BK.HERD_RING_EN k) && !h.sd.ringFence.getLsbD k && laneOn h && !h.th.fenced &&
  ((h.ring k).lane == .up || (h.ring k).wrapped)

/-- The half collects slots, seals and computes: ACTIVE, STANDBY, and SYNCING from its first install on (R299). -/
def collects (h : Half) : Bool :=
  h.glb.role == .active || h.glb.role == .standby || (h.glb.role == .syncing && decide (1 ≤ h.th.installs))

/-! ### NSLOT (R74) -/

/-- A position that is being bound and whose TIME_SET has left. -/
def bindingSent (h : Half) (k p : Nat) : Bool :=
  ((h.node k p).binding.map (·.timeSet)).getD false

def slotPos (h : Half) (k p : Nat) : Bool :=
  (match boundAt h k p with
   | some c => let s := (h.cell c).st; s != .absent && s != .forwardOnly
   | none => false) || bindingSent h k p

def nslotOf (h : Half) (k : Nat) : Nat := ((List.range 16).filter fun i => slotPos h k (i + 1)).length

/-- The cycle that begins next (R25). -/
def comingCycle (h : Half) : Nat := if h.glb.started then h.glb.cycle + 1 else 0

/-- The half follows the offsets of an ACTIVE half (R18). -/
def followsOffsets (cx : Cx) (h : Half) : Bool := h.glb.role != .active && cx.other.glb.role == .active

/-- The half whose NSLOT both use in R14 gives a new one, from the next boundary on (R18). -/
def giveNslot (cx : Cx) (k n : Nat) (h : Half) : Half :=
  let r := h.ring k
  if followsOffsets cx h || (r.nslotNext.map (·.2)).getD r.nslotUse == n then h
  else h.modRing k fun r => { r with nslotNext := some (comingCycle h, n) }

/-- NSLOT as of the next COLL_GO; a change is told to the nodes (R89). -/
def takeNslot (cx : Cx) (k : Nat) (h : Half) : Half :=
  let n := nslotOf h k
  giveNslot cx k n (if n = (h.ring k).nslot then h else h.modRing k fun r => { r with
    nslot := n, nodes := r.nodes.map (fun x => { x with tsDue := true }) })

/-- At T0 both halves take the ACTIVE half's NSLOT of every ring into R14 (R18); of a ring on which that half sends no trains
it gives the present count. (DESIGN CHOICE, log entry 122.) -/
def nslotsT0 (cx : Cx) (h : Half) : Half :=
  let use (r : Ring) : Nat := match r.nslotNext with
    | some (c, n) => if c ≤ h.glb.cycle then n else r.nslotUse
    | none => r.nslotUse
  let follow := followsOffsets cx h
  let new := (List.range 12).map fun k => use (if follow then cx.other.ring k else h.ring k)
  let moved := (List.range 12).any fun k => new.getD k 0 != (h.ring k).nslotUse
  let h := { h with rings := vmapi h.rings fun k r => { r with
    nslotUse := new.getD k 0
    nslotNext := if follow then none else r.nslotNext.filter fun x => decide (h.glb.cycle < x.1) } }
  let h := (List.range 12).foldl (fun h k => if ringServes h k then h else giveNslot cx k (nslotOf h k) h) h
  if moved then recompute cx h else h

/-- COLL_GO and the FILL blocks that follow it. -/
def collTrain (me : HalfId) (nslot cycle : Nat) : List Block :=
  (fld 0x2D 0 ||| fld nslot 8 ||| fld me.bit 13 ||| fld (cycle % 4096) 16) ::
    List.replicate (2 * nslot - 1) (fld 0x36 0)

/-- The next T0 is so near that its train window has begun (R73). -/
def windowAhead (h : Half) : Bool := decide (untilT0 h ≤ tNs 800)

/-- The cycle that a train sent now belongs to: that of the T0 ahead within the window. -/
def trainCycle (h : Half) : Nat := if windowAhead h then comingCycle h else h.glb.cycle

/-- The beginning of the train window that lies around this instant, or was the last. -/
def windowFrom (now : Nat) (h : Half) : Nat := (if windowAhead h then now + untilT0 h else h.glb.t0) - tNs 800

/-- The present window, or the last, has begun since the ring's fence was removed (R282). -/
def ringFree (now : Nat) (h : Half) (k : Nat) : Bool := decide ((h.ring k).freeAt ≤ windowFrom now h)

/-- A ring is fenced from the first train window that begins at least 200 ns after the raise (R267). -/
def matureRings (cx : Cx) (h : Half) : Half := matureFences cx.me (windowFrom cx.now h) isRingUnit h

/-- Delay of a position's input from this half's transmit ball by the delays in use, in tenths; q counts from its side. -/
def delayTo (me : HalfId) (r : Ring) (q : Nat) : Nat :=
  sumN ((ownSide me r.spans).take q) + sumN ((ownSide me r.cuts).take (q - 1))

/-- The first position from this half's side that has a collection slot, or position 1. -/
def firstSlot (me : HalfId) (h : Half) (k : Nat) : Nat :=
  let n := (h.ring k).n
  ((List.range n).find? fun i => slotPos h k (match me with
    | .a => i + 1
    | .b => n - i)).getD 0 + 1

/-- A COLL_GO sent now reaches its first position at T0 + 80 ns or later (R74), and none has left for its cycle. -/
def collDue (cx : Cx) (h : Half) (k : Nat) : Bool :=
  let d := tTenth (delayTo cx.me (h.ring k) (firstSlot cx.me h k))
  let t0 := if windowAhead h then cx.now + untilT0 h else h.glb.t0
  (windowAhead h || (h.glb.started && h.glb.sealedAt.isNone)) && decide (t0 + tNs 80 ≤ cx.now + d) &&
    (h.ring k).goCycle != some (trainCycle h) && ringFree cx.now h k

def collGoF (k : Nat) (cx : Cx) (h : Half) : Half :=
  let h := matureRings cx h
  gate (h.glb.dev.inService && collects h && ringServes h k && collDue cx h k) (fun h =>
    let h := takeNslot cx k h
    let n := (h.ring k).nslot
    if n = 0 then h
    else (h.send (.ring cx.now k (collTrain cx.me n (trainCycle h)))).modRing k fun r => { r with goCycle := some (trainCycle h) }) h

/-! ### Collection slots (R76, R144, R145) -/

/-- The fields of a slot. NSTATE 7 to 15 counts as 6. -/
def slotFields (k : RingNo) (ctl data : Block) : SlotRec :=
  let ns := bits ctl 15 12
  { ring := k, pos := ⟨bits ctl 11 8 % 16, Nat.mod_lt _ (by decide)⟩,
    nstate := BitVec.ofNat 4 (if ns ≤ 6 then ns else 6), temp := BitVec.ofNat 8 (bits ctl 35 28),
    flags := BitVec.ofNat 12 (bits ctl 47 36), vdc := BitVec.ofNat 16 (bits ctl 63 48),
    icell := BitVec.ofNat 16 (bits data 15 0), idab := BitVec.ofNat 16 (bits data 31 16),
    isw := BitVec.ofNat 16 (bits data 47 32) }

def slotPosOk (h : Half) (k p : Nat) : Bool := (boundAt h k p).isSome || bindingSent h k p

/-- A slot error, and source 0x17 at the sixteenth within 1,000 cycles; sixteen further ones raise it again (DESIGN
CHOICE, log entry 121). -/
def slotError (cx : Cx) (k : Nat) (h : Half) : Half :=
  let h := h.count (RG.HR_CNT_SLOT_CRC k)
  let c := h.glb.cycle
  let l := (c : Int) :: (vget h.svc k).crcHist.filter (fun x => decide ((c : Int) < x + 1000))
  if l.length ≥ 16 then
    raise cx 0x17 (argRing k) 0 (h.modSvc k fun s => { s with crcHist := [] })
  else h.modSvc k fun s => { s with crcHist := l }

/-- A dropped service frame, and source 0x1A at the sixteenth within 1 s; sixteen further ones raise it again (DESIGN
CHOICE, log entry 121). -/
def svcError (cx : Cx) (k : Nat) (h : Half) : Half :=
  let h := h.count (RG.HR_CNT_SVC_CRC k)
  let l := cx.now :: (vget h.svc k).svcHist.filter (fun x => decide (cx.now < x + tSec 1))
  if l.length ≥ 16 then
    raise cx 0x1A (argRing k) 0 (h.modSvc k fun s => { s with svcHist := [] })
  else h.modSvc k fun s => { s with svcHist := l }

def hasSlot (l : List SlotRec) (p : Nat) : Bool := l.any fun s => s.pos.val + 1 == p

def slotMask (l : List SlotRec) : BitVec 16 :=
  l.foldl (fun m s => m ||| BitVec.ofNat 16 (2 ^ s.pos.val)) 0

/-- A half to which the ACTIVE half sends the snapshot's messages: not one that is leaving (R152, R314). -/
def hasFollower (h : Half) : Bool := (h.th.oRole == .standby || h.th.oRole == .syncing) && !h.th.oLeft

/-- An item of SEAL goes to the other half, unless this half seals alone (R152). -/
def tellOther (cx : Cx) (m : TMsg) (h : Half) : Half :=
  if h.glb.role = .active ∧ !hasFollower h then h else h.tether cx.now m

/-- The half sends its SLOT_MAP for the ring (R144). -/
def sendMap (cx : Cx) (k : Nat) (h : Half) : Half :=
  (tellOther cx (.slotMap k (slotMask (h.ring k).slots)) h).modRing k
    fun r => { r with mapSent := true, trains := r.trains + 1 }

/-- Slots are gathered from T0 to SEAL. -/
def gathering (h : Half) : Bool :=
  h.glb.dev.inService && h.glb.started && h.glb.sealedAt.isNone && collects h

/-- The slot record of a position goes to the other half, once in a cycle (R145). -/
def sendRec (cx : Cx) (k : Nat) (s : SlotRec) (h : Half) : Half :=
  if (h.ring k).sentRecs.getLsbD s.pos then h
  else (tellOther cx (.slotRec s) h).modRing k fun r => { r with
    sentRecs := r.sentRecs ||| BitVec.ofNat 16 (2 ^ s.pos.val) }

/-- A slot of a collection train, or its room: a FILL block is no slot, and may end the train (R144). Of several tests that a
slot fails, the deadline counts last: it is then one of HR_CNT_SLOT_CRC (DEDUCED, log entry 123). -/
def collSlotF (k : RingNo) (ctl data : Block) (follows tail : Bool) (cx : Cx) (h : Half) : Half :=
  let lane := (h.ring k).lane
  if !(laneOn h && (lane == .block || lane == .up)) then h
  else if blockError ctl then countBlock k ctl h
  else if !(h.glb.dev.inService && h.glb.started) then h
  else
  let s := slotFields k ctl data
  let p := s.pos.val + 1
  let bad := bits ctl 7 0 != 0x55 || !follows || crcField data != crc16Pair ctl data ||
    !slotPosOk h k p || bits ctl 27 16 != h.glb.cycle % 4096
  let late := decide (h.glb.t0 + tNs (h.glb.ts - 20) < cx.now)
  let h :=
    if bits ctl 7 0 = 0x36 ∨ bits ctl 7 0 = 0x2D then h
    else if bad then slotError cx k h
    else if late then h.count (RG.HR_CNT_SLOT_LATE k)
    else if hasSlot (h.ring k).slots p then h
    else
      let h := h.modRing k fun r => { r with slots := r.slots ++ [s] }
      let lacks := ((h.ring k).omap.map fun m => !m.getLsbD s.pos.val).getD false
      if gathering h && (lacks || ((h.ring k).wrapped && !reaches cx.me.other (h.ring k) p)) then
        sendRec cx k s h else h
  let h := h.modRing k fun r => { r with inRun := !tail }
  if tail && gathering h then sendMap cx k h else h

def slotMapDeadlineF (k : Nat) (cx : Cx) (h : Half) : Half :=
  gate (gathering h && (h.ring k).trains == 0 && decide (h.glb.t0 + tNs (h.glb.ts - 20) ≤ cx.now))
    (sendMap cx k) h

/-- The other half's SLOT_MAP (R145, R146): slots absent from it are forwarded at once. -/
def slotMapF (k : Nat) (mask : BitVec 16) (cx : Cx) (h : Half) : Half :=
  if !(h.glb.dev.inService && h.glb.started) then h
  else if h.glb.sealedAt.isSome then h.count RG.TH_CNT_LATE
  else
    let h := h.modRing k fun r => { r with omap := some ((r.omap.getD 0) ||| mask) }
    (h.ring k).slots.foldl (fun h s =>
      if mask.getLsbD s.pos.val then h else sendRec cx k s h) h

def slotRecF (rs : List SlotRec) (_cx : Cx) (h : Half) : Half :=
  if !(h.glb.dev.inService && h.glb.started) then h
  else rs.foldl (fun h s =>
    if h.glb.sealedAt.isSome then h.count RG.TH_CNT_LATE
    else h.modRing s.ring fun r =>
      { r with oslots := if hasSlot r.oslots (s.pos.val + 1) then r.oslots else r.oslots ++ [s] }) h

/-! ### Wrapping (R101 to R103, R105) -/

/-- A WRAP block seen by either half in this cycle. -/
def noteWrap (k pos : Nat) (sideB : Bool) (h : Half) : Half :=
  h.modRing k fun r =>
    if sideB then { r with nextB := if r.nextB = 0 then pos else min r.nextB pos }
    else { r with nextA := max r.nextA pos }

/-- A WRAP block: valid by its type and CRC alone. CYCLE is not compared, a POS above 16 wraps the ring like any other, and
one of POS 0 is counted and passed on but wraps nothing (DEDUCED, log entry 115). It ends a train that it follows directly (R144). -/
def wrapF (k : RingNo) (blk : Block) (cx : Cx) (h : Half) : Half :=
  let lane := (h.ring k).lane
  gate (laneOn h && (lane == .block || lane == .up)) (fun h =>
    let h := countBlock k blk h
    if bits blk 7 0 = 0xAA ∧ crcField blk = crc16Single blk then
      let pos := bits blk 12 8
      let sb := blk.getLsbD 13
      let h := noteWrap k pos sb (h.count (RG.HR_CNT_WRAP k))
      let h := h.tether cx.now (.relay (.wrap k pos sb))
      let run := (h.ring k).inRun
      let h := h.modRing k fun r => { r with inRun := false }
      if run && gathering h then sendMap cx k h else h
    else h) h

/-- At T0: rings with a WRAP block in the past cycle are wrapped in this one (R101); the first such cycle
raises 0x11, a whole cycle without one raises 0x12 (R105). -/
def wrapT0 (cx : Cx) (h : Half) : Half :=
  let h := (List.range 12).foldl (fun h k =>
    let r := h.ring k
    let w := decide (r.nextA ≠ 0 ∨ r.nextB ≠ 0)
    let h := h.modRing k fun r => { r with wrapA := r.nextA, wrapB := r.nextB, nextA := 0, nextB := 0, wrapped := w }
    let h := raiseIf (w && !r.wrapped) cx 0x11 (argRing k) 0 h
    raiseIf (!w && r.wrapped) cx 0x12 (argRing k) 0 h) h
  h.modGlb fun g => { g with wrapped := (List.range 12).any fun k => (h.ring k).wrapped }

/-! ### Command trains (R78) -/

/-- A CMD_SLOT: control and data block. -/
def cmdSlot (me : HalfId) (act : Bool) (p cycle ta : Nat) (c : CellCmd) : List Block :=
  let ctl := fld 0x66 0 ||| fld (p - 1) 8 ||| fld me.bit 12 ||| fld (b2n act) 13 ||| fld c.mode 14 |||
    fld (b2n c.release) 17 ||| fld (cycle % 4096) 20 ||| fld (ta % 2048) 32
  let dat := fld c.mref.toNat 0 ||| fld c.dab.toNat 16 ||| fld (c.cph % 65536) 32
  [ctl, withCrc dat (crc16Pair ctl dat)]

/-- Contexts of a ring with a command slot that this half reaches, farthest first from its side. -/
def trainCells (me : HalfId) (h : Half) (k : Nat) : List (Nat × Nat) :=
  let l := (List.range 16).filterMap fun i =>
    match boundAt h k (i + 1) with
    | some c => if (h.cell c).st.slot && reaches me (h.ring k) (i + 1) then some (i + 1, c) else none
    | none => none
  match me with
  | .a => l.reverse
  | .b => l

/-- Later instants of a wrapped cycle move 60 ns (R20). -/
def wrapNs (g : Glb) : Nat := if g.wrapped then 60 else 0

/-- Trains are withheld after a residue error and by an abstaining or SYNCING half (R151, R180, R299). -/
def sendsTrains (h : Half) : Bool :=
  (h.glb.role == .active || h.glb.role == .standby) && !h.ox.abstain && !h.ox.residue && !h.th.fenced

/-- How much later a train leaves on ring k: SHIFT_NS rounded up to a block of 6.4 ns (PERT_TRAIN, R495). -/
def trainPert (h : Half) (k : Nat) : Nat :=
  if h.pert RG.PERT_TRAIN k k = 1 then ceilDiv (tNs (h.pert RG.PERT_TRAIN 27 16)) 512 * 512 else 0

def commandTrainF (cx : Cx) (h : Half) : Half :=
  let due := h.glb.t0 + tNs (h.glb.ts + 200 + wrapNs h.glb)
  let h := matureRings cx h
  gate (h.glb.dev.inService && h.glb.dispAt.isSome && decide (due ≤ cx.now) && sendsTrains h && !h.glb.trained) (fun h =>
    (List.range 12).foldl (fun h k =>
      if !(ringServes h k && ringFree cx.now h k) then h else
      let cs := trainCells cx.me h k
      if cs.isEmpty then h else
      let bs := cs.flatMap fun (p, c) =>
        cmdSlot cx.me (h.glb.role == .active) p h.glb.cycle h.glb.ta (h.cell c).cmd
      let leave := cx.now + trainPert h k
      raiseIf (decide (due < leave)) cx 0x1B (argRing k) 0 (h.send (.ring leave k bs)))
      (h.modGlb fun g => { g with trained := true })) h

/-! ### Gust blocks (R82, R277) -/

def gustBits (me : HalfId) (clusters cycle gen : Nat) : Block :=
  let b := fld 0x99 0 ||| fld (clusters % 8) 8 ||| fld me.bit 11 ||| fld (cycle % 4096) 12 ||| fld (gen % 256) 24
  withCrc b (crc16Single b)

/-- The ring carries a bound context of one of the clusters. -/
def ringHasCluster (h : Half) (k clusters : Nat) : Bool :=
  (List.range 16).any fun i =>
    match boundAt h k (i + 1) with
    | some c => let x := h.bn (BK.OX_CLUSTER c); decide (x < 3) && clusters / 2 ^ x % 2 == 1
    | none => false

/-- A GUST_BLOCK is inserted at the first boundary permitted; a frame under way, and what is to follow it, moves by a block. -/
def insertGust (cx : Cx) (k : Nat) (b : Block) (h : Half) : Half :=
  let t := gustAt cx.now k h
  (h.send (.ring t k [b])).modSvc k fun s => { s with busy := if t < s.busy then s.busy + tTenth 64 else s.busy }

def gustBlockF (cx : Cx) (h : Half) : Half :=
  match h.sd.decisions with
  | [] => h
  | d :: _ =>
    if cx.now < d.time + tNs 20 then h else
    let ds := h.sd.decisions.filter fun x => decide (x.time ≤ d.time + tNs 20)
    let clusters := ds.foldl (fun m d => m ||| d.clusters) 0
    let gen := (h.sd.gen + 1) % 256
    let stage := ds.any (·.stage)
    let trips := ds.filterMap (·.trip)
    let h := h.modSd fun s => { s with
      gen := gen, decisions := s.decisions.filter fun x => !decide (x.time ≤ d.time + tNs 20) }
    let b := gustBits cx.me clusters d.cycle gen
    let h := (List.range 12).foldl (fun h k =>
      if laneOn h && ringHasCluster h k clusters then insertGust cx k b h else h) h
    let v := gen + 256 * b2n stage + 512 * b2n (!trips.isEmpty) + 4096 * trips.headD 0
    raise cx 0xFC clusters (BitVec.ofNat 32 v) h

/-! ### Service frames (R84 to R89) -/

/-- The bytes that the frame CRC covers: SVC_START bits 63:8, then the payload. -/
def svcBytes (start : Block) (data : List Block) : List Byte :=
  leBytes 7 (start.toNat / 256) ++ data.flatMap fun b => leBytes 8 b.toNat

def svcEnd (start : Block) (data : List Block) : Block :=
  fld 0x87 0 ||| ((crc32c (svcBytes start data)).setWidth 64 <<< 8)

/-- A frame from a half to position p (31: every node). -/
def svcFrame (me : HalfId) (dst kind seq : Nat) (grant : Bool) (data : List Block) : SvcFrame :=
  let start := fld 0x78 0 ||| fld (dst % 32) 8 ||| fld me.bit 18 ||| fld (b2n grant) 19 |||
    fld (kind % 256) 20 ||| fld (data.length % 64) 28 ||| fld (seq % 65536) 34
  ⟨start, data, svcEnd start data⟩

/-- The length of a frame with n payload blocks. -/
def svcLen (n : Nat) : Nat := tTenth (64 * (n + 2))

/-- A frame may start: outside the windows, ending before the next one (R73). -/
def svcFree (now len : Nat) (h : Half) : Bool :=
  laneOn h && !inWindow now (svcLen len) h

/-- The first instant at which a frame of `len` payload blocks may start on ring k (R73): after the frame before it, outside
the windows, and so that it ends before the next one. -/
def svcStart (now k len : Nat) (h : Half) : Nat :=
  let t := max now (vget h.svc k).busy
  if !hasWindows h then t else
  -- T_A may still rise at the T0 that is being taken: 11 bits hold it
  let ta := if h.glb.t0 = now then 2047 else max h.glb.ta ((h.glb.want.map (·.2)).getD 0)
  let t := if h.glb.started then max t (h.glb.t0 + tNs (h.glb.ta + 100)) else t
  let t := if h.glb.started ∧ h.glb.t0 = now then max t (now + tNs (ta + 100)) else t
  let next := now + untilT0 h
  let last := svcLen len + tNs 800
  if t + last ≤ next then t else
  let tc := 320 * max 1 (h.bn BK.CYCLE_TC_TICKS)
  let j := ceilDiv (t + last - next) tc
  let at_ := max t (next + (j - 1) * tc + tNs (ta + 100))
  if at_ + last ≤ next + j * tc then at_ else next + j * tc + tNs (ta + 100)

/-- Send one frame in its place between the train windows and, if it is to be acknowledged, wait for that. A fenced half
sends none (R293). -/
def sendSvc (cx : Cx) (k pos kind : Nat) (grant wait : Bool) (data : List Block) (h : Half) : Half :=
  if h.th.fenced then h else
  let seq := (vget h.svc k).seq
  let at_ := svcStart cx.now k data.length h
  let h := h.send (.svc at_ k (svcFrame cx.me pos kind seq grant data))
  h.modSvc k fun s => { s with
    seq := (seq + 1) % 65536, busy := at_ + svcLen data.length
    wait := if wait then s.wait ++ [⟨pos, seq, kind, data, at_, 0⟩] else s.wait }

/-- Frames that the ACTIVE half alone sends go over the Tether when its ring does not reach the node (R88). -/
def sendActive (cx : Cx) (k : RingNo) (pos kind : Nat) (data : List Block) (h : Half) : Half :=
  if reaches cx.me (h.ring k) pos && laneOn h then sendSvc cx k pos kind false true data h
  else h.tether cx.now (.relay (.svc k (svcFrame cx.me pos kind 0 false data)))

/-- A frame of this KIND to this position waits for its acknowledgement. -/
def waiting (h : Half) (k pos kind : Nat) : Bool :=
  (vget h.svc k).wait.any fun f => f.pos == pos && f.kind == kind

/-- The device states in which a half probes and serves its nodes: from CONFIGURED on (R94). -/
def onRings (h : Half) : Bool := h.glb.dev.inService || h.glb.dev == .safe

/-- A probe is due (R94): an ABSENT position up to HOPS, or any other without accepted slots. -/
def probeDue (now : Nat) (h : Half) (k p : Nat) : Bool :=
  onRings h && h.bf (BK.HERD_RING_EN k) && !waiting h k p 0x01 &&
  (let n := h.node k p
   (!n.known && !n.fwd && n.binding.isNone && decide (p ≤ (h.ring k).n)) ||
     ((n.fwd || n.known && decide (4 ≤ n.missRun)) && decide (n.probeAt + tMs 1 ≤ now)))

/-- A probe; the outcome of the last one stands until this one is answered (R96). -/
def enumQueryF (k : RingNo) (p : Nat) (cx : Cx) (h : Half) : Half :=
  gate (probeDue cx.now h k p && svcFree cx.now 0 h) (fun h =>
    (sendSvc cx k p 0x01 false true [] h).modNode k p fun n => { n with
      noReply := n.noReply && !n.known && !n.fwd, probeAt := cx.now }) h

/-- A container of 32 zero blocks (R85, R86), to a node with a bound context or one that is being probed. -/
def grantF (k : RingNo) (p : Nat) (cx : Cx) (h : Half) : Half :=
  gate (onRings h && h.bf (BK.HERD_RING_EN k) && svcFree cx.now 32 h &&
      ((boundAt h k p).isSome || (h.node k p).binding.isSome || (h.node k p).fwd || waiting h k p 0x01))
    (fun h => (sendSvc cx k p 0x00 true false (List.replicate 32 0) h).modNode k p
      fun n => { n with grantAt := cx.now }) h

/-- Path delay from this half's transmit ball to the input of position p, in tenths (ARRIVE). -/
def arriveOf (me : HalfId) (r : Ring) (p : Nat) : Nat :=
  delayTo me r (match me with
    | .a => p
    | .b => r.n + 1 - p)

/-- A schedule change tells every node anew (R89, R377). -/
def allTimeSets (h : Half) : Half :=
  (List.range 12).foldl (fun h k => h.modRing k fun r =>
    { r with nodes := r.nodes.map (fun x => { x with tsDue := true }) }) h

/-- The payload of a TIME_SET for position p from cycle `ref` on. -/
def timeSetData (me : HalfId) (h : Half) (k p ref : Nat) : List Block :=
  let r := h.ring k
  let m : Int := (vget h.svc k).mcount - 1
  let tc := h.tc
  let t0ref : Int := (h.glb.nextT0 : Int) - h.tb.epoch + ((ref : Int) - comingCycle h) * tc
  let t0ref := match h.tb.step with
    | some (kk, d) => if kk < ref then t0ref + (-d * 2 ^ 32) % (tc : Int) else t0ref
    | none => t0ref
  let phase := t0ref * 10 / 2 ^ 32 - m * 2 ^ 20
  let en := (boundAt h k p).isSome || (h.node k p).binding.isSome
  let cl := match ctxOf h k p with
    | some c => if en then h.bn (BK.OX_CLUSTER c) else 3
    | none => 3
  [ BitVec.ofNat 64 ref,
    fld (m % 2 ^ 24).toNat 0 ||| (BitVec.ofInt 64 phase <<< 32),
    fld (h.bn BK.CYCLE_TC_TICKS) 0 ||| fld (min 65535 (arriveOf me r p)) 16 ||| fld r.n 32 |||
      fld (b2n en + 2 * cl) 40 ||| fld (max 1 (nslotOf h k)) 48 ]

/-- When a TIME_SET is due: at binding, when something in it changed, and after 100 ms (R89). -/
def timeSetDue (me : HalfId) (now : Nat) (h : Half) (k p : Nat) : Bool :=
  let n := h.node k p
  (match n.binding with
   | some b => !b.timeSet
   | none => false) ||
  (((boundAt h k p).isSome || n.fwd) &&
    (n.tsDue || n.tsNow || decide (n.tsAt + tMs 100 ≤ now) ||
     (let a := arriveOf me (h.ring k) p; decide (2 < (max a n.arrive) - (min a n.arrive)))))

/-- A TIME_SET leaves at once, so that its REF_CYCLE and PHASE are those of its instant (R89). -/
def timeSetF (k : RingNo) (p : Nat) (cx : Cx) (h : Half) : Half :=
  gate (onRings h && reaches cx.me (h.ring k) p && timeSetDue cx.me cx.now h k p &&
      svcFree cx.now 3 h && decide (svcStart cx.now k 3 h = cx.now) && !waiting h k p 0x03) (fun h =>
    let binding := (h.node k p).binding.isSome || (h.node k p).tsNow
    let next := comingCycle h
    let ahead := if tUs 100 ≤ untilT0 h then next else next + ceilDiv 25000 (h.bn BK.CYCLE_TC_TICKS)
    let ref := if binding then next else match h.tb.step with
      | some (kk, _) => max (kk + 1) ahead
      | none => ahead
    let h1 := h.modNode k p fun n => { n with
      -- a step to come needs a frame of its own
      tsDue := binding && (h.tb.step.isSome || n.tsDue && n.tsNow), tsNow := false, tsAt := cx.now, arrive := arriveOf cx.me (h.ring k) p,
      binding := n.binding.map (fun b => { b with timeSet := true }) }
    sendSvc cx k p 0x03 false true (timeSetData cx.me h1 k p ref) h1) h

/-! ### Unwrapping (R105) -/

/-- The wrapping nodes of a ring. -/
def wrappers (r : Ring) : List Nat :=
  (if r.wrapA = 0 then [] else [r.wrapA]) ++ (if r.wrapB = 0 then [] else [r.wrapB])

/-- RING_CTL UNWRAP to each wrapping node, AT_CYCLE at least 200 µs ahead. -/
def sendUnwrap (cx : Cx) (k : RingNo) (h : Half) : Half :=
  let at_ := h.glb.cycle + 1 + ceilDiv 50000 (h.bn BK.CYCLE_TC_TICKS)
  (wrappers (h.ring k)).foldl (fun h p =>
    if waiting h k p 0x06 then h else
    (sendActive cx k p 0x06 [fld 1 0 ||| fld (at_ % 2 ^ 56) 8] h).modNode k p
      fun n => { n with unwrapAt := some at_ }) h

def sideUpFor (now len : Nat) (h : Half) (k p : Nat) : Bool :=
  match (h.node k p).sideUpSince with
  | some t => decide (t + len ≤ now)
  | none => false

def autoUnwrapF (k : RingNo) (cx : Cx) (h : Half) : Half :=
  let ws := wrappers (h.ring k)
  gate (h.glb.role == .active && (h.ring k).wrapped && h.getF (RG.HR_CTRL k) 0 0 == 1 && !ws.isEmpty &&
      ws.all (sideUpFor cx.now (tMs 10) h k)) (sendUnwrap cx k) h

/-! ### Binding and loss (R95, R532) -/

/-- A cell leaves the ranks of its cluster, with its o_c; between SEAL and DISPATCH with that before the slew, so that it
is slewed once (R171 to R173). -/
def leaveRank (c : Nat) (h : Half) : Half :=
  match (h.cell c).rank with
  | none => h
  | some r =>
    let ofs := if h.glb.sealedAt.isSome && h.glb.dispAt.isNone then (h.cell c).ofs0 else (h.cell c).ofs
    (h.modOx fun o => { o with left := o.left ++ [(h.bn (BK.OX_CLUSTER c), c, r, ofs)] }).modCell c
      fun x => { x with rank := none, entered := false }

/-- A position and its context return to ABSENT; for the sums of the cycle the cell still counts as its command at T0 says,
as one that is bypassed does (R153). -/
def unbind (k p : Nat) (h : Half) : Half :=
  let h := match boundAt h k p with
    | some c => (leaveRank c h).modCell c fun x => { Cell.init with
        fenced := x.fenced, byCmd := x.byCmd, cmd := x.cmd, gone := x.gone.or (some (x.rcd, x.id)) }
    | none => h
  h.modNode k p fun n => { n with
    fwd := false, known := false, binding := none, missRun := 0, noReply := false, timeAck := false, cfgDue := [] }

def nodeLostF (k : RingNo) (p : Nat) (cx : Cx) (h : Half) : Half :=
  let n := h.node k p
  gate ((n.known || n.fwd) && decide (4 ≤ n.missRun ∨ n.fwd) && n.noReply) (fun h =>
    (unbind k p (raise cx 0x14 (argPos k p) (BitVec.ofNat 32 ((boundAt h k p).getD 0xFF)) h)).modNode k p
      fun n => { n with noReply := true, answered := false }) h

/-- The binding is abandoned: 1 ms after the acknowledgement without an accepted slot (R532). A half that does not reach the
node, and so sends it no TIME_SET, follows the other half (DEDUCED, log entry 124). -/
def bindingAbandonedF (k : RingNo) (p : Nat) (cx : Cx) (h : Half) : Half :=
  match (h.node k p).binding with
  | some b =>
    let o := cx.other.node k p
    gate ((b.ackAt.map fun t => decide (t + tMs 1 ≤ cx.now)).getD false ||
        (!reaches cx.me (h.ring k) p && o.binding.isNone && o.abandoned))
      (fun h => h.modNode k p fun n => { n with binding := none, abandoned := true }) h
  | none => h

/-- Frames that the ACTIVE half alone sends (R88): CFG_WRITE, RING_CTL, FW_CHUNK, FW_ACTIVATE. -/
def activeKind (n : Nat) : Bool := n == 0x04 || n == 0x06 || n == 0x20 || n == 0x21

/-- A half that is no longer ACTIVE gives up the frames that the ACTIVE half alone sends. -/
def dropActiveFrames (h : Half) : Half :=
  { h with svc := h.svc.map fun s => { s with wait := s.wait.filter fun f => !activeKind f.kind } }

/-- A frame is resent by the half that sent it, those of the ACTIVE half also by one that sent them for it; a fenced half sends
none (R293). -/
def mayResend (h : Half) (kind : Nat) : Bool := !h.th.fenced && (!activeKind kind || h.glb.role != .fenced)

/-- An unacknowledged frame after 100 µs (R88): resent at most three times, then source 0x19; what waited
for the reply gives up. A frame of the ACTIVE half to a node that its ring no longer reaches goes over the Tether. -/
def svcResendCore (k : RingNo) (p : Nat) (cx : Cx) (h : Half) : Half :=
  match (vget h.svc k).wait.find? (fun f => f.pos == p && mayResend h f.kind && decide (f.sent + tUs 100 ≤ cx.now)) with
  | none => h
  | some f =>
    if activeKind f.kind ∧ h.glb.role = .active ∧ !reaches cx.me (h.ring k) p ∧ f.tries < 3 then
      let h := (h.count (RG.HR_CNT_SVC_RETRY k)).modSvc k fun s => { s with wait := s.wait.filter (· ≠ f) }
      h.tether cx.now (.relay (.svc k (svcFrame cx.me p f.kind 0 false f.data)))
    else if f.tries < 3 then
      if !svcFree cx.now f.data.length h then h else
      let h := h.send (.svc cx.now k (svcFrame cx.me p f.kind f.seq false f.data))
      (h.count (RG.HR_CNT_SVC_RETRY k)).modSvc k fun s => { s with
        wait := s.wait.map (fun g => if g = f then { g with sent := cx.now, tries := g.tries + 1 } else g) }
    else
      let h := h.modSvc k fun s => { s with wait := s.wait.filter (· ≠ f) }
      let h := raise cx 0x19 (argPos k p) (BitVec.ofNat 32 ((boundAt h k p).getD 0xFF)) h
      if f.kind = 0x01 then h.modNode k p fun n => { n with noReply := true }
      else if f.kind = 0x03 then h.modNode k p fun n =>
        if n.binding.isSome then { n with binding := none, abandoned := true } else n
      else h

end Sys2Proof.Machine
end

