-- ==== Sys2Proof/Machine/Operands.lean ====
section
/-! DEFINITION. The operand forms of a command descriptor (10_host_interface.md, R328, R329) and of the
opcodes whose tables stand in other chapters (R376, R400, R474, R489): the fields, and the limits that
make a descriptor REJECT_ARG at admission. -/
namespace Sys2Proof.Machine

/-! ### Fields of a descriptor -/

/-- Byte n of a descriptor (R2). -/
def dByte (d : Desc) (n : Nat) : Nat := wbits (vget d (n / 4)) (8 * (n % 4) + 7) (8 * (n % 4))
/-- Word at byte 4·i. -/
def dWord (d : Desc) (i : Nat) : Word := vget d i
def dHalf (d : Desc) (n : Nat) : Nat := dByte d n + 256 * dByte d (n + 1)
def dLong (d : Desc) (n : Nat) : Nat := (dWord d (n / 4)).toNat + 2 ^ 32 * (dWord d (n / 4 + 1)).toNat

def dOp (d : Desc) : Nat := dByte d 0
def dFlags (d : Desc) : Nat := dByte d 1
def dTag (d : Desc) : Nat := dHalf d 2
def dSeq (d : Desc) : Nat := dLong d 8
def dApply (d : Desc) : Nat := dLong d 16
def dNoAck (d : Desc) : Bool := dFlags d % 2 == 1
def dStatus (d : Desc) : Nat := dByte d 5

/-- A descriptor with byte n replaced. -/
def dSetByte (d : Desc) (n v : Nat) : Desc :=
  vset d (n / 4) (wset (vget d (n / 4)) (8 * (n % 4) + 7) (8 * (n % 4)) v)

/-- The descriptor as admitted: bytes 4, 5 and 16 to 23 replaced (R328). -/
def asAdmitted (d : Desc) (ring status cycle : Nat) : Desc :=
  let d := dSetByte (dSetByte d 4 ring) 5 status
  vset (vset d 4 (BitVec.ofNat 32 cycle)) 5 (BitVec.ofNat 32 (cycle / 2 ^ 32))

/-- The 64 bytes of a descriptor. -/
def dBytes (d : Desc) : List Byte := d.toList.flatMap leWord

/-- All bytes from a to b are zero. -/
def dZero (d : Desc) (a b : Nat) : Bool := (List.range (b + 1 - a)).all fun i => dByte d (a + i) == 0

/-! ### The limits of the operands -/

/-- The size in bytes of each SPACE of CMD_READ_STATE (R342, R147; the ring registers, DESIGN CHOICE, log entry 12). -/
def spaceBytes (sp : Nat) : Nat :=
  if sp ≤ 1 then 0x20000 else if sp = 2 then 1384 * 4 else if sp = 3 then 0x300 else 0

/-- The slot sizes that bound LENGTH (16_thermal_security_update.md, flash layout). -/
def slotBytes (image : Nat) : Nat :=
  if image = 0 then 6 * 2 ^ 20 else if image = 1 then 2 ^ 20 else 16 * 2 ^ 20

/-- Stream ring s is enabled. -/
def srEnabled (h : Half) (s : Nat) : Bool := h.getF (RG.SR_CFG s) 16 0 != 0

/-- The contexts that CTX names (R489). -/
def dCtxs (d : Desc) : List Nat := (List.range 144).filter fun c => dByte d (44 + c / 8) / 2 ^ (c % 8) % 2 == 1

/-- The operand keeps the limits of its opcode's table. -/
def operandOk (h : Half) (d : Desc) : Bool :=
  match dOp d with
  | 0x00 => dZero d 24 63
  | 0x01 =>
    let f := dByte d 24
    let c := dByte d 25
    decide (f ≤ 63 ∧ 1 ≤ c ∧ c ≤ 8 ∧ f + c ≤ 64) && dZero d 26 31 &&
      ((List.range c).all fun i => F32.finite (dWord d (8 + i))) && dZero d (32 + 4 * c) 63
  | 0x02 =>
    let o := (dWord d 6).toNat
    let c := dByte d 28
    decide (o % 4 = 0 ∧ 1 ≤ c ∧ c ≤ 8 ∧ o + 4 * c ≤ 0x20000) && dZero d 29 31 && dZero d (32 + 4 * c) 63
  | 0x03 => dZero d 32 63
  | 0x04 => decide (dByte d 24 ≤ 143) && dZero d 25 63
  | 0x05 => decide (dByte d 24 ≤ 143) && dZero d 25 63
  | 0x06 => decide (dByte d 24 ≤ 11 ∧ dByte d 25 ≤ 1) && dZero d 26 63
  | 0x07 => decide (dHalf d 24 < 2 ^ 13 ∧ dByte d 26 ≤ 4) && dZero d 27 27 &&
      (dByte d 26 != 4 || decide (8 ≤ (dWord d 7).toNat)) && dZero d 32 63
  | 0x08 =>
    let a := dByte d 24
    decide (a ≤ 4 ∧ dByte d 26 ≤ 1) && dZero d 27 27 && dZero d 30 31 && dZero d 40 63 &&
      (if a = 1 then decide (dByte d 25 ≤ 7) && srEnabled h (dByte d 25)
       else dZero d 25 26 && dZero d 32 39 && (a == 2 || dZero d 28 29))
  | 0x09 => dByte d 24 != 0 && decide (dByte d 25 ≤ 5) && dZero d 26 63
  | 0x0A =>
    let m := dByte d 24
    let l := (dWord d 10).toNat
    decide (m ≤ 1 ∧ 1 ≤ l ∧ l < 2 ^ 31) && (m == 1 || dZero d 32 39) && dZero d 25 31 && dZero d 44 63
  | 0x0B => decide (dByte d 24 ≤ 1) && dZero d 25 63
  | 0x0C =>
    let i := dByte d 25
    let n := (dWord d 10).toNat
    decide (i ≤ 2) && (i == 2 || decide (dByte d 24 ≤ 1)) && dZero d 26 31 &&
      decide (dLong d 32 % 4096 = 0 ∧ 512 ≤ n ∧ n ≤ slotBytes i) && dZero d 62 63 &&
      (if i = 2 then !(dCtxs d).isEmpty else dZero d 44 61)
  | 0x0D =>
    let i := dByte d 25
    decide (i ≤ 2) && (i == 2 || decide (dByte d 24 ≤ 1)) && dZero d 26 43 && dZero d 62 63 &&
      (if i = 2 then !(dCtxs d).isEmpty else dZero d 44 61)
  | 0x0E =>
    let o := (dWord d 7).toNat
    let n := (dWord d 8).toNat
    decide (dByte d 24 ≤ 3 ∧ dByte d 25 ≤ 7) && srEnabled h (dByte d 25) && dZero d 26 27 &&
      decide (o % 4 = 0 ∧ n % 4 = 0 ∧ o + n ≤ spaceBytes (dByte d 24)) && dZero d 36 63
  | _ => false

/-- Reserved bits of FLAGS, and the bytes the host writes as 0 (R328). -/
def reservedOk (d : Desc) : Bool :=
  (if dOp d = 3 then dFlags d / 2 % 2 == 0 && decide (dFlags d < 16) else decide (dFlags d ≤ 1)) &&
  dZero d 4 7

/-- The checks of R329 at admission. -/
def descOk (h : Half) (d : Desc) : Bool := decide (dOp d ≤ 0x0E) && reservedOk d && operandOk h d

end Sys2Proof.Machine
end

