-- ==== Sys2Proof/Machine/HostRing.lean ====
section
/-! DEFINITION. Rings in host memory: sizes, counts, phases, doorbells, completion and event records,
stream buffers, interrupts (10_host_interface.md, R319 to R327, R338, R345 to R352, R357, R358). -/
namespace Sys2Proof.Machine

/-! ### Rings and their registers -/

def two32 : Nat := 4294967296

def crSize (h : Half) (r : Nat) : Nat := h.getF (RG.CR_CFG r) 16 0
def crCq (h : Half) (r : Nat) : Nat := h.getF (RG.CR_CFG r) 26 24
def cqSize (h : Half) (q : Nat) : Nat := h.getF (RG.CQ_CFG q) 16 0
def evSize (h : Half) : Nat := h.getF RG.EV_CFG 16 0
def srSize (h : Half) (s : Nat) : Nat := h.getF (RG.SR_CFG s) 16 0

def crOf (h : Half) (r : Nat) : CmdRing := vget h.hi.cr r
def cqOf (h : Half) (q : Nat) : CplRing := vget h.hi.cq q
def srOf (h : Half) (s : Nat) : StrRing := vget h.hi.sr s
def Half.modCr (h : Half) (r : Nat) (f : CmdRing → CmdRing) : Half := h.modHi fun i => { i with cr := vmod i.cr r f }
def Half.modCq (h : Half) (q : Nat) (f : CplRing → CplRing) : Half := h.modHi fun i => { i with cq := vmod i.cq q f }
def Half.modSr (h : Half) (s : Nat) (f : StrRing → StrRing) : Half := h.modHi fun i => { i with sr := vmod i.sr s f }
def Half.modEv (h : Half) (f : CplRing → CplRing) : Half := h.modHi fun i => { i with ev := f i.ev }

/-- A ring's base address from its two registers (R322). -/
def baseAt (h : Half) (lo : Nat) : Nat :=
  (h.reg lo).toNat / 4096 * 4096 + two32 * (h.reg (lo + 4)).toNat

/-- (a − b) mod 2³² (R325). -/
def dist32 (a b : Nat) : Nat := (a + two32 - b % two32) % two32

/-- PHASE that a record of count n carries in a ring of S entries (R324). -/
def phaseOf (n s : Nat) : Nat := 1 - n / 2 ^ Nat.log2 s % 2

/-- A completion ring holds as many entries as it can (R323). -/
def cqFull (h : Half) (q : Nat) : Bool :=
  decide (cqSize h q ≤ dist32 (cqOf h q).prod (h.reg (RG.DB_CQ_HEAD q)).toNat)

/-- The key of word w of entry v of the MSI-X table, and of the pending-bit array (BAR4). -/
def msixKey (v w : Nat) : Nat := 0x200000 + 16 * v + 4 * w
def msixPba : Nat := 0x200800

/-- Memory writes are enabled (R320), and no read-back is waited for (R353). -/
def canWrite (h : Half) : Bool :=
  h.glb.role == .active && !h.th.fenced && h.hi.rbAt.isNone && h.hi.speed != 0

/-- Vector v is masked: by the function's mask or its own (R348). -/
def isMasked (h : Half) (v : Nat) : Bool := h.hi.msixMask || h.getF (msixKey v 3) 0 0 == 1

/-- Vector v is requested: a masked one becomes pending instead, and with MSI-X disabled there is no request (R348). A request
is a memory write, so PERT_DMA delays it too. (PRESUMED, log entry 119; DESIGN CHOICE, log entry 120.) -/
def requestIrq (now v : Nat) (h : Half) : Half :=
  if !h.hi.msixOn then h
  else if isMasked h v then h.putF msixPba v v 1 else h.send (.msix (h.writeAt now) v)

/-- Vector v is pending and no longer masked: it is requested now, once writes are enabled. -/
def sendPending (now v : Nat) (h : Half) : Half :=
  if canWrite h && h.hi.msixOn && !isMasked h v && h.getF msixPba v v == 1 then
    (h.putF msixPba v v 0).send (.msix (h.writeAt now) v) else h

/-- A write to BAR4: a word of the table; a pending vector that is unmasked is requested; the pending bits are read only. -/
def bar4Write (now off : Nat) (v : Word) (h : Half) : Half :=
  if 0x200200 ≤ off then h
  else
    match off % 16 with
    | 0 => h.put off (v &&& 0xFFFFFFFC#32)
    | 12 => sendPending now ((off - 0x200000) / 16) (h.put off (v &&& 1))
    | _ => h.put off v

def evFree (h : Half) : Nat := evSize h - dist32 h.hi.ev.prod (h.reg RG.DB_EV_HEAD).toNat

/-! ### Doorbells (R325) -/

/-- The argument of sources 0xC1 to 0xC6 (R357). -/
def argHostRing (kind i : Nat) : Nat := i % 16 + 16 * kind

/-- A doorbell of a ring with `size` entries: `ok` is R325's condition. In LULL_ONLY there is no endpoint (R319). -/
def doorbell (cx : Cx) (off size kind i : Nat) (ok : Bool) (v : Word) (h : Half) : Half :=
  if h.glb.dev = .lullOnly then h
  else if size = 0 then h.count RG.HI_CNT_DB_IGNORED
  else if h.glb.role = .active ∧ !ok then
    raise cx 0xC1 (argHostRing kind i) 0 (h.count RG.HI_CNT_DB_BAD)
  else h.put off v

def crTailF (r : Nat) (v : Word) (cx : Cx) (h : Half) : Half :=
  doorbell cx (RG.DB_CR_TAIL r) (crSize h r) 0 r
    (decide (dist32 v.toNat (crOf h r).cons ≤ crSize h r)) v h

/-- A completion ring is full since this instant, or has room again (R327). -/
def noteStall (now q : Nat) (h : Half) : Half :=
  if cqSize h q ≠ 0 ∧ cqFull h q then h.modCq q fun c => { c with stallAt := c.stallAt.or (some now) }
  else h.modCq q fun c => { c with stallAt := none, stallRaised := false }

def cqHeadF (q : Nat) (v : Word) (cx : Cx) (h : Half) : Half :=
  noteStall cx.now q <| doorbell cx (RG.DB_CQ_HEAD q) (cqSize h q) 1 q
    (decide (dist32 (cqOf h q).prod v.toNat ≤ cqSize h q)) v h

def srTailF (s : Nat) (v : Word) (cx : Cx) (h : Half) : Half :=
  doorbell cx (RG.DB_SR_TAIL s) (srSize h s) 2 s
    (decide (dist32 v.toNat (srOf h s).prod ≤ srSize h s)) v h

def evHeadF (v : Word) (cx : Cx) (h : Half) : Half :=
  doorbell cx RG.DB_EV_HEAD (evSize h) 3 0 (decide (dist32 h.hi.ev.prod v.toNat ≤ evSize h)) v h

/-! ### Ring setup (R322, R323, R327) -/

def sizeOk (s : Nat) : Bool := s == 0 || (decide (16 ≤ s ∧ s ≤ 65536) && s == 2 ^ Nat.log2 s)

/-- HI_STATUS.CFG_ERR is set (R322). -/
def cfgErr (now : Nat) (h : Half) : Half := h.setW1c now RG.HI_STATUS 10

def cfgOff (kind : RingKind) (i : Nat) : Nat :=
  match kind with
  | .cr => RG.CR_CFG i
  | .cq => RG.CQ_CFG i
  | .sr => RG.SR_CFG i
  | .ev => RG.EV_CFG

/-- Counts set to 0 as a ring is enabled (R323); a stopped ring runs again (R357). -/
def enableRing (kind : RingKind) (i : Nat) (h : Half) : Half :=
  match kind with
  | .cr => (h.modCr i fun c => { c with cons := 0, err := false }).put (RG.DB_CR_TAIL i) 0
  | .cq => (h.modCq i fun c =>
      { c with prod := 0, err := false, irqAt := none, irqWait := false, stallAt := none, stallRaised := false }).put
      (RG.DB_CQ_HEAD i) 0
  | .sr => (h.modSr i fun c => { c with prod := 0, err := false, dropped := 0, gap := false, dropRun := false }).put (RG.DB_SR_TAIL i) 0
  | .ev => (h.modEv fun c => { c with prod := 0, err := false }).put RG.DB_EV_HEAD 0

/-- Records due to a disabled or stopped completion ring are lost (R327, R357). -/
def loseRecs (q : Nat) (h : Half) : Half :=
  let n := (cqOf h q).due.length
  (h.put RG.HI_CNT_REC_LOST (sat32 (h.reg RG.HI_CNT_REC_LOST) n)).modCq q fun c => { c with due := [] }

def disableRing (kind : RingKind) (i : Nat) (h : Half) : Half :=
  match kind with
  | .cq => (loseRecs i h).modCq i fun c => { c with stallAt := none, stallRaised := false }
  | .sr => h.modSr i fun c => { c with units := [], first := none, cont := false }
  | _ => h

/-- A write to a ring's CFG register (R322, R358). -/
def ringCfg (now : Nat) (kind : RingKind) (i : Nat) (v : Word) (h : Half) : Half :=
  let off := cfgOff kind i
  let old := h.getF off 16 0
  let new := wbits v 16 0
  let bad := !sizeOk new || (old != 0 && new != 0 && old != new)
  let size := if bad then old else new
  let h := if bad then cfgErr now h else h
  let w := match kind with
    | .cr => wset (if old = 0 then wset (h.reg off) 26 24 (wbits v 26 24) else h.reg off) 16 0 size
    | _ => wset (wset (wset 0 31 24 (wbits v 31 24)) 17 17 (wbits v 17 17)) 16 0 size
  let h := h.put off w
  if old = 0 ∧ size ≠ 0 then enableRing kind i h
  else if old ≠ 0 ∧ size = 0 then disableRing kind i h
  else h

def ringSizeWriteF (kind : RingKind) (i : Nat) (v : Word) (cx : Cx) (h : Half) : Half :=
  gate (h.glb.dev != .lullOnly) (ringCfg cx.now kind i v) h

/-- A write to a base register of a ring with `size` entries (R322). -/
def baseWrite (now off size : Nat) (v : Word) (h : Half) : Half :=
  if size = 0 then h.put off v else cfgErr now h

/-! ### Completion records (R345, R348) -/

/-- The 32 bytes of a completion record with PHASE p. -/
def recBytes (me : HalfId) (r : Rec) (p : Nat) : List Byte :=
  leBytes 8 r.seq ++ leBytes 8 r.cycle ++ leWord r.result ++ leBytes 2 r.tag ++ leBytes 1 r.opcode ++
  leBytes 1 r.status ++ leBytes 1 (r.ring % 8) ++
  leBytes 1 (b2n r.fin + 2 * b2n r.single + 4 * me.bit + 8 * b2n r.afterHo) ++ List.replicate 5 0 ++
  leBytes 1 (128 * p)

/-- A record falls due (R336, R340): in the ACTIVE half it waits for its ring, in any other half it
counts as known (R354). -/
def dueRec (r : Rec) (h : Half) : Half :=
  let q := crCq h r.ring
  let c := cqOf h q
  if h.glb.role = .active then
    if cqSize h q = 0 ∨ c.err then h.count RG.HI_CNT_REC_LOST
    else h.modCq q fun c => { c with due := c.due ++ [r] }
  else if cqSize h q = 0 then h
  else (h.modCq q fun c => { c with prod := (c.prod + 1) % two32 }).modHi
    fun i => { i with history := i.history ++ [(q, r)] }

/-- Request vector q under the moderation of R348. -/
def irqCq (now q : Nat) (h : Half) : Half :=
  if h.getF (RG.CQ_CFG q) 17 17 = 0 then h else
  let mod := h.getF (RG.CQ_CFG q) 31 24
  let c := cqOf h q
  match c.irqAt with
  | some t =>
    if mod ≠ 0 ∧ now < t + tUs mod then h.modCq q fun c => { c with irqWait := true }
    else (requestIrq now q h).modCq q fun c => { c with irqAt := some now, irqWait := false }
  | none => (requestIrq now q h).modCq q fun c => { c with irqAt := some now, irqWait := false }

/-- Write the record at the front of completion ring q, if the ring can take it. -/
def writeCq (cx : Cx) (q : Nat) (h : Half) : Half :=
  let c := cqOf h q
  let s := cqSize h q
  match c.due with
  | [] => h
  | r :: rest =>
    if !canWrite h || s = 0 || c.err then h
    else if cqFull h q then noteStall cx.now q h
    else
      let a := baseAt h (RG.CQ_BASE_LO q) + c.prod % s * 32
      let h := h.send (.mem (h.writeAt cx.now) a (recBytes cx.me r (phaseOf c.prod s)))
      let h := h.modCq q fun c => { c with due := rest, prod := (c.prod + 1) % two32 }
      noteStall cx.now q (irqCq cx.now q h)

def completionRecordF (q : Nat) (cx : Cx) (h : Half) : Half := writeCq cx q h

/-- The moderation interval ends with a record written meanwhile (R348). -/
def moderationEndF (q : Nat) (cx : Cx) (h : Half) : Half :=
  let c := cqOf h q
  match c.irqAt with
  | some t => gate (c.irqWait && canWrite h &&
      decide (t + tUs (h.getF (RG.CQ_CFG q) 31 24) ≤ cx.now))
      (fun h => (requestIrq cx.now q h).modCq q fun c => { c with irqAt := some cx.now, irqWait := false }) h
  | none => h

/-- A completion ring has been full for 1 ms (R327). -/
def hiCqStallF (q : Nat) (cx : Cx) (h : Half) : Half :=
  let c := cqOf h q
  match c.stallAt with
  | some t => gate (!c.stallRaised && cqSize h q != 0 && cqFull h q && h.glb.role == .active && decide (t + tMs 1 ≤ cx.now))
      (fun h => raise cx 0xC6 (argHostRing 1 q) 0 (h.modCq q fun c => { c with stallRaised := true })) h
  | none => h

/-! ### Event records (R346, R347) -/

/-- The 32 bytes of a Sheepdog record with PHASE p. -/
def evBytes (r : EvRec) (p : Nat) : List Byte :=
  leBytes 8 r.time.toNat ++ leWord r.cycle ++ leWord r.value ++ leBytes 2 r.arg ++ leBytes 1 r.source ++
  leBytes 1 (r.sev % 8 + 8 * r.half.bit + 16 * b2n r.shared + 32 * r.deg.toNat) ++ List.replicate 11 0 ++
  leBytes 1 (128 * p)

/-- Record i of a NODE_EVENT frame of n blocks (R347). -/
def nodeEvBytes (me : HalfId) (ctx : Nat) (time : BitVec 64) (cycle : Word) (seq n i : Nat) (b : Block) (p : Nat) :
    List Byte :=
  leBytes 8 time.toNat ++ leWord cycle ++ leBytes 8 b.toNat ++ leBytes 1 ctx ++ leBytes 1 (i % 4 + 4 * ((n - 1) % 4)) ++
  leBytes 2 seq ++ leBytes 1 (8 * me.bit) ++ List.replicate 5 0 ++ leBytes 1 1 ++ leBytes 1 (128 * p)

/-- Write one 32-byte entry to the event ring. -/
def putEv (cx : Cx) (bytes : Nat → List Byte) (h : Half) : Half :=
  let s := evSize h
  let n := h.hi.ev.prod
  (h.send (.mem (h.writeAt cx.now) (baseAt h RG.EV_BASE_LO + n % s * 32) (bytes (phaseOf n s)))).modEv
    fun c => { c with prod := (n + 1) % two32 }

/-- A record due to the stopped event ring is lost: the first of the queue, or a NODE_EVENT frame's (R357). -/
def loseEv (cx : Cx) (h : Half) : Half :=
  let lost (n : Nat) (h : Half) : Half := h.put RG.HI_CNT_REC_LOST (sat32 (h.reg RG.HI_CNT_REC_LOST) n)
  match h.sd.queue, h.sd.nodeEv with
  | _ :: _, _ => popRec cx (lost 1 h)
  | [], (_, _, _, f) :: rest => (lost f.data.length h).modSd fun s => { s with nodeEv := rest }
  | [], [] => h

/-- A record of the queue leaves it: to the event ring in the ACTIVE half, by RELAY in the other (R265, R266). (DEDUCED, log entry 75.) -/
def eventRecordWriteF (cx : Cx) (h : Half) : Half :=
  if h.glb.role = .active then
    if evSize h ≠ 0 ∧ h.hi.ev.err = true then loseEv cx h else
    if !canWrite h || evSize h = 0 then h else
    match h.sd.queue, h.sd.nodeEv with
    | (_, r) :: _, _ =>
      if evFree h = 0 then h else
      let h := putEv cx (evBytes r) h
      -- the record of CLK_REF_FAIL always requests one (R361)
      let h := if 1 ≤ r.sev ∧ r.sev ≤ 6 ∧ (h.getF RG.EV_CFG 17 17 = 1 ∨ r.source = 0xB0) then requestIrq cx.now (15 + r.sev) h else h
      popRec cx h
    | [], (ctx, t, cyc, f) :: rest =>
      let n := f.data.length
      if evFree h < n then h else
      let seq := bits f.start 49 34
      let h := f.data.zipIdx.foldl (fun h x =>
        putEv cx (nodeEvBytes cx.me ctx t cyc seq n x.2 x.1) h) h
      h.modSd fun s => { s with nodeEv := rest }
    | [], [] => h
  else if h.th.oRole = .active ∧ h.th.lanesTx ≠ 0 then
    match h.sd.queue with
    | (t, r) :: _ => popRec cx ((h.tether cx.now (.relay (.record r))).modSd fun s => { s with
        passed := ((t, r) :: s.passed).take 512 })
    | [] => h
  else h

/-! ### Stream units and buffers (R349 to R352) -/

def pad8 (n : Nat) : Nat := 8 * ceilDiv n 8

/-- The bytes of a unit with its header (R350). -/
def unitBytes (u : SUnit) : List Byte :=
  let n := u.data.length
  let big := decide (65535 < n)
  leBytes 2 u.stream ++ leBytes 2 (if big then 0xFFFF else n) ++
  leBytes 4 (if big then n else u.cycle) ++ u.data ++ List.replicate (pad8 n - n) 0

/-- What remains of a unit to be written: with `whole` false its header has been written. -/
def unitRest (u : SUnit) : List Byte := if u.whole then unitBytes u else u.data

def unitLong (u : SUnit) : Bool := !u.whole || decide (65535 < u.data.length)

def unitsLen (l : List SUnit) : Nat := l.foldl (fun n u => n + (unitRest u).length) 0

/-- Stream entries posted and not written back. -/
def srPosted (h : Half) (s : Nat) : Nat := dist32 (h.reg (RG.DB_SR_TAIL s)).toNat (srOf h s).prod

/-- Hand one unit to stream ring s (R350, R352). -/
def pushUnit (cx : Cx) (s : Nat) (u : SUnit) (h : Half) : Half :=
  let r := srOf h s
  if srSize h s = 0 ∨ r.err then h
  else if srPosted h s = 0 ∧ 65536 < unitsLen r.units + (unitBytes u).length then
    let h := raiseIf (!r.dropRun) cx 0xC5 (argHostRing 2 s) 0 h
    h.modSr s fun r => { r with dropped := r.dropped + 1, gap := true, dropRun := true }
  else h.modSr s fun r => { r with
    units := r.units ++ [u], dropRun := false
    first := r.first.or (some cx.now), firstTb := if r.first.isNone then h.stamp.toNat else r.firstTb }

/-- Fill a buffer of `size` bytes from the waiting units: bytes, headers, END, what is left. -/
def fillBuf : Nat → List SUnit → List Byte × Nat × Bool × List SUnit
  | _, [] => ([], 0, false, [])
  | size, u :: rest =>
    let b := unitRest u
    let hd := b2n u.whole
    if b.length ≤ size then
      if !u.whole then (b, hd, true, rest)
      else
        let (bs, n, e, l) := fillBuf (size - b.length) rest
        (b ++ bs, hd + n, e, l)
    else if unitLong u ∧ 8 ≤ size then
      (b.take size, hd, false, { u with data := b.drop size, whole := false } :: rest)
    else ([], 0, false, u :: rest)

def entAddr (d : Desc) : Nat := dLong d 0
def entSize (d : Desc) : Nat := (dWord d 2).toNat
def entOk (d : Desc) : Bool :=
  decide (entAddr d % 64 = 0 ∧ entSize d % 64 = 0 ∧ 256 ≤ entSize d ∧ entSize d ≤ 1048576)

/-- The 64 bytes of a written-back entry (R349). -/
def entBytes (me : HalfId) (d : Desc) (len units flags time dropped p : Nat) : List Byte :=
  (dBytes d).take 16 ++ leBytes 4 len ++ leBytes 2 units ++ leBytes 1 (flags + 8 * me.bit) ++ [0] ++
  leBytes 8 time ++ leBytes 4 dropped ++ List.replicate 27 0 ++ leBytes 1 (128 * p)

/-- The front unit can never be written whole into this buffer. -/
def unitTooBig (size : Nat) (l : List SUnit) : Bool :=
  match l with
  | u :: _ => !unitLong u && decide (size < (unitRest u).length)
  | [] => false

/-- Write the next posted entry back (R349, R351). -/
def writeBack (cx : Cx) (s : Nat) (ent : Desc) (h : Half) : Half :=
  let r := srOf h s
  let n := r.prod
  let a := baseAt h (RG.SR_BASE_LO s) + n % srSize h s * 64
  let p := phaseOf n (srSize h s)
  let irq (h : Half) : Half := if h.getF (RG.SR_CFG s) 17 17 = 1 then requestIrq cx.now (8 + s) h else h
  if !entOk ent then
    irq ((h.send (.mem (h.writeAt cx.now) a (entBytes cx.me ent 0 0 (16 + b2n r.gap) r.firstTb r.dropped p))).modSr s
      fun r => { r with prod := (n + 1) % two32, dropped := 0, gap := false })
  else
    -- a unit that no buffer of this size can hold whole is dropped (DESIGN CHOICE, log entry 13)
    let drop := unitTooBig (entSize ent) r.units
    let us := if drop then r.units.tail else r.units
    let dropped := r.dropped + b2n drop
    let (bs, units, fin, rest) := fillBuf (entSize ent) us
    -- the drop is one of a run of drops (R352)
    let h := raiseIf (drop && !r.dropRun) cx 0xC5 (argHostRing 2 s) 0 h
    let cont := (us.head?.map (fun u => !u.whole)).getD false
    let flags := b2n (r.gap || drop) + 2 * b2n cont + 4 * b2n fin
    let h := if bs.isEmpty then h else h.send (.stream (h.writeAt cx.now) s (entAddr ent) bs)
    irq ((h.send (.mem (h.writeAt cx.now) a (entBytes cx.me ent bs.length units flags r.firstTb dropped p))).modSr s
      fun r => { r with
        prod := (n + 1) % two32, dropped := 0, gap := false, units := rest
        dropRun := r.dropRun || (drop && units == 0)
        first := if rest.isEmpty then none else some cx.now, firstTb := h.stamp.toNat })

/-- Ring s can write a buffer back. -/
def srReady (h : Half) (s : Nat) : Bool :=
  canWrite h && srSize h s != 0 && !(srOf h s).err && srPosted h s != 0 && !(srOf h s).units.isEmpty

/-- The unit at the front goes on from the buffer before. -/
def unitGoesOn (l : List SUnit) : Bool := (l.head?.map fun u => !u.whole).getD false

/-- The next unit does not fit in the buffer, or a split unit ends in it (R351). -/
def streamWriteBackF (s : Nat) (ent : Desc) (cx : Cx) (h : Half) : Half :=
  let r := srOf h s
  gate (srReady h s && (!entOk ent || decide (entSize ent < unitsLen r.units) || unitGoesOn r.units))
    (writeBack cx s ent) h

def flushF (s : Nat) (ent : Desc) (cx : Cx) (h : Half) : Half :=
  let us := h.getF (RG.SR_CFG s) 31 24
  match (srOf h s).first with
  | some t => gate (srReady h s && us != 0 && decide (t + tUs us ≤ cx.now)) (writeBack cx s ent) h
  | none => h

/-- The ring that a WAVE unit of context c is routed to (R350). -/
def waveRing (h : Half) (c : Nat) : Option Nat :=
  (List.range 8).find? fun s => srSize h s != 0 && h.getF (RG.SR_WAVE s) 16 16 == 1 &&
    decide (h.getF (RG.SR_WAVE s) 7 0 ≤ c ∧ c ≤ h.getF (RG.SR_WAVE s) 15 8)

/-! ### Link (R319, R348, R357) -/

def linkDownF (unc : Bool) (cx : Cx) (h : Half) : Half :=
  gate (h.hi.speed != 0) (fun h =>
    raise cx 0xC0 (argHalf cx.me) 0 (if unc then h else h.modHi fun i => { i with speed := 0, width := 0, msixOn := false, msixMask := false })) h

/-- The link comes up. The table has no row for a configuration write: what the host then writes to the enable and the function
mask of MSI-X is a free value. (PRESUMED, log entry 119.) -/
def pcieLinkUpF (speed width : Nat) (cx : Cx) (h : Half) : Half :=
  gate (h.glb.dev != .lullOnly && decide (1 ≤ speed ∧ speed ≤ 4 ∧ 1 ≤ width ∧ width ≤ 2))
    (fun h => h.modHi fun i => { i with
      speed := speed, width := width, msixOn := (Config.msix cx.me cx.now).1, msixMask := (Config.msix cx.me cx.now).2 }) h

/-- A transfer to a ring ends with an error completion: the ring stops (R357). -/
def hiDmaErrF (kind : RingKind) (i : Nat) (cx : Cx) (h : Half) : Half :=
  let sz := h.getF (cfgOff kind i) 16 0
  gate (sz != 0 && h.hi.speed != 0) (fun h =>
    match kind with
    | .cr => raise cx 0xC2 (argHostRing 0 i) 0 (h.modCr i fun c => { c with err := true })
    | .cq => raise cx 0xC2 (argHostRing 1 i) 0 (loseRecs i (h.modCq i fun c => { c with err := true }))
    | .sr => raise cx 0xC2 (argHostRing 2 i) 0 (h.modSr i fun c => { c with err := true })
    | .ev => raise cx 0xC2 (argHostRing 3 0) 0 (h.modEv fun c => { c with err := true })) h

/-! ### Latching reads (R40, R331) -/

/-- A read of CR_SEQ_LO latches the upper half (CR_SEQ register table). -/
def crSeqLoF (r : Nat) (_cx : Cx) (h : Half) : Half :=
  h.modCr r fun c => { c with seqHi := BitVec.ofNat 32 (c.next / two32) }

end Sys2Proof.Machine
end

