-- ==== Sys2Proof/Machine/HostCmd.lean ====
section
/-! DEFINITION. Command rings: admission, replicas, judgement records, CMD_READ_STATE, and the read-back
across a hand-over (10_host_interface.md, R328 to R337, R353 to R355; R474, R475). -/
namespace Sys2Proof.Machine

/-! ### What a descriptor is judged by -/

/-- Result of a judgement: status code, assigned cycle, RESULT. -/
structure Verdict where
  status : Nat
  cycle : Nat
  result : Word
  deriving DecidableEq, Repr, Inhabited

/-- A read of this ring is being delivered: descriptors are judged in count order, so the ring waits
(R330, R334; DEDUCED, log entry 14). -/
def readingRing (h : Half) (r : Nat) : Bool :=
  (h.hi.reading.map (·.1)) == some r || (h.hi.readingRec.map (·.1)) == some r

/-- A ring may be fetched from (R327, R330). -/
def fetchable (h : Half) (r : Nat) : Bool :=
  let s := crSize h r
  let q := crCq h r
  let n := dist32 (h.reg (RG.DB_CR_TAIL r)).toNat (crOf h r).cons
  h.glb.role == .active && h.hi.speed != 0 && s != 0 && !(crOf h r).err && cqSize h q != 0 && !cqFull h q &&
  !readingRing h r && decide (1 ≤ n ∧ n ≤ s)

/-- The ring whose turn it is (R330; DESIGN CHOICE, log entry 71). -/
def nextRing (h : Half) : Option Nat :=
  ((List.range 8).map fun i => (h.hi.lastRing + 1 + i) % 8).find? (fetchable h)

/-- The earliest cycle E of R332; before cycle 0 begins the cycle in progress counts as −1 (R341). -/
def earliest (h : Half) : Nat :=
  (if h.glb.started then h.glb.cycle + 1 else 0) + max 5 (ceilDiv 10000 (h.bn BK.CYCLE_TC_TICKS))

def heldFor (h : Half) (c : Nat) : Nat := (h.hi.held.filter fun x => x.cycle == c).length

/-- The first cycle at or after c with room (R333). -/
def roomFrom (h : Half) : Nat → Nat → Nat
  | 0, c => c
  | n + 1, c => if heldFor h c < 16 then c else roomFrom h n (c + 1)

/-- Held commands whose cycle has not begun (R333). -/
def heldAhead (h : Half) : Nat := (h.hi.held.filter fun x => !h.glb.started || decide (h.glb.cycle < x.cycle)).length

/-- The half that CMD_ROLE or CMD_UPDATE_STAGE names is the other one. -/
def namesOther (me : HalfId) (n : Nat) : Bool := halfOf n != me

/-- The conditions judged at admission for CMD_ROLE and CMD_UPDATE_STAGE (R32, R306, R489). -/
def admitState (me : HalfId) (h : Half) (d : Desc) : Nat :=
  if dOp d = 0x0B then
    if !namesOther me (dByte d 24) then 1
    else if h.th.oRole ≠ .standby then 5
    else if h.th.run < 1024 then 7 else 1
  else if dOp d = 0x0C ∧ dByte d 25 ≤ 1 then
    if namesOther me (dByte d 24) ∧ h.th.oRole = .standby then 1 else 5
  else 1

/-- CMD_READ_STATE and CMD_RECORDER READ take no cycle (R334, R474). -/
def isRead (d : Desc) : Bool := dOp d == 0x0E || (dOp d == 0x08 && dByte d 24 == 1)

def recordOf (h : Half) (n : Nat) : Option Rcd := h.me.frozen.find? fun r => r.num == n

/-- The judgement of a descriptor whose SEQ is NEXT_SEQ (R329, R332, R333). Status 0 stands for a read
that begins. -/
def judgeNew (me : HalfId) (h : Half) (r : Nat) (d : Desc) : Verdict :=
  if !descOk h d then ⟨4, 0, 0⟩
  else if isRead d then
    if dOp d = 0x0E then (if h.hi.reading.isSome then ⟨7, 0, 0⟩ else ⟨0, 0, 0⟩)
    else if h.hi.readingRec.isSome then ⟨7, 0, 0⟩
    else if (recordOf h (dHalf d 28)).isNone then ⟨5, 0, 0⟩ else ⟨0, 0, 0⟩
  else
    let e := earliest h
    let f := (crOf h r).lastCycle
    let a := dApply d
    if a ≠ 0 ∧ a < e then ⟨3, 0, 0⟩
    else if a ≠ 0 ∧ a < f then ⟨4, 0, 0⟩
    else if (a ≠ 0 ∧ 16 ≤ heldFor h a) ∨ 1024 ≤ heldAhead h then ⟨6, 0, 0⟩
    else
      let st := admitState me h d
      if st ≠ 1 then ⟨st, 0, 0⟩
      else ⟨1, if a = 0 then roomFrom h 1024 (max e f) else a, 0⟩

/-- The judgement of R331; DUPLICATE shows the original (R345). -/
def judge (me : HalfId) (h : Half) (r : Nat) (d : Desc) : Verdict :=
  let c := crOf h r
  if dSeq d < c.next then
    match (c.hist.filterMap id).find? fun x => x.1 == dSeq d with
    | some x => ⟨8, x.2.1, BitVec.ofNat 32 x.2.2⟩
    | none => ⟨8, 0, 0xFF⟩
  else if c.next < dSeq d then ⟨4, 0, 0⟩
  else judgeNew me h r d

/-! ### Replicas and records -/

/-- A half to which replicas go (R335): STANDBY, or SYNCING after its first slow chunk. -/
def hasPeer (h : Half) : Bool :=
  h.th.oRole == .standby || (h.th.oRole == .syncing && h.th.xferFor.isSome)

def sendReplica (cx : Cx) (ring seq cycle : Nat) (d : Desc) (h : Half) : Half :=
  h.tether cx.now (.replica ring (BitVec.ofNat 64 seq) (BitVec.ofNat 64 cycle) d)

/-- The record of a judgement; NO_ACK suppresses an ACCEPTED record (R336). -/
def judgeRec (cx : Cx) (x : Repl) (single : Bool) (h : Half) : Half :=
  if x.status = 1 ∧ dNoAck x.d then h
  else dueRec { ring := x.ring, seq := x.seq, cycle := x.cycle, result := x.result, tag := dTag x.d,
                opcode := dOp x.d, status := x.status, fin := x.status != 1, single := single,
                afterHo := false, dueAt := cx.now } h

/-- What both halves note of a judged descriptor: NEXT_SEQ, the last cycle, the history (in which one that took no SEQ stands
without an entry of its own, R345), the held command and a planned hand-over. -/
def noteJudged (r : Nat) (d : Desc) (v : Verdict) (h : Half) : Half :=
  let c := crOf h r
  let fresh := decide (dSeq d = c.next)
  let h := h.modCr r fun c => { c with
    next := if fresh then (c.next + 1) % 2 ^ 64 else c.next
    lastCycle := if v.status = 1 then v.cycle else c.lastCycle
    hist := ((if fresh then some (dSeq d, v.cycle, if v.status = 1 then 0xFE else v.status) else none) :: c.hist).take 256 }
  if v.status = 1 then
    let h := h.modHi fun i => { i with held := i.held ++ [⟨r, v.cycle, asAdmitted d r 1 v.cycle⟩] }
    let p := (v.cycle, halfOf (dByte d 24), 1)
    if dOp d = 0x0B ∧ p ∉ h.th.planned then h.modTh fun t => { t with planned := t.planned ++ [p] } else h
  else h

/-- A judgement is complete: counted, noted, sent as a replica or recorded at once (R335, R336). -/
def judged (cx : Cx) (r : Nat) (d : Desc) (v : Verdict) (h : Half) : Half :=
  let h := h.count RG.HI_CNT_JUDGED
  let h := if v.status = 8 then h.count RG.HI_CNT_DUP
    else if 3 ≤ v.status then h.count RG.HI_CNT_REJECT else h
  let h := noteJudged r d v h
  -- the assigned cycle, or 0 if none; the record of a DUPLICATE shows the original's (R328, R345)
  let cyc := if v.status = 1 then v.cycle else 0
  let adm := asAdmitted d r v.status cyc
  let x : Repl := ⟨r, dSeq d, adm, v.status, v.cycle, v.result, cx.now, cx.now, false, (crOf h r).cons⟩
  if hasPeer h then
    (sendReplica cx r (dSeq d) cyc adm h).modHi fun i => { i with repl := i.repl ++ [x] }
  else judgeRec cx x true h

/-- A descriptor is fetched from command ring r and judged (R330); `op` is its row's opcode. -/
def admitF (op : Nat) (r : Nat) (d : Desc) (cx : Cx) (h : Half) : Half :=
  gate (nextRing h == some r) (fun h =>
    let d := dSetByte d 0 op
    let v := judge cx.me h r d
    let h := (h.modCr r fun c => { c with cons := (c.cons + 1) % two32 }).modHi fun i => { i with lastRing := r }
    if v.status = 0 then
      if dOp d = 0x0E then h.modHi fun i => { i with reading := some (r, d) }
      else { (h.modHi fun i => { i with readingRec := some (r, d) }) with
        me := { h.me with frozen := h.me.frozen.map (fun x =>
          if x.num = dHalf d 28 then { x with reading := true } else x) } }
    else judged cx r d v h) h

/-- Two bytes, lower address first, as the 16-bit value that they hold (R2). -/
def leHalf (b : Byte × Byte) : BitVec 16 := b.2 ++ b.1

/-- CMD_UPDATE_STAGE: the half reads the image header that ADDR names before the command's cycle. -/
def updateStageF (r : Nat) (d : Desc) (vendor model : Byte × Byte) (cx : Cx) (h : Half) : Half :=
  let n := h.hi.held.length
  let h := admitF 0x0C r d cx h
  if n < h.hi.held.length then h.modHi fun i => { i with updHdr := ((r, dSeq d, leHalf vendor, leHalf model) :: i.updHdr).take 16 } else h

/-- An opcode outside the table: the operand's own where it is one, else 0xFF. -/
def unknownOpcodeF (r : Nat) (d : Desc) (cx : Cx) (h : Half) : Half :=
  admitF (if dOp d ≤ 0x0E then 0xFF else dOp d) r d cx h

def replicaAckF (ring seq : Nat) (cx : Cx) (h : Half) : Half :=
  if h.glb.role ≠ .active then h else
  match h.hi.repl.find? fun x => x.ring == ring && x.seq == seq with
  | none => h
  | some x => judgeRec cx x false (h.modHi fun i => { i with repl := i.repl.filter (· ≠ x) })

/-- Every descriptor unacknowledged for 2 µs since its last send goes again (R335); a half that has left ACTIVE sends none. -/
def replicaResendF (cx : Cx) (h : Half) : Half :=
  if h.glb.role ≠ .active then h else
  h.hi.repl.foldl (fun h x =>
    if x.last + tUs 2 ≤ cx.now then
      ((sendReplica cx x.ring x.seq (dApply x.d) x.d h).count RG.HI_CNT_RESEND).modHi fun i => { i with
        repl := i.repl.map (fun y => if y = x then { y with last := cx.now } else y) }
    else h) h

/-- 30 µs after the first send without acknowledgement; the ACTIVE half alone acts (R337). -/
def replicaTimeoutF (cx : Cx) (h : Half) : Half :=
  if h.glb.role ≠ .active then h else
  let late := h.hi.repl.filter fun x => decide (x.first + tUs 30 ≤ cx.now)
  late.foldl (fun h x =>
    let h := h.modHi fun i => { i with repl := i.repl.filter (· ≠ x) }
    let h := raise cx 0xC3 (argHostRing 0 x.ring) 0 (askFence cx h)
    judgeRec cx x true h) h

/-- The replica as the receiving half holds it: a read that ended OK and a DUPLICATE with what their records show (R334, R345). -/
def replicaOf (cx : Cx) (ring seq cycle : Nat) (d : Desc) (pos : Nat) : Repl :=
  let y := cx.other.hi.repl.find? fun x => decide (x.ring = ring ∧ x.seq = seq ∧ x.d = d ∧ x.pos = pos)
  ⟨ring, seq, d, dStatus d, cycle, (y.map (·.result)).getD 0, cx.now, cx.now, false, pos⟩

def Repl.key (x : Repl) : Nat × Nat × Desc × Nat := (x.ring, x.seq, x.d, x.pos)

/-- Where a replica that has come stands in its ring, or none if it is a copy: one of a ring, SEQ and descriptor that this half
has, unless the ACTIVE half still waits for the acknowledgement of another that stands elsewhere, as a DUPLICATE of a
DUPLICATE does. -/
def newReplica (cx : Cx) (ring seq : Nat) (d : Desc) (h : Half) : Option Nat :=
  let known := ((h.hi.stored ++ h.xf.early.map Repl.key).filter fun x => decide (x.1 = ring ∧ x.2.1 = seq ∧ x.2.2.1 = d)).map
    (·.2.2.2)
  let outs := (cx.other.hi.repl.filter fun x => decide (x.ring = ring ∧ x.seq = seq ∧ x.d = d)).map (·.pos)
  let new := outs.filter fun n => !known.contains n
  if !known.isEmpty && new.isEmpty then none
  else some (new.headD (((crOf h ring).cons + (h.xf.early.filter fun x => x.ring == ring).length) % two32))

/-- The later of two counts of a ring. -/
def laterCount (a b : Nat) : Nat := if dist32 a b < 2 ^ 31 then a else b

/-- A replica is stored, and what both halves note of its descriptor with it (R335, R355). -/
def storeReplica (cx : Cx) (h : Half) (x : Repl) : Half :=
  let orig := judge cx.me.other h x.ring x.d
  let x := if x.status = 8 then { x with cycle := orig.cycle, result := orig.result } else x
  let h := h.modHi fun i => { i with stored := (x.key :: i.stored).take 2048 }
  let h := h.modCr x.ring fun c => { c with cons := laterCount ((x.pos + 1) % two32) c.cons }
  judgeRec cx x false (noteJudged x.ring x.d ⟨x.status, x.cycle, 0⟩ h)

/-- A CMD_REPLICA arrives (R335): stored once, acknowledged always. A SYNCING half takes those that come since its first
slow chunk, and enters them once it has the slow state whole (R298). (DEDUCED, log entry 74.) -/
def cmdReplicaF (ring seq cycle : Nat) (d : Desc) (cx : Cx) (h : Half) : Half :=
  let early := h.glb.role == .syncing && !h.th.gotSlow
  gate (h.glb.role == .standby || (h.glb.role == .syncing && (h.th.gotSlow || (vget h.xf.next 0).isSome))) (fun h =>
    let h := h.tether cx.now (.replicaAck ring (BitVec.ofNat 64 seq))
    match newReplica cx ring seq d h with
    | none => h
    | some pos =>
      let x := replicaOf cx ring seq cycle d pos
      let h := h.modHi fun i => { i with unread := i.unread ++ [(ring, seq, d)] }
      if early then h.modXf fun q => { q with early := q.early ++ [x] } else storeReplica cx h x) h

/-- The receiving half reads the descriptor from host memory and compares it with the replica that it read it for: of those
with one ring and SEQ, the oldest not yet compared (R335). (DEDUCED, log entry 129.) -/
def replicaReadF (ring seq : Nat) (d : Desc) (cx : Cx) (h : Half) : Half :=
  match h.hi.unread.find? fun x => x.1 == ring && x.2.1 == seq with
  | none => h
  | some x =>
    let same := ((List.range 64).filter fun n => decide (n ≤ 3 ∨ (6 ≤ n ∧ n ≤ 15) ∨ 24 ≤ n)).all fun n =>
      dByte d n == dByte x.2.2 n
    raiseIf (!same && h.hi.speed != 0) cx 0xC4 (argHostRing 0 ring) 0 (h.modHi fun i => { i with unread := i.unread.erase x })

/-! ### Reads (R334, R474, R475) -/

/-- A word of the ring windows as a register read shows it. -/
def ringWord (h : Half) (off : Nat) : Word :=
  let i := (off - 0x60100) / 0x20
  let q := (off - 0x60200) / 0x10
  let s := (off - 0x60300) / 0x20
  if off < 0x60200 then
    match off % 0x20 with
    | 0x0C => BitVec.ofNat 32 (crOf h i).next
    | 0x10 => (crOf h i).seqHi
    | 0x14 => BitVec.ofNat 32 (crOf h i).cons
    | 0x18 => BitVec.ofNat 32 (b2n (crSize h i != 0 && cqSize h (crCq h i) == 0) + 2 * b2n (crOf h i).err +
        4 * b2n (crSize h i != 0 && cqSize h (crCq h i) != 0 && cqFull h (crCq h i)))
    | _ => h.reg off
  else if off < 0x60280 then
    if off % 0x10 = 0x0C then BitVec.ofNat 32 (cqOf h q).prod else h.reg off
  else if off < 0x60300 then
    if off = RG.EV_PROD then BitVec.ofNat 32 h.hi.ev.prod else h.reg off
  else
    match off % 0x20 with
    | 0x10 => BitVec.ofNat 32 (srOf h s).prod
    | 0x14 => BitVec.ofNat 32 (if srPosted h s = 0 then unitsLen (srOf h s).units else 0)
    | _ => h.reg off

/-- The bytes that CMD_READ_STATE names. -/
def spaceRead (h : Half) (d : Desc) : List Byte :=
  let o := (dWord d 7).toNat
  let n := (dWord d 8).toNat
  let word (a : Nat) : Word := match dByte d 24 with
    | 0 => Bank.word h.glb.live a
    | 1 => Bank.word h.glb.pend a
    | 2 => WMap.get zeroW h.glb.snap (a / 4)
    | _ => ringWord h (0x60100 + a)
  (List.range (n / 4)).flatMap fun i => leWord (word (o + 4 * i))

/-- One cause of a record header (R475). -/
def causeBytes (x : RcdCause × Nat × Nat) : List Byte :=
  let (k, b, s) := match x.1 with
    | .source n => (0, n, 0)
    | .signal n => (1, x.2.1, n)
    | .goose p => (2, p, 0)
    | .command => (3, x.2.1, 0)
  leBytes 1 k ++ leBytes 1 b ++ leBytes 2 s ++ leBytes 4 x.2.2

/-- A frame's bytes with BAD set where its words were read with an uncorrectable error (R475). -/
def frameBytes (bad : List Nat) (f : Frame) : List Byte :=
  if bad.contains f.cycle then f.bytes.set 14 ((f.bytes.getD 14 0) ||| 2#8) else f.bytes

/-- The byte stream of a record (R475). -/
def recordBytes (me : HalfId) (bad : List Nat) (r : Rcd) : List Byte :=
  let fs := r.frames.reverse
  let body := fs.flatMap (frameBytes bad)
  let cs := r.causes.take 8
  leBytes 2 r.num ++
  leBytes 1 (me.bit + 2 * b2n r.truncated + 4 * b2n r.retrig + 8 * b2n (fs.tail.any (·.gap))) ++
  leBytes 1 cs.length ++ leBytes 4 0 ++ leBytes 8 r.trig ++ leBytes 8 r.stamp.toNat ++ leBytes 4 r.pre ++
  leBytes 4 fs.length ++ leWord r.commits ++ leBytes 4 body.length ++ cs.flatMap causeBytes ++
  List.replicate (64 - 8 * cs.length) 0 ++ List.replicate 152 0 ++ body

/-- The bytes that CMD_RECORDER READ names. -/
def recorderRead (me : HalfId) (bad : List Nat) (h : Half) (d : Desc) : List Byte :=
  match recordOf h (dHalf d 28) with
  | none => []
  | some r =>
    let o := (dWord d 8).toNat
    let n := (dWord d 9).toNat
    let b := (recordBytes me bad r).drop o
    let b := if n = 0 then b else b.take n
    if dByte d 26 = 1 then Config.deflate b else b

/-- Deliver a reply as one unit and judge the descriptor OK (R334, R350, R352). -/
def deliver (cx : Cx) (r : Nat) (d : Desc) (stream : Nat) (data : List Byte) (h : Half) : Half :=
  let s := dByte d 25
  let n := (srOf h s).units.length
  let h := pushUnit cx s ⟨stream, h.glb.cycle, data, true⟩ h
  let res := if (srOf h s).units.length = n then 0 else data.length
  judged cx r d ⟨0, 0, BitVec.ofNat 32 res⟩ h

def readDeliveryDoneF (recorder : Bool) (bad : List Nat) (cx : Cx) (h : Half) : Half :=
  if h.glb.role ≠ .active then h
  else if recorder then
    match h.hi.readingRec with
    | none => h
    | some (r, d) =>
      let data := recorderRead cx.me bad h d
      let h := { (h.modHi fun i => { i with readingRec := none }) with
        me := { h.me with frozen := h.me.frozen.map (fun x => { x with reading := false }) } }
      deliver cx r d 0x0100 data h
  else
    match h.hi.reading with
    | none => h
    | some (r, d) =>
      let data := spaceRead h d
      deliver cx r d 0x0101 data (h.modHi fun i => { i with reading := none })

/-! ### Read-back across a hand-over (R353, R354) -/

/-- 10 µs after becoming ACTIVE the search begins. -/
def readBackF (cx : Cx) (h : Half) : Half :=
  match h.hi.rbAt with
  | some t => gate (h.glb.role == .active && h.hi.speed != 0 && !h.hi.rbBusy && decide (t + tUs 10 ≤ cx.now))
      (fun h => h.modHi fun i => { i with rbBusy := true }) h
  | none => h

def memByte (mem : List (Nat × Byte)) (a : Nat) : Nat :=
  match mem.find? fun x => x.1 == a with
  | some x => x.2.toNat
  | none => 0

/-- The entry of count n carries the PHASE of a written one. -/
def writtenAt (mem : List (Nat × Byte)) (base s size off n : Nat) : Bool :=
  memByte mem (base + n % s * size + off) / 128 == phaseOf n s

/-- The search of R353 over [lo, hi). -/
def searchW (w : Nat → Bool) : Nat → Nat → Nat → Nat
  | 0, lo, _ => lo
  | f + 1, lo, hi =>
    if lo < hi then
      let mid := lo + (hi - lo) / 2
      if w mid then searchW w f (mid + 1) hi else searchW w f lo mid
    else lo

/-- RING, SEQ and FINAL of the record of count n in host memory. -/
def readRec (mem : List (Nat × Byte)) (base s n : Nat) : Nat × Nat × Bool :=
  let a := base + n % s * 32
  (memByte mem (a + 24) % 8,
   ofLe ((List.range 8).map fun i => BitVec.ofNat 8 (memByte mem (a + i))),
   memByte mem (a + 25) % 2 == 1)

/-- The records of completion ring q still to be written (R354). -/
def missingRecs (h : Half) (mem : List (Nat × Byte)) (q w : Nat) : List Rec :=
  let s := cqSize h q
  let base := baseAt h (RG.CQ_BASE_LO q)
  let back := (List.range (min w 256)).map fun i => readRec mem base s (w - 1 - i)
  let mine := (h.hi.history.filter fun x => x.1 == q).map (·.2)
  let key (r : Rec) : Nat × Nat × Bool := (r.ring, r.seq, r.fin)
  let all := back.any fun b => !(mine.any fun r => key r == b)
  let from_ := if all then mine else
    let l := mine.dropWhile fun r => !back.contains (key r)
    if back.isEmpty then mine else l
  (from_.filter fun r => !back.contains (key r)).map fun r => { r with afterHo := true }

/-- Write n records of completion ring q, as far as it takes them. -/
def writeN (cx : Cx) (q : Nat) : Nat → Half → Half
  | 0, h => h
  | n + 1, h => writeN cx q n (writeCq cx q h)

/-- The read-back completes: counts found, missing records written, vector 22, source 0xC7. -/
def hiReadbackF (mem : List (Nat × Byte)) (cx : Cx) (h : Half) : Half :=
  gate (h.hi.rbBusy && h.glb.role == .active) (fun h =>
    let find (base s size off lo : Nat) : Nat :=
      searchW (writtenAt mem base s size off) 18 lo (lo + s) % two32
    let h := h.modHi fun i => { i with rbAt := none, rbBusy := false }
    let h := if evSize h = 0 then h else
      let w := find (baseAt h RG.EV_BASE_LO) (evSize h) 32 31 (h.reg RG.DB_EV_HEAD).toNat
      h.modEv fun c => { c with prod := w }
    let h := (List.range 8).foldl (fun h s =>
      if srSize h s = 0 then h else
      let w := find (baseAt h (RG.SR_BASE_LO s)) (srSize h s) 64 63
        (dist32 (h.reg (RG.DB_SR_TAIL s)).toNat (srSize h s))
      h.modSr s fun c => { c with prod := w }) h
    let (h, n) := (List.range 8).foldl (fun (p : Half × Nat) q =>
      let (h, n) := p
      if cqSize h q = 0 then (h, n) else
      let w := find (baseAt h (RG.CQ_BASE_LO q)) (cqSize h q) 32 31 (h.reg (RG.DB_CQ_HEAD q)).toNat
      let ms := missingRecs h mem q w
      let h := h.modCq q fun c => { c with prod := w, due := ms ++ c.due }
      (writeN cx q ms.length h, n + ms.length)) (h, 0)
    let h := (List.range 32).foldl (fun h v => sendPending cx.now v h) h
    let h := (List.range 8).foldl (fun h q => noteStall cx.now q h) (requestIrq cx.now 22 h)
    raise cx 0xC7 (argHalf cx.me) (BitVec.ofNat 32 n) (h.modHi fun i => { i with history := [] })) h

/-! ### Withdrawal and final records (R340, R341) -/

/-- A final record decided in the cycle, due at DISPATCH (R340). -/
def outcome (x : Held) (status : Nat) (result : Word) (h : Half) : Half :=
  let seq := dSeq x.d
  let r : Rec := {
    ring := x.ring, seq := seq, cycle := x.cycle, result := result, tag := dTag x.d
    opcode := dOp x.d, status := status, fin := true, single := false, afterHo := false, dueAt := 0 }
  (h.modHi fun i => { i with outcomes := i.outcomes ++ [r] }).modCr x.ring fun c => { c with
    hist := c.hist.map (Option.map fun y => if y.1 = seq then (y.1, y.2.1, status) else y) }

/-- Every held command of a later cycle is withdrawn; those of the cycle begun execute in it, and are held no longer (R339,
R341). -/
def withdraw (h : Half) : Half :=
  let later := h.hi.held.filter fun x => x.cycle != h.glb.cycle
  later.foldl (fun h x => outcome x 5 0xFFFFFFFE h) (h.modHi fun i => { i with held := [] })

/-- The final records of the cycle fall due (R340). -/
def dueOutcomes (cx : Cx) (h : Half) : Half :=
  h.hi.outcomes.foldl (fun h r => dueRec { r with dueAt := cx.now } h) (h.modHi fun i => { i with outcomes := [] })

end Sys2Proof.Machine
end

