-- ==== Sys2Proof/Machine/Reset.lean ====
section
/-! DEFINITION. What a release of core reset, the loss of a domain and the rise of VLULL leave of a half
(R6, R437, R443, R504, R530). -/
namespace Sys2Proof.Machine

/-- The registers that domains named by `p` hold go back to their Reset column (R530). -/
def Half.resetRegs (p : RegDom → Bool) (h : Half) : Half :=
  { h with regs := WMap.keep (fun o => !p (regDomain o)) h.regs }

/-- Core reset with the clocks `ck` (R530): the CORE, LANE, NET and ANA domains take their reset state; the LULL domain, the
one-time programmed values and the log of what was sent stay. -/
def Half.coreResetWith (now : Nat) (ck : Ck) (h : Half) : Half :=
  let z := Half.init h.id
  let h' := h.resetRegs (fun d => d != .lull)
  let fb (p : Nat) : Bool := (vget ck.pll p).fallback
  { z with
    glb := { z.glb with preferred := h.glb.preferred }
    th := { z.th with
      fenceHist := h.th.fenceHist, lastRevert := h.th.lastRevert, roleLow := h.th.roleLow,
      roleLine := h.th.roleLine, barRaised := h.th.barRaised
      -- TH_HIST and TH_REVERT are held in the LULL domain
      shown := vset (vset z.th.shown 6 (vget h.th.shown 6)) 7 (vget h.th.shown 7) }
    ck := ck
    tb := { z.tb with fallback := fb 0 }
    lv := { z.lv with clkSafe := fb 2 }
    an := { z.an with fallback := fb 5 }
    pw := h.pw
    tm := { z.tm with
      cmp := h.tm.cmp, otpFw := h.tm.otpFw, otpCfg := h.tm.otpCfg, ckey := h.tm.ckey,
      report := h.tm.report, actCyc := h.tm.actCyc }
    pk := { h.pk with rstAt := now, halt := h.pk.ir == 0x00 || h.pk.ir == 0x04 || h.pk.ir == 0x05 }
    regs := h'.regs
    out := h.out }

/-- Core reset; every PLL acquires lock anew (R362). -/
def Half.coreReset (now : Nat) (h : Half) : Half :=
  h.coreResetWith now { h.ck with pll := h.ck.pll.map fun x => { x with locked := false, fallback := x.on, lostAt := now } }

/-- The end of a reset that has been held (R504): registers take their reset values anew (R530), while the PLLs, which have
acquired lock since it began, and the lanes' time go on. -/
def Half.endReset (now : Nat) (h : Half) : Half :=
  let z := h.coreResetWith now h.ck
  { z with
    glb := { z.glb with dev := .booting }
    tb := { z.tb with lag := h.tb.lag + h.tb.now - h.tb.epoch }
    svc := vmapi z.svc fun k s => { s with mcount := (vget h.svc k).mcount }
    th := { z.th with lanesTx := h.th.lanesTx, lanesRx := h.th.lanesRx } }

/-- Core reset is held: the half is OFF, drives no shared ball, and its fence line is released (R504). -/
def Half.holdReset (now : Nat) (h : Half) : Half :=
  let h := h.coreReset now
  h.modGlb fun g => { g with dev := .booting }

/-- The ANA domain starts afresh: registers, histories, sequences (R121, R437); the set of the present band applies from
the next T0 (R123), with source 0x4A as at any change of the set (DESIGN CHOICE, log entry 121). -/
def Half.anaReset (h : Half) : Half :=
  let z := Half.init h.id
  { h.resetRegs (· == .ana) with an := { z.an with
      calNext := if h.tm.band = 0 then none else some h.tm.band, fallback := (vget h.ck.pll 5).fallback } }

/-- The LANE domain starts afresh: every lane is DOWN and every position ABSENT, so that HR_NODEp reads its reset value
(R437, R530). -/
def Half.laneReset (h : Half) : Half :=
  let h := h.resetRegs (· == .lane)
  { h with cells := h.cells.map fun x => { Cell.init with fenced := x.fenced, byCmd := x.byCmd }
           rings := Vector.replicate 12 default, svc := h.svc.map fun x => { x with wait := [], busy := 0 },
           th := { h.th with lanesTx := 0, lanesRx := 0 } }

/-- The NET domain starts afresh; a CAN controller that was taken off the bus stays off until the half is reset (R413), and
PTP_FREQ reads its reset value. -/
def Half.netReset (h : Half) : Half :=
  let z := Half.init h.id
  { h.resetRegs (· == .net) with
    net := z.net, can := vmapi z.can fun i c => { c with dead := (vget h.can i).dead, served := (vget h.can i).served }
    tb := { h.tb with y := F32.zero } }

/-- The loss of the LULL domain (R443): everything but what is programmed once returns to reset. -/
def Half.lullReset (now : Nat) (h : Half) : Half :=
  let z := Half.init h.id
  { z with
    tm := { z.tm with otpFw := h.tm.otpFw, otpCfg := h.tm.otpCfg, ckey := h.tm.ckey }
    th := { z.th with roleLine := h.th.roleLine, roleLow := h.th.roleLow }
    pk := { z.pk with low := h.pk.low, rstAt := now }
    -- the balls themselves: the other rails and VSEL stay as the board gives them
    pw := { z.pw with rails := vset h.pw.rails 0 false, sel := h.pw.sel }
    out := h.out }

/-- The lanes of this half lose their transmit clock or power: each lane goes DOWN (R66). -/
def lanesDown (cx : Cx) (h : Half) : Half := (List.range 12).foldl (fun h k => toDown cx k h) h

end Sys2Proof.Machine
end

