-- ==== Sys2Proof/Machine/Power.lean ====
section
/-! DEFINITION. Supplies, the sequencer, power requests and the core supply controller
(14_power.md, R433 to R456). -/
namespace Sys2Proof.Machine

def Half.modPw (h : Half) (f : Pw → Pw) : Half := { h with pw := f h.pw }

/-! ### Rails and domains -/

def railIx : RailId → Nat
  | .lull => 0 | .core => 1 | .lane => 2 | .laneh => 3 | .ddq => 4 | .ana => 5 | .io => 6

def railGood (h : Half) (r : RailId) : Bool := vget h.pw.rails (railIx r)

/-- The rails of domain d are good; the CORE rail is made by the ramp itself (DEDUCED, log entry 101). -/
def railsOk (h : Half) (d : Nat) : Bool :=
  match d with
  | 0 => true
  | 1 => railGood h .core && railGood h .ddq
  | 2 => railGood h .lane && railGood h .laneh
  | 3 => railGood h .core
  | _ => railGood h .ana

def domUp (h : Half) (d : Nat) : Bool := h.pw.up.getLsbD d

def setBit {w : Nat} (v : BitVec w) (i : Nat) (b : Bool) : BitVec w :=
  if b then v ||| BitVec.ofNat w (2 ^ i) else v &&& ~~~(BitVec.ofNat w (2 ^ i))

/-- REFIN_10M is to be the reference: chosen, and present (R360). -/
def wantsRefin (cx : Cx) (h : Half) : Bool := h.getF RG.CLK_CFG 0 0 == 1 && Config.refin10m cx.me cx.now

/-- The chosen reference is good (R360). -/
def refGood (cx : Cx) (h : Half) : Bool := wantsRefin cx h || h.ck.xtalOk

/-- The PLLs of domain d. -/
def pllsOf (d : Nat) : List Nat :=
  match d with
  | 0 => [0, 2]
  | 1 => [4]
  | 2 => [1]
  | 3 => [3]
  | _ => [5]

def setPlls (on : Bool) (d : Nat) (h : Half) : Half :=
  (pllsOf d).foldl (fun h p => h.modCk fun c => { c with
    pll := vmod c.pll p fun x => { x with on := on, locked := false, fallback := on, found := false } }) h

/-- The domains that are up, and the one that ramps. -/
def powered (now : Nat) (h : Half) : BitVec 5 :=
  match h.pw.ramp with
  | some (d, t) => if d < 5 ∧ t ≤ now then setBit h.pw.up d true else h.pw.up
  | none => h.pw.up

/-- A protective power-down may start: a domain is powered, and none is under way already (R442). -/
def mayProtect (now : Nat) (h : Half) : Bool := powered now h != 0 && !h.protecting

/-- The core supply controller drives VCORE_x: not once it has set both phases to the off or the low level, or CORE is
the domain that goes down (R441, R449, R451, R454). -/
def coreDriven (now : Nat) (h : Half) : Bool :=
  (powered now h).getLsbD 0 && h.pw.downs.head? != some 0 &&
  !((h.pw.whole.map fun c => decide (5 ≤ c ∧ c ≤ 7)).getD false)

/-- A ramp of domain d starts at t; the CORE ramp raises the setpoint from 0. -/
def startRamp (d t : Nat) (h : Half) : Half :=
  let h := h.modPw fun p => { p with ramp := some (d, t), wait := none }
  if d = 0 then h.modPw fun p => { p with set := 0, setAt := t, target := vTarget h, slewing := false, pend := false }
  else h

/-- The next domain is ramped at t once its rails are good (R436). -/
def wantRamp (d t : Nat) (h : Half) : Half :=
  if railsOk h d then startRamp d t h else h.modPw fun p => { p with wait := some (d, t) }

/-! ### Powering up (R436) -/

def canPowerUp (cx : Cx) (h : Half) : Bool :=
  railGood h .lull && refGood cx h && h.pw.hold.isNone && h.pw.ramp.isNone && h.pw.downs.isEmpty &&
  !h.pw.seqUp && h.pw.up == 0 && h.glb.dev == .lullOnly && !h.tm.cmp

def powerUpF (cx : Cx) (h : Half) : Half :=
  gate (canPowerUp cx h) (fun h =>
    let h := h.modCk fun c => { c with ref10 := wantsRefin cx h, refOk := true }
    startRamp 0 cx.now (h.modPw fun p => { p with
      seqUp := true, whole := none, again := false, heldUp := 0, heldDown := 0 })) h

/-- Domains named by a mask, in the order given. -/
def namedIn (order : List Nat) (m : BitVec 5) : List Nat := order.filter fun d => m.getLsbD d

def upOrder : List Nat := [1, 2, 3, 4]
def downOrder : List Nat := [4, 3, 2, 1]

/-- A whole-half power-down starts (R441, R442): PWR_LAST, the list of domains, and no held request. -/
def startWhole (now cause : Nat) (h : Half) : Half :=
  h.modPw fun p => { p with
    whole := some cause, wholeWait := none, orderly := none, cause := cause, causeDom := 0, seqUp := false,
    wait := none, ramp := none, heldUp := 0, heldDown := 0,
    downs := namedIn [4, 3, 2, 1, 0] (powered now h), downAt := now + tUs 50 }

/-- An orderly whole-half power-down waits for the running ramp; one that comes while the half goes down already adds
nothing (DEDUCED, log entry 101). -/
def wholeDown (now cause : Nat) (h : Half) : Half :=
  if h.pw.whole.isSome then h.modPw fun p => { p with orderly := none }
  else if h.pw.ramp.isSome then h.modPw fun p => { p with wholeWait := some cause, heldUp := 0, heldDown := 0 }
  else startWhole now cause h

/-- Held requests are taken as a ramp ends (R440); one that the ramp has met is done. -/
def takeHeld (now : Nat) (h : Half) : Half :=
  match h.pw.wholeWait with
  | some c => startWhole now c h
  | none =>
    let dn := h.pw.heldDown &&& h.pw.up
    let on := h.pw.heldUp &&& ~~~h.pw.up
    if dn ≠ 0 then
      (h.modPw fun p => { p with downs := namedIn downOrder dn, downAt := now + tUs 50, heldDown := 0 }).put
        RG.PWR_REQ_STAT (if h.pw.heldUp = 0 then 1 else 2)
    else match namedIn upOrder on with
      | d :: _ =>
        let h := h.modPw fun p => { p with heldUp := setBit on d false, heldDown := 0 }
        wantRamp d (max now (h.pw.rampedAt + tUs 20)) (h.put RG.PWR_REQ_STAT (if h.pw.heldUp = 0 then 1 else 2))
      | [] =>
        if h.pw.heldUp = 0 ∧ h.pw.heldDown = 0 then h
        else (h.modPw fun p => { p with heldUp := 0, heldDown := 0 }).put RG.PWR_REQ_STAT 1

/-- Core reset is released: the half enters BOOTING (R29, R436). -/
def releaseCore (bootsel : Bool) (now : Nat) (h : Half) : Half :=
  let h := h.modPw fun p => { p with seqUp := false, ramp := none }
  let up := h.pw
  let h := { h.coreReset now with pw := up }
  { h.modGlb (fun g => { g with dev := .booting }) with tm := { h.tm with bootSel := bootsel, tempAt := now } }

/-- A ramp ends: a lane group, a domain, the next ramp, core reset release, or a held request. -/
def rampEndF (bootsel : Bool) (cx : Cx) (h : Half) : Half :=
  match h.pw.ramp with
  | none => h
  | some (d, t) =>
    if d = 5 then gate (decide (t ≤ cx.now)) (releaseCore bootsel cx.now) h else
    let h := if d = 2 then h.modPw fun p => { p with
        grp := (List.range 4).foldl (fun g i => setBit g i (decide (t + tUs (50 * (i + 1)) ≤ cx.now))) p.grp } else h
    if cx.now < t + tUs 200 then h else
    let h := h.modPw fun p => { p with ramp := none, rampedAt := t + tUs 200, up := setBit p.up d true }
    let h := setPlls true d h
    let h := if d = 0 then h.modPw fun p => { p with set := p.target, setAt := cx.now } else h
    let h := match d with
      | 2 => h.laneReset
      | 3 => h.netReset
      | 4 => h.anaReset
      | _ => h
    if h.pw.wholeWait.isSome then takeHeld cx.now h
    else if h.pw.seqUp then
      if d < 4 then wantRamp (d + 1) (t + tUs 220) h
      else if cx.now < t + tUs 220 then h.modPw fun p => { p with ramp := some (5, t + tUs 220) }
      else releaseCore bootsel cx.now h
    else takeHeld cx.now h

/-- The thresholds of a rail in µV, rising and falling (R435). -/
def railLevels (now : Nat) (h : Half) (r : RailId) : Nat × Nat :=
  let pct (uv : Nat) : Nat × Nat := (uv * 92 / 100, uv * 88 / 100)
  match r with
  | .core => (250 * setNow now h - 50000, 250 * setNow now h - 100000)
  | .lane => pct 900000
  | .laneh => pct 1200000
  | .ddq => pct 1100000
  | _ => pct 1800000

/-- A rail has been above its rising threshold for 20 µs and becomes good (R435); a ramp that waits for it starts. -/
def railPowerGoodF (r : RailId) (uv since : Nat) (cx : Cx) (h : Half) : Half :=
  gate (decide ((railLevels cx.now h r).1 < uv ∧ since + tUs 20 ≤ cx.now)) (fun h =>
  let h := h.modPw fun p => { p with rails := vset p.rails (railIx r) true }
  match h.pw.wait with
  | some (d, t) => if railsOk h d then startRamp d (max t cx.now) h else h
  | none => h) h

/-- A domain's rails are not good within 10 ms of the instant they were needed (R436, source 0xBF). -/
def pwrSeqF (cx : Cx) (h : Half) : Half :=
  match h.pw.wait with
  | none => h
  | some (d, t) =>
    if cx.now < t + tMs 10 then h
    else if h.pw.seqUp then
      (startWhole cx.now 11 h).modPw fun p => { p with causeDom := d, report := some 11 }
    else raise cx 0xBF d 0 (takeHeld cx.now (h.modPw fun p => { p with wait := none }))

/-- 100 ms after a failed power-up the sequencer tries again. -/
def sequencerRetryF (cx : Cx) (h : Half) : Half :=
  gate (h.pw.again && (h.pw.hold.map fun t => decide (t ≤ cx.now)).getD false)
    (fun h => powerUpF cx (h.modPw fun p => { p with hold := none, again := false })) h

/-- The hold of HALF_DOWN ends; the RC oscillator counts it within 2 % (R442). -/
def holdExpiryF (cx : Cx) (h : Half) : Half :=
  gate (!h.pw.again && (h.pw.hold.map fun t => decide (t ≤ cx.now + tSec h.pw.holdS / 50)).getD false)
    (fun h => powerUpF cx (h.modPw fun p => { p with hold := none })) h

/-! ### Powering down (R437, R441 to R444) -/

/-- A domain's switches open: its state is that of reset. -/
def domainOffNow (cx : Cx) (d : Nat) (h : Half) : Half :=
  let h := match d with
    | 4 => h.anaReset
    | 3 => h.netReset
    | 2 => (lanesDown cx h).laneReset
    | 1 => { h with me := { h.me with ring := [], opened := none, frozen := [], gap := true } }
    | _ => h
  let h := setPlls false d h
  h.modPw fun p => { p with up := setBit p.up d false, grp := if d = 2 then 0 else p.grp }

/-- One domain goes down; after CORE the half is in LULL_ONLY (R29). -/
def domainDownF (cx : Cx) (h : Half) : Half :=
  match h.pw.downs with
  | [] => h
  | d :: rest =>
    if cx.now < h.pw.downAt then h else
    let h := domainOffNow cx d h
    let h := h.modPw fun p => { p with downs := rest, downAt := cx.now + tUs 50 }
    let h := if d = 0 then
        let pw := h.pw
        let off := { pw with set := 0, slewing := false, target := 0, phases := 3, localSense := false, delta := 0 }
        let h := { h.coreReset cx.now with pw := off }
        match pw.whole with
        | some 3 => h.modPw fun p => { p with hold := some (cx.now + tSec p.holdS) }
        | some 11 => h.modPw fun p => { p with hold := some (cx.now + tMs 100), again := true }
        | _ => h
      else h
    if rest.isEmpty && h.pw.whole.isNone then takeHeld cx.now h
    else if rest.isEmpty then h.modPw fun p => { p with whole := none } else h

/-- A protective power-down (R442): ROLE line and pads at once, then the domains; the role follows R31's table. (DEDUCED, log
entry 101.) -/
def protective (cx : Cx) (cause : Nat) (h : Half) : Half :=
  let h := (startWhole cx.now cause h).modPw fun p => { p with report := some cause }
  h.modGlb fun g => { g with own := false }

def protectivePowerDownF (cause : Nat) (cx : Cx) (h : Half) : Half :=
  gate (decide (5 ≤ cause ∧ cause ≤ 10) && mayProtect cx.now h) (protective cx cause) h

/-- A ramp that has not begun waits again for a rail that is lost (R436). -/
def unstart (now : Nat) (h : Half) : Half :=
  match h.pw.ramp with
  | some (d, t) => if d < 5 ∧ now < t ∧ railsOk h d = false then h.modPw fun p => { p with ramp := none, wait := some (d, t) } else h
  | none => h

/-- A rail has been below its falling threshold for 2 µs (R435): R444 for the rails of one domain, R442 for the others. -/
def pwrRailUvF (r : RailId) (uv since : Nat) (cx : Cx) (h : Half) : Half :=
  gate (decide (uv < (railLevels cx.now h r).2 ∧ since + tUs 2 ≤ cx.now)) (fun h =>
  let h := unstart cx.now (h.modPw fun p => { p with rails := vset p.rails (railIx r) false })
  let off (d : Nat) (h : Half) : Half :=
    if domUp h d then raise cx 0xBA d 0 (domainOffNow cx d h) else h
  match r with
  | .lane => off 2 h
  | .laneh => off 2 h
  | .ddq => off 1 h
  | .ana => off 4 h
  | .core => gate (coreDriven cx.now h && mayProtect cx.now h) (protective cx 8) h
  | .io => gate (mayProtect cx.now h) (protective cx 9) h
  | .lull => gate (mayProtect cx.now h) (protective cx 10) h) h

/-- An orderly power-down that was called for begins (R442, R483): for a thermal shutdown of an ACTIVE half
once both stages are TRIPPED or STOPPED. -/
def halfPowerDownF (cx : Cx) (h : Half) : Half :=
  match h.pw.orderly with
  | none => h
  | some (c, t) =>
    let st := fun (x : Stage) => x == .tripped || x == .stopped
    gate (decide (t ≤ cx.now) && (c != 1 || h.glb.role != .active || (st h.glb.mv && st h.glb.lv)))
      (wholeDown cx.now c) h

/-! ### Requests (R439, R440) -/

def inServiceRole (r : Role) : Bool := r == .syncing || r == .standby || r == .active

/-- The domain mask of PWR_REQ as domain numbers. -/
def reqMask (v : Word) : BitVec 5 := BitVec.ofNat 5 (2 * wbits v 7 4)

def busy (h : Half) : Bool := h.pw.ramp.isSome || !h.pw.downs.isEmpty || h.pw.wait.isSome

def pwrResult (n : Nat) (h : Half) : Half := h.put RG.PWR_REQ_STAT (BitVec.ofNat 32 n)

def reqUp (now : Nat) (v : Word) (h : Half) : Half :=
  let m := reqMask v
  let ok := m &&& ~~~h.pw.up
  if !domUp h 0 || m = 0 || ok = 0 then pwrResult 4 h
  else
    let h := h.modPw fun p => { p with heldUp := p.heldUp ||| ok, heldDown := p.heldDown &&& ~~~ok }
    if busy h then pwrResult 2 h else takeHeld now h

def reqDown (now : Nat) (v : Word) (h : Half) : Half :=
  let m := reqMask v
  if m = 0 then pwrResult 4 h
  else if inServiceRole h.glb.role then pwrResult 3 h
  else
    -- a domain that is up, ramps or waits for its rails
    let on := m &&& ((h.pw.ramp.or h.pw.wait).elim h.pw.up fun x => if x.1 < 5 then setBit h.pw.up x.1 true else h.pw.up)
    let h := h.modPw fun p => { p with heldDown := p.heldDown ||| on, heldUp := p.heldUp &&& ~~~m }
    if busy h then pwrResult 2 h else if on = 0 then pwrResult 1 h else takeHeld now h

def reqHalfDown (now : Nat) (v : Word) (h : Half) : Half :=
  if inServiceRole h.glb.role then pwrResult 3 h
  else
    let h := h.modPw fun p => { p with holdS := max 1 (wbits v 31 16) }
    wholeDown now 3 (pwrResult 1 h)

/-- A write to PWR_REQ. -/
def pwrReq (now : Nat) (v : Word) (h : Half) : Half :=
  match wbits v 1 0 with
  | 1 => reqUp now v h
  | 2 => reqDown now v h
  | 3 => reqHalfDown now v h
  | _ => pwrResult 4 h

def domainPowerUpF (v : Word) (cx : Cx) (h : Half) : Half :=
  gate (h.glb.dev != .lullOnly && wbits v 1 0 == 1) (pwrReq cx.now v) h
def domainPowerDownF (v : Word) (cx : Cx) (h : Half) : Half :=
  gate (h.glb.dev != .lullOnly && wbits v 1 0 == 2) (pwrReq cx.now v) h
def halfDownF (v : Word) (cx : Cx) (h : Half) : Half :=
  gate (h.glb.dev != .lullOnly && wbits v 1 0 == 3) (pwrReq cx.now v) h

/-! ### Core supply controller (R445 to R454) -/

def vselChangeF (sel : BitVec 2) (cx : Cx) (h : Half) : Half :=
  retarget cx.now (h.modPw fun p => { p with sel := sel.toNat })

/-- A write to PWR_VCFG: the slew so far runs at the old rate. -/
def pwrVcfgF (v : Word) (cx : Cx) (h : Half) : Half :=
  gate (h.glb.dev != .lullOnly) (fun h =>
    let s := setNow cx.now h
    let h := h.modPw fun p => { p with set := s, setAt := cx.now }
    retarget cx.now (h.put RG.PWR_VCFG (v &&& 0xF07#32))) h

def pwrVtabF (i : Nat) (v : Word) (cx : Cx) (h : Half) : Half :=
  gate (h.glb.dev != .lullOnly) (fun h =>
    let mv := wbits v 9 0
    if 650 ≤ mv ∧ mv ≤ 900 ∧ mv % 5 = 0 then
      let h := h.put (RG.PWR_VTAB i) (BitVec.ofNat 32 mv)
      if vIndex h = i then retarget cx.now h else h
    else h.setW1c cx.now RG.PWR_STATUS 20) h

def slewEndF (cx : Cx) (h : Half) : Half :=
  gate (h.pw.slewing && decide (setNow cx.now h = h.pw.target))
    (fun h => h.modPw fun p => { p with slewing := false, set := p.target, setAt := cx.now }) h

/-- PWR_ILIM.FAST and SLOW in A: values below 5 are treated as 5. -/
def limFast (h : Half) : Nat := max 5 (h.getF RG.PWR_ILIM 7 0)
def limSlow (h : Half) : Nat := max 5 (h.getF RG.PWR_ILIM 23 16)

/-- An IMON reading of so many µV is a current above `amps`: V_IMON = OFS + GAIN × I, GAIN in units of 0.1 mV/A (R445). -/
def imonAbove (h : Half) (uv amps : Nat) : Bool :=
  decide (1000 * h.getF RG.PWR_IMONCAL 9 0 + 100 * max 1 (h.getF RG.PWR_IMONCAL 23 16) * amps < uv)

/-- An IMON reading that is no current: a fault flag, or the line is lost (R445). -/
def imonBad (uv : Nat) : Bool := decide (1200000 < uv ∨ uv < 150000)

/-- A switching cycle limited by PWR_ILIM.FAST: the sixteenth in succession is a short circuit (R449). -/
def fastLimitF (p imon : Nat) (cx : Cx) (h : Half) : Half :=
  gate (h.pw.phases.getLsbD p && coreDriven cx.now h && !imonBad imon && imonAbove h imon (limFast h)) (fun h =>
    let h := h.count RG.PWR_CNT_FASTLIM
    let run := if cx.now ≤ vget h.pw.fastAt p + 100000 then vget h.pw.fastRun p + 1 else 1
    let h := h.modPw fun w => { w with fastRun := vset w.fastRun p run, fastAt := vset w.fastAt p cx.now }
    gate (decide (16 ≤ run) && mayProtect cx.now h)
      (fun h => protective cx 5 (h.modPw fun w => { w with fastRun := vset w.fastRun p 0 })) h) h

/-- The slow limit, half of it with one phase running, has been exceeded for 1 ms by an average in 0.1 A (R450). -/
def vcoreOverloadF (current since : Nat) (cx : Cx) (h : Half) : Half :=
  gate (domUp h 0 && coreDriven cx.now h && h.pw.orderly.map (·.1) != some 4 && decide (since + tMs 1 ≤ cx.now) &&
      decide ((if h.pw.phases = 3 then 10 else 5) * limSlow h < current)) (fun h =>
    (raise cx 0xBB 0 0 h).modPw fun p => { p with orderly := some (4, cx.now + tUs 200) }) h

/-- A phase's IMON has been no current for 2 µs (R451). -/
def vcorePhaseF (p imon since : Nat) (cx : Cx) (h : Half) : Half :=
  gate (h.pw.phases.getLsbD p && coreDriven cx.now h && imonBad imon && decide (since + tUs 2 ≤ cx.now)) (fun h =>
    let h := h.modPw fun w => { w with phases := setBit w.phases p false }
    let h := gate (domUp h 0) (raise cx 0xBC p 0) h
    gate (h.pw.phases == 0 && mayProtect cx.now h) (protective cx 7) h) h

/-- The remote sense has been lost for 2 µs (R452). -/
def vcoreSenseF (mean : Int) (vr vl since : Nat) (cx : Cx) (h : Half) : Half :=
  gate (!h.pw.localSense && decide (since + tUs 2 ≤ cx.now) &&
      decide (60000 < max (vr - vl) (vl - vr) ∨ vr < 300000 ∨ 1000000 < vr)) (fun h =>
    -- before the CORE ramp there was no difference to hold
    let held := domUp h 0 || (h.pw.ramp.map fun x => decide (x.1 = 0 ∧ x.2 < since)).getD false
    let h := h.modPw fun p => { p with localSense := true, delta := if held then clampI mean 0 40 else 0 }
    if domUp h 0 then raise cx 0xBD 0 0 h else h) h

/-- The regulated sense has been more than 100 mV above the setpoint for 1 µs (R454). -/
def overvoltageF (uv since : Nat) (cx : Cx) (h : Half) : Half :=
  gate (coreDriven cx.now h && mayProtect cx.now h && decide (250 * setNow cx.now h + 100000 < uv ∧ since + tUs 1 ≤ cx.now))
    (protective cx 6) h

/-! ### The LULL domain (R359, R443, R503) -/

/-- VLULL becomes good: PREFER is latched, the crystal is started. -/
def lullPowerUpF (prefer : HalfId) (cx : Cx) (h : Half) : Half :=
  let h := h.modPw fun p => { p with rails := vset p.rails 0 true }
  (h.modGlb fun g => { g with preferred := decide (prefer = cx.me) }).modCk fun c => { c with
    xtalStart := cx.now, xtalOk := false }

/-- VLULL falls below 1.2 V. -/
def lullResetF (cx : Cx) (h : Half) : Half := h.lullReset cx.now

end Sys2Proof.Machine
end

