-- ==== Sys2Proof/Machine/Analog.lean ====
section
/-! DEFINITION. Analog channels: filter, calibration, the words of a cycle, cross-half plausibility and
disputes, and the internal sequences (04_analog_sampling.md, R109 to R137). -/
namespace Sys2Proof.Machine

/-! ### Filter and calibration (R110, R112, R122) -/

def anaUp (h : Half) : Bool := domUp h 4

/-- Moving sums of length d over a list. -/
def movSum (d : Nat) (l : List Int) : List Int :=
  (List.range (l.length + 1 - d)).map fun i => ((l.drop i).take d).foldl (· + ·) 0

/-- The n-fold box of length d. -/
def sinc (d : Nat) : Nat → List Int → List Int
  | 0, l => l
  | n + 1, l => sinc d n (movSum d l)

/-- Bits that a word needs: N·(D − 1) + 1, and 2·D more with the notch. -/
def windowLen (n d : Nat) (notch : Bool) : Nat := n * (d - 1) + 1 + (if notch then 2 * d else 0)

def clamp24 (v : Int) : Int := clampI v (-0x800000) 0x7FFFFF

/-- The raw word over a full window, newest bit first; a is NOTCH_A, LSB 2⁻²². -/
def filterWord (n d : Nat) (notch : Bool) (a : Int) (bs : List Bool) : Int :=
  let x := (bs.take (windowLen n d notch)).map fun b => if b then (1 : Int) else -1
  let s := sinc d n x
  let at_ (i : Nat) := s.getD i 0
  clamp24 (if notch then
    divAway (((at_ 0 + at_ (2 * d)) * 2 ^ 22 - a * at_ d) * 2 ^ 23) ((2 ^ 23 - a).toNat * d ^ n)
  else divAway (at_ 0 * 2 ^ 23) (d ^ n))

/-- y = clamp((w − OFF) × GAIN / 2²²). -/
def calWord (off : Int) (gain : Nat) (w : Int) : Int := clamp24 (divAway ((w - off) * gain) (2 ^ 22))

def anEn (h : Half) (n : Nat) : Bool := h.bf (BK.AN_CH_EN n)

/-- The channel's window in bits. -/
def chWindow (h : Half) (n : Nat) : Nat :=
  windowLen (h.bn (BK.AN_CH_ORDER n)) (h.bn (BK.AN_CH_DECIM n)) (h.bf (BK.AN_CH_NOTCH_EN n))

/-- R121: too few valid bits, or the ADC clock on its RC fallback. -/
def unsettledNow (h : Half) (n : Nat) : Bool :=
  decide ((h.anCh n).hist.length < chWindow h n) || h.an.fallback

/-- The raw word of a channel now; while the history is too short its value is free (DESIGN CHOICE, log entry 15). -/
def rawNow (now : Nat) (h : Half) (n : Nat) : Int :=
  if (h.anCh n).hist.length < chWindow h n then (Config.freeRaw h.id n now).toInt
  else filterWord (h.bn (BK.AN_CH_ORDER n)) (h.bn (BK.AN_CH_DECIM n)) (h.bf (BK.AN_CH_NOTCH_EN n))
    (h.bi (BK.AN_CH_NOTCH_A n)) (h.anCh n).hist

def calNow (me : HalfId) (h : Half) (n : Nat) (w : Int) : Int :=
  let s := h.an.calSet
  calWord (h.bi (BK.AN_CAL_OFF me.bit s n)) (h.bn (BK.AN_CAL_GAIN me.bit s n)) w

/-- The longest run of equal bits at the front part of a list. -/
def runs : List Bool → Nat → Bool → Nat → Nat
  | [], r, _, m => max r m
  | b :: l, r, p, m => if b = p then runs l (r + 1) p m else runs l 1 b (max r m)

def hasRun64 (l : List Bool) : Bool := decide (64 ≤ runs l 0 false 0)

/-- New modulator bits of a channel, oldest first, and its overload detector (R112, R128). -/
def takeBits (now n : Nat) (bits : List Bool) (ovl : Bool) (h : Half) : Half :=
  h.modAnCh n fun c =>
    let hist := (bits.reverse ++ c.hist).take 2048
    let stuck := hasRun64 (hist.take (bits.length + 63))
    { c with
      hist := hist, stuckNow := c.stuckNow || stuck, ovlNow := c.ovlNow || ovl
      stuckAt := if stuck then some now else c.stuckAt, ovlAt := if ovl then some now else c.ovlAt }

def in10 (now : Nat) (o : Option Nat) : Bool := (o.map fun t => decide (now ≤ t + tMs 10)).getD false

/-- The self-check conditions that this half's converter of a channel showed in the cycle (R128): STUCK, OVERLOAD, REF,
LOOPBACK, FALLBACK; a REF or LOOPBACK result out of tolerance shows for 10 ms (R135). -/
def shownBits (now : Nat) (h : Half) (n : Nat) : BitVec 5 :=
  let c := h.anCh n
  BitVec.ofNat 5 (b2n c.stuckNow + 2 * b2n c.ovlNow + 4 * b2n (in10 now h.an.refBad) + 8 * b2n (in10 now h.an.loopBad) +
    16 * b2n h.an.fallback)

/-- The quality field of AN_WORDS (DEDUCED, log entry 16): OVERRANGE, UNSETTLED, then the five self-check bits. -/
def msgQual (c : AnCh) : BitVec 7 := BitVec.ofNat 7 (b2n c.ovr + 2 * b2n c.unsettled + 4 * c.cyc.toNat)

def ovr (w : Int) : Bool := decide (0x666666 < w.natAbs)

/-- How long this cycle lasts on the timebase: Tc, and x more in the cycle of a step (R377). -/
def cycleLen (h : Half) : Nat := h.tc + h.tb.rephase.getD 0

/-- t of this cycle's T0, in ns. -/
def t0Ns (h : Half) : Nat := (h.glb.nextT0 - cycleLen h) / 2 ^ 32

/-- The word history of R395 with the word of the instant t. -/
def addWord (t : Nat) (y : Int) (l : List (Nat × Int)) : List (Nat × Int) :=
  (t, y) :: l.takeWhile fun x => decide (t < x.1 + 3000000)

/-- The latest calibrated word. -/
def lastWord (h : Half) (n : Nat) : Int := ((h.anCh n).last.headD (0, 0)).2

/-- The word of one channel at T0 (R116, R122), with the conditions shown in the cycle; 0x44 on a new overrange. -/
def formWord (cx : Cx) (n : Nat) (h : Half) : Half :=
  if !anEn h n then h else
  let w := rawNow cx.now h n
  let o := ovr w
  let was := (h.anCh n).ovr
  let un := unsettledNow h n
  let y := calNow cx.me h n w
  let s := shownBits cx.now h n
  let h := h.modAnCh n fun c => { c with
    raw := w, word := y, last := addWord (t0Ns h) y c.last, unsettled := un, ovr := o, cyc := s, stuckNow := false, ovlNow := false }
  let h := { h with me := { h.me with words := h.me.words ++ [(n, BitVec.ofNat 32 (enc 24 y + 2 ^ 24 * (h.anCh n).qual))] } }
  raiseIf (o && !was) cx 0x44 (argCh n cx.me) 0 h

/-- The words of the cycle are formed at T0 and sent at T0 + 60 ns (R118). -/
def anWordsSendCore (bits : List (List Bool)) (ovl : BitVec 24) (cx : Cx) (h : Half) : Half :=
  gate (anaUp h && h.glb.dev.inService && h.glb.started && !h.an.wordsSent && h.glb.sealedAt.isNone &&
      decide (h.glb.t0 + tNs 60 ≤ cx.now)) (fun h =>
    let h := (List.range 24).foldl (fun h n =>
      if anEn h n then formWord cx n (takeBits cx.now n (bits.getD n []) (ovl.getLsbD n) h)
      else h.modAnCh n fun c => { c with ovr := false }) h
    let h := h.modAn fun a => { a with wordsSent := true }
    if h.glb.role = .standby ∨ h.glb.role = .active then
      tellOther cx (.anWords ((List.range 24).map fun n =>
        (BitVec.ofInt 24 (if anEn h n then (h.anCh n).word else 0), if anEn h n then msgQual (h.anCh n) else 0))) h
    else h) h

/-- The instant of a channel's next further word, in ns after T0 (R119). -/
def nextSub (h : Half) (n : Nat) : Nat := ((h.anCh n).sub + 1) * h.bn (BK.AN_CH_DECIM n) * 50

/-- The next further word falls before the next T0 (R119). -/
def subFits (h : Half) (n : Nat) : Bool := decide (nextSub h n * 2 ^ 32 < cycleLen h)

/-- A further word between two T0 (R119): recorder and sampled values. -/
def anWordCore (n : Nat) (bits : List Bool) (ovl : Bool) (cx : Cx) (h : Half) : Half :=
  gate (anaUp h && h.glb.dev.inService && h.glb.started && anEn h n &&
      subFits h n && decide (h.glb.t0 + tNs (nextSub h n) ≤ cx.now)) (fun h =>
    let t := t0Ns h + nextSub h n
    let h := takeBits cx.now n bits ovl h
    let w := rawNow cx.now h n
    let y := calNow cx.me h n w
    let h := h.modAnCh n fun c => { c with last := addWord t y c.last, sub := c.sub + 1 }
    { h with me := { h.me with words := h.me.words ++ [(n, BitVec.ofNat 32 (enc 24 y + 2 ^ 24 * (h.anCh n).qual))] } }) h

/-- AN_WORDS of the other half (R118, R146). -/
def anWordsF (ws : List (BitVec 24 × BitVec 7)) (_cx : Cx) (h : Half) : Half :=
  if !(h.glb.dev.inService && h.glb.started) then h
  else if h.glb.sealedAt.isSome then h.count RG.TH_CNT_LATE
  else (List.range 24).foldl (fun h n =>
    let x := ws.getD n (0, 0)
    h.modAnCh n fun c => { c with oword := some x.1.toInt, oqual := x.2.toNat }) h

/-! ### The words of the snapshot (R125) and plausibility (R126 to R131) -/

def fenced (_me : HalfId) (h : Half) (own : Bool) (n : Nat) : Bool :=
  if own then h.sd.adcFence.getLsbD n else h.sd.oadcFence.getLsbD n

/-- The half whose word is chosen: 0 none, 1 own, 2 other; and whether SUBST is set (R125). -/
def choose (me : HalfId) (h : Half) (n : Nat) : Nat × Bool :=
  let arrived := (h.anCh n).oword.isSome
  let ownF := fenced me h true n
  let oF := fenced me h false n
  if h.glb.role = .active then
    if !ownF then (1, false)
    else if h.th.oRole = .standby ∧ !oF ∧ arrived then (2, true) else (0, false)
  else if h.th.oRole = .active ∧ arrived then
    if !oF then (2, false)
    else if h.glb.role = .standby ∧ !ownF then (1, true) else (0, false)
  else if !ownF then (1, true) else (0, false)

/-- The halves' words are compared in this cycle (R126). -/
def compared (me : HalfId) (h : Half) (n : Nat) : Bool :=
  let ok := fun (r : Role) => r == .standby || r == .active
  ok h.glb.role && ok h.th.oRole && anEn h n && h.bn (BK.AN_CH_TOL n) != 0 && !fenced me h true n &&
  !fenced me h false n && (h.anCh n).oword.isSome

def oUnsettled (c : AnCh) : Bool := c.oqual / 2 % 2 == 1
def oOver (c : AnCh) : Bool := c.oqual % 2 == 1

def tolOf (h : Half) (n : Nat) : Nat := 256 * h.bn (BK.AN_CH_TOL n)

def mismatch (h : Half) (n : Nat) : Bool :=
  let c := h.anCh n
  decide (tolOf h n < (c.word - c.oword.getD 0).natAbs) || (c.unsettled != oUnsettled c)

/-- R126: count mismatches; 0x40 when the count goes from 0 to 1. -/
def countMismatch (cx : Cx) (n : Nat) (h : Half) : Half :=
  if compared cx.me h n && mismatch h n then
    let first := (h.anCh n).pcount == 0
    let h := h.modAnCh n fun c => { c with
      pcount := min 255 (c.pcount + 1), dispute := if c.dispute = 2 then 2 else 1 }
    raiseIf first cx 0x40 (argChan n) 0 h
  else h.modAnCh n fun c => { c with pcount := 0, dispute := 0 }

/-- The word and QUAL that the snapshot takes (R111, R125). -/
def sealWord (me : HalfId) (n : Nat) (h : Half) : Half :=
  if !anEn h n then h.modAnCh n fun c => { c with snapWord := 0, qual := 0x20 } else
  let c := h.anCh n
  let (who, subst) := choose me h n
  let disp := b2n (c.pcount != 0 || c.dispute == 2) * 8
  let (w, q) :=
    if who = 1 then (c.word, b2n c.ovr + 2 * b2n c.unsettled + 4 * b2n subst + disp)
    else if who = 2 then (c.oword.getD 0, b2n (oOver c) + 2 * b2n (oUnsettled c) + 4 * b2n subst + disp)
    else (0, 16 + disp)
  h.modAnCh n fun c => { c with snapWord := w, qual := q }

/-- The conditions that one converter showed in this cycle and the other did not; one that both show counts for neither.
REF and LOOPBACK count while they show. -/
def noteSelf (now : Nat) (c : AnCh) : AnCh :=
  let o : BitVec 5 := BitVec.ofNat 5 (c.oqual / 4)
  let upd (v : Vector (Option Nat) 5) (m : BitVec 5) : Vector (Option Nat) 5 :=
    vmapi v fun i t => if m.getLsbD i then some now else if i = 2 ∨ i = 3 then none else t
  { c with selfAt := upd c.selfAt (c.cyc &&& ~~~o), oSelfAt := upd c.oSelfAt (o &&& ~~~c.cyc) }

/-- The half that the self-check names (R128 step 1): 1 own, 2 other. -/
def selfCheckNames (now : Nat) (h : Half) (n : Nat) : Option Nat :=
  let m := (h.anCh n).selfAt.toList.any (in10 now)
  let t := (h.anCh n).oSelfAt.toList.any (in10 now)
  if m && !t then some 1 else if t && !m then some 2 else none

/-- The zero-sum witness (R128 step 2), from the snapshot's words. -/
def witnessNames (h : Half) (n : Nat) : Option Nat :=
  let t := h.bn (BK.AN_CH_TRIO n)
  let others := (List.range 24).filter fun m => m != n && anEn h m && h.bn (BK.AN_CH_TRIO m) == t
  if 7 < t ∨ others.length ≠ 2 then none
  else if others.any (fun m => (h.anCh m).qual / 8 % 4 != 0) then none
  else
    let w := -(others.foldl (fun s m => s + (h.anCh m).snapWord) 0)
    let pass := fun (y : Int) => decide ((y - w).natAbs ≤ tolOf h n)
    let c := h.anCh n
    let a := pass c.word
    let b := pass (c.oword.getD 0)
    if !a && b then some 1 else if a && !b then some 2 else none

/-- The outcome of a dispute in one half (R127 to R129): the half whose converter lost, if any. PCOUNT and DISPUTE of a
settled channel read 0 at once (DESIGN CHOICE, log entry 117). -/
def takeOutcome (cx : Cx) (n : Nat) (lost : Option HalfId) (h : Half) : Half :=
  match lost with
  | some i => raise cx 0x41 (argCh n i) 0 (h.modAnCh n fun c => { c with pcount := 0, dispute := 0 })
  | none =>
    let first := (h.anCh n).dispute != 2
    raiseIf first cx 0x42 (argChan n) 0 (h.modAnCh n fun c => { c with dispute := 2 })

/-- A half beside an ACTIVE one takes that half's outcome and settles nothing itself (R127). -/
def followsDispute (h : Half) : Bool := h.glb.role != .active && h.th.oRole == .active

/-- Settle the dispute of a channel (R128, R129); the other half is told of the outcome. -/
def settleDispute (cx : Cx) (n : Nat) (h : Half) : Half :=
  if followsDispute h then h else
  let lost := ((selfCheckNames cx.now h n).or (witnessNames h n)).map fun w => if w = 1 then cx.me else cx.me.other
  let h := if h.glb.role = .active ∧ (lost.isSome ∨ (h.anCh n).dispute ≠ 2) then
      tellOther cx (.relay (.dispute (BitVec.ofNat 32 h.glb.cycle) ⟨n % 24, Nat.mod_lt _ (by decide)⟩ lost)) h else h
  takeOutcome cx n lost h

/-- The outcome of a dispute comes from the ACTIVE half: it acts at this half's SEAL of the cycle, or at once after it. -/
def relayDispute (cx : Cx) (cycle n : Nat) (lost : Option HalfId) (h : Half) : Half :=
  if !followsDispute h then h
  else if cycle = h.glb.cycle % 2 ^ 32 ∧ h.glb.sealedAt.isNone then
    h.modAn fun a => { a with verdicts := a.verdicts ++ [(cycle, n, lost)] }
  else takeOutcome cx n lost h

/-- Both converters are out (R131). -/
def channelLost (me : HalfId) (h : Half) (n : Nat) : Bool :=
  let ok := fun (r : Role) => r == .standby || r == .active
  anEn h n && !(!fenced me h true n && ok h.glb.role) && !(!fenced me h false n && ok h.th.oRole)

/-- What sampled values need of a channel's cycle (R396). -/
def noteQual (me : HalfId) (n : Nat) (h : Half) : Half :=
  if !anEn h n then h else
  let t := t0Ns h
  h.modAnCh n fun c =>
    let q := c.qual % 2 + c.qual / 8 % 2 * 2 + b2n c.unsettled * 4 + b2n (fenced me h true n) * 8
    { c with qhist := (t, q) :: c.qhist.takeWhile fun x => decide (t < x.1 + 3000000) }

/-- The analog part of SEAL (R125 to R131; source 0x45 where the condition begins, DEDUCED, log entry 106). Disputes that this cycle opens are settled by
DISPUTE_OPEN. -/
def analogSeal (cx : Cx) (h : Half) : Half :=
  let ns := List.range 24
  let h := ns.foldl (fun h n => countMismatch cx n h) h
  let h := ns.foldl (fun h n => sealWord cx.me n h) h
  let h := ns.foldl (fun h n => h.modAnCh n (noteSelf cx.now)) h
  let h := ns.foldl (fun h n => if (h.anCh n).dispute = 2 then settleDispute cx n h else h) h
  let h := ns.foldl (fun h n =>
    let lost := channelLost cx.me h n
    let was := (h.anCh n).lost
    raiseIf (lost && !was) cx 0x43 (argChan n) 0 (h.modAnCh n fun c => { c with lost := lost })) h
  let h := ns.foldl (fun h n =>
    let c := h.anCh n
    let a := if c.oword.isNone then c.alone else anEn h n && decide (c.cyc.toNat % 4 ≠ 0) && c.oqual / 4 % 4 == 0
    raiseIf (a && !c.alone) cx 0x45 (argCh n cx.me) 0 (h.modAnCh n fun c => { c with alone := a })) h
  let h := ns.foldl (fun h n => noteQual cx.me n h) h
  let h := h.an.verdicts.foldl (fun h v => takeOutcome cx v.2.1 v.2.2 h) (h.modAn fun a => { a with verdicts := [] })
  h.modAn fun a => { a with otherOk := a.ch.toList.any fun c => c.oword.isSome }

/-- A channel's count has reached PCNT at this SEAL (R127). -/
def disputeOpenF (n : Nat) (cx : Cx) (h : Half) : Half :=
  let c := h.anCh n
  gate (h.glb.sealedAt.isSome && c.dispute == 1 && decide (h.bn (BK.AN_CH_PCNT n) ≤ c.pcount)) (settleDispute cx n) h

/-- The analog part of T0: the other half's words and the sent mark belong to the past cycle; a band change
takes effect (R123). The source's argument is channel 29, whose result the band follows (DESIGN CHOICE, log entry 80). -/
def analogT0 (cx : Cx) (h : Half) : Half :=
  let h := h.modAn fun a => { a with
    wordsSent := false
    ch := a.ch.map (fun c => { c with oword := none, oqual := 0, cyc := 0, sub := 0 }) }
  match h.an.calNext with
  | some s => raise cx 0x4A (argChan 29) 0 (h.modAn fun a => { a with calSet := s, calNext := none })
  | none => h

/-- Histories start empty on enabling, on a change of the ADC clock and at power-up (R121). -/
def emptyHistory (p : Nat → Bool) (h : Half) : Half :=
  h.modAn fun a => { a with ch := vmapi a.ch (fun n c => if p n then { c with hist := [] } else c) }

/-! ### Internal sequences (R132 to R137) -/

/-- Channels of a sequence, as offsets from 24. -/
def seqChannels (h : Half) : List Nat := (List.range 8).filter fun i => h.getF RG.AN_SEQ_CFG 7 0 / 2 ^ i % 2 == 1

def convTime : Nat := tNs 10600

def startSeq (now : Nat) (h : Half) : Half :=
  h.modAn fun a => { a with seq := seqChannels h, seqEnd := now + convTime, dropRaised := false }

/-- The pending sequence is to start in the clock after the one in which the running sequence completes (R133). -/
def startPending (now : Nat) (h : Half) : Half := h.modAn fun a => { a with seqFrom := some ((now / 80 + 1) * 80) }

/-- Where the clock of a pending sequence's start has come it runs, with the MASK of that clock (R133, R134). -/
def seqClock (now : Nat) (h : Half) : Half :=
  match h.an.seqFrom with
  | some t =>
    if t ≤ now then h.modAn fun a => { a with
      seqFrom := none, pend := none, dropRaised := false, seq := seqChannels h, seqEnd := t + convTime } else h
  | none => h

/-- A trigger from source s (0 timer, 1 register, 2 thermal, 3 housekeeping). The argument of 0x48 is the channel that
converts (DESIGN CHOICE, log entry 80). -/
def seqTrigger (cx : Cx) (s : Nat) (h : Half) : Half :=
  if !anaUp h then h else
  let h := seqClock cx.now h
  if h.an.pend.isNone then
    if !h.an.seq.isEmpty then h.modAn fun a => { a with pend := some s }
    else if (h.an.seqDone.map fun t => sameClock t cx.now).getD false then
      startPending cx.now (h.modAn fun a => { a with pend := some s })
    else startSeq cx.now h
  else
    let first := !h.an.dropRaised
    let h := h.modAn fun a => { a with dropped := min 0xFFFF (a.dropped + 1), dropRaised := true }
    raiseIf first cx 0x48 (argChan (24 + h.an.seq.headD 0)) 0 h

def anSeqTrigF (v : Word) (cx : Cx) (h : Half) : Half := gate (anaUp h && wbit v 0) (seqTrigger cx 1) h

def anSeqPeriodF (cx : Cx) (h : Half) : Half :=
  let p := h.getF RG.AN_SEQ_CFG 23 8
  gate (anaUp h && p != 0 && decide (h.an.lastPeriod + tMs p ≤ cx.now))
    (fun h => seqTrigger cx 0 (h.modAn fun a => { a with lastPeriod := cx.now })) h

def housekeepingSequenceRequestF (cx : Cx) (h : Half) : Half := seqTrigger cx 3 h

/-- The checks of one result (R135); v in mV, or 0.1 °C for channel 29. -/
def checkResult (cx : Cx) (i : Nat) (v : Int) (h : Half) : Half :=
  let h := h.modAn fun a => { a with ints := vset a.ints i (some v) }
  if i = 0 then
    let f := Config.refFactory cx.me
    if 200 * (v - f).natAbs ≤ f.natAbs then h
    else raise cx 0x46 (argChan 24) 0 (h.modAn fun a => { a with refBad := some cx.now })
  else if i ≤ 4 then
    let lim := 0x48320 + 4 * i
    raiseIf (decide (v < (h.getF lim 15 0 : Int) ∨ (h.getF lim 31 16 : Int) < v)) cx 0x47 (argChan (24 + i)) 0 h
  else if i = 6 then
    if 200 * (v - 320).natAbs ≤ 320 then h
    else raise cx 0x49 (argChan 30) 0 (h.modAn fun a => { a with loopBad := some cx.now })
  else h

/-- The next conversion, or the pending sequence (R133). -/
def nextConversion (cx : Cx) (h : Half) : Half :=
  let h := h.modAn fun a => { a with seq := a.seq.tail, seqEnd := cx.now + convTime }
  if !h.an.seq.isEmpty then h else
  let h := h.modAn fun a => { a with seqDone := some cx.now }
  if h.an.pend.isSome then startPending cx.now h else h

end Sys2Proof.Machine
end

