-- ==== Sys2Proof/Machine/Ox.lean ====
section
/-! DEFINITION. Ox: estimation, balancing, modulation and cell states (05_ox_pipeline.md, R138 to R181, R534). -/
namespace Sys2Proof.Machine

/-! ### Numbers (R138, R139, R143, R198) -/

/-- c4: the binary32 value nearest 4 × 10⁻⁹. -/
def c4 : F32 := F32.ofRat 4 1000000000

/-- Tc in seconds. -/
def tcF (h : Half) : F32 := F32.mul (F32.ofNat (h.bn BK.CYCLE_TC_TICKS)) c4

/-- Elements of a list whose index is i modulo 16, summed in order from +0.0. -/
def laneSum (l : List F32) (i : Nat) : F32 :=
  (l.zipIdx.filter fun x => x.2 % 16 == i).foldl (fun s x => F32.add s x.1) F32.zero

def pairUp : List F32 → List F32
  | a :: b :: l => F32.add a b :: pairUp l
  | l => l

/-- The sum over the contexts of a cluster, in the order of R139. -/
def csum (l : List F32) : F32 :=
  (pairUp (pairUp (pairUp (pairUp ((List.range 16).map (laneSum l)))))).headD F32.zero

/-- A signed 16-bit field times 2^e. -/
def s16 (n : Nat) (e : Int) : F32 := let i := sgn 16 n; F32.round (i < 0) i.natAbs e false

def vC (x : Cell) : F32 := F32.round false x.rcd.vdc (-4) false
def iC (x : Cell) : F32 := s16 x.rcd.icell (-6)
def iDab (x : Cell) : F32 := s16 x.rcd.idab (-6)
def iSw (x : Cell) : F32 := s16 x.rcd.isw (-6)
/-- The cell temperature in °C. -/
def tempC (x : Cell) : F32 := F32.ofInt ((x.rcd.temp : Int) - 50)
def flag (x : Cell) (i : Nat) : Bool := x.rcd.flags / 2 ^ i % 2 == 1
def miss (x : Cell) : Bool := x.rcd.src == 2

def cxs : List Nat := List.range 144

def clusterOf (h : Half) (c : Nat) : Nat := h.bn (BK.OX_CLUSTER c)

/-- The contexts of cluster x that satisfy p, in ascending order. -/
def inCluster (h : Half) (x : Nat) (p : Cell → Bool) : List Nat :=
  cxs.filter fun c => clusterOf h c == x && p (h.cell c)

/-- The command applied at this T0 is CHARGE or RUN (R153). -/
def insT0 (x : Cell) : Bool := x.cmd.mode == 2 || x.cmd.mode == 3

def sumOver (h : Half) (cs : List Nat) (f : Cell → F32) : F32 := csum (cs.map fun c => f (h.cell c))

/-- The latched sink s (R22); a value that is not finite counts as 0 (R141). -/
def sinkRaw (h : Half) (s : Nat) : F32 := WMap.get zeroW h.lt.bus s
def sink (h : Half) (s : Nat) : F32 := if F32.finite (sinkRaw h s) then sinkRaw h s else F32.zero

/-- x_n of R143, from the snapshot's word. -/
def ainX (h : Half) (n : Nat) : F32 := F32.mul (F32.ofInt (h.anCh n).snapWord) (h.bw (BK.OX_AIN_SCALE n))

/-- The LV bus channel gives no value (R155). -/
def vlvSubst (h : Half) : Bool :=
  let n := h.bn BK.OX_LVBUS_CH
  n == 31 || (h.anCh n).qual / 16 % 4 != 0

/-! ### Taking the slots (R77, R150) -/

/-- The half seals with no STANDBY half (R152, R314). -/
def isSingle (h : Half) : Bool := h.glb.role == .active && (h.th.oRole != .standby || h.th.oLeft)

def findSlot (l : List SlotRec) (p : Nat) : Option SlotRec := l.find? fun s => s.pos.val + 1 == p

/-- The slot of a position for the snapshot, its SRC, and whether an item that R150 requires is lacking. -/
def pick (h : Half) (k p : Nat) : Option SlotRec × Nat × Bool :=
  let r := h.ring k
  let own := findSlot r.slots p
  let oth := findSlot r.oslots p
  if h.glb.role = .active then
    match own with
    | some s => (some s, 0, false)
    | none => if isSingle h then (none, 2, false) else (oth, if oth.isSome then 1 else 2, false)
  else
    match r.omap with
    | none => (own.or oth, if (own.or oth).isSome then 0 else 2, true)
    | some m =>
      let s := own.or oth
      if m.getLsbD (p - 1) then (s, if s.isSome then 0 else 2, s.isNone)
      else (s, if s.isSome then 1 else 2, false)

def recOf (s : SlotRec) (src : Nat) : CellRec :=
  ⟨s.vdc.toNat, s.icell.toNat, s.idab.toNat, s.isw.toNat, s.temp.toNat, s.flags.toNat, s.nstate.toNat, src, 0⟩

/-- A flag bit and the source of its transition (R107). -/
def flagSources : List (Nat × Nat) :=
  [(0, 0x20), (1, 0x21), (2, 0x22), (3, 0x23), (5, 0x24), (6, 0x25), (7, 0x26), (8, 0x27)]

/-- The NSTATE agrees with a MODE (source 0x2C); BYPASS and SELF_BYPASS both do with MODE BYPASS (DEDUCED, log entry 80). -/
def agrees (ns m : Nat) : Bool :=
  if m = 0 then ns == 2 else if m = 1 then ns == 1 || ns == 5 else if m = 2 then ns == 3 else ns == 4

/-- The sources of FLAGS bits that have gone from 0 to 1 (R107). -/
def raiseFlags (cx : Cx) (c old new : Nat) (h : Half) : Half :=
  flagSources.foldl (fun h f => raiseIf (new / 2 ^ f.1 % 2 == 1 && old / 2 ^ f.1 % 2 == 0) cx f.2 c 0 h) h

/-- The record of a bound context, with what it raises (R77, R107, source 0x2C). SLOT_MISSING names the context in ARG
(R261) and its ring and position in VALUE (R108: DESIGN CHOICE, log entry 80). -/
def takeCell (cx : Cx) (c : Nat) (h : Half) : Half :=
  let x := h.cell c
  if !x.bound || x.st == .absent then
    h.modCell c fun x => { x with rcd := { (default : CellRec) with src := 3 }, missing := false }
  else
    match pick h x.ring x.pos with
    | (none, _, _) =>
      let h := h.modCell c fun x => { x with
        rcd := { x.rcd with src := 2, miss := min 3 (x.rcd.miss + 1) }, missing := true, mismCnt := 0 }
      let h := h.modNode x.ring x.pos fun n => { n with missRun := n.missRun + 1, sideUpSince := none }
      raise cx 0x18 c (BitVec.ofNat 32 (argPos x.ring x.pos)) h
    | (some s, src, _) =>
      let r := recOf s src
      let old := x.rcd.flags
      let h := h.modNode x.ring x.pos fun n => { n with
        missRun := 0, noReply := false, unlock := s.flags.getLsbD 8
        sideUpSince := if s.flags.getLsbD 11 then n.sideUpSince.or (some cx.now) else none }
      let bad := x.st.slot && !agrees r.nstate x.cmd.mode
      let n := if bad then min 4 (x.mismCnt + 1) else 0
      let h := h.modCell c fun x => { x with rcd := r, missing := false, mismCnt := n }
      let h := raiseFlags cx c old r.flags h
      raiseIf (n == 3) cx 0x2C c 0 h

/-- FAULTED and back (R95). -/
def faultCell (c : Nat) (h : Half) : Half :=
  let x := h.cell c
  if !x.bound || x.st == .absent || miss x then h
  else if x.rcd.nstate = 6 then
    if x.st = .faulted then h
    else (leaveRank c h).modCell c fun x => { x with st := .faulted, queued := false, standby := false }
  else if x.st = .faulted ∧ (x.rcd.nstate = 1 ∨ x.rcd.nstate = 5) ∧ x.cmd.mode = 1 then
    h.modCell c fun x => { x with st := .bypassed, aft := true }
  else h

/-- A position being bound whose first slot is accepted enters ENUMERATED (R77, R95, R184). Half that does not reach it, and
so sends it no TIME_SET, takes the slot that came by the Tether (DEDUCED, log entry 124). -/
def bindPos (cx : Cx) (k p : Nat) (h : Half) : Half :=
  if !(bindingSent h k p || ((h.node k p).binding.isSome && !reaches cx.me (h.ring k) p)) then h else
  match ctxOf h k p, pick h k p with
  | some c, (some s, src, _) =>
    let n := h.node k p
    let h := h.modCell c fun x => { Cell.init with
      bound := true, ring := k, pos := p, st := .enumerated, serial := n.serial, fenced := x.fenced, byCmd := x.byCmd
      rcd := recOf s src, cmd := x.cmd, gone := x.gone }
    let h := h.modNode k p fun n => { n with
      binding := none, known := true, missRun := 0, noReply := false
      cfgDue := if h.glb.role = .active then [1, 2, 3, 4, 5, 6] else [] }
    raiseFlags cx c 0 s.flags.toNat (raise cx 0x15 (argPos k p) (BitVec.ofNat 32 c) h)
  | _, _ => h

/-- ENUMERATED to BLOCKED: the delays are STORED, or MEASURED with every position reported, and R19 permits; where it
did not, not before the MV stage is next in STOPPED. -/
def admitCell (c : Nat) (h : Half) : Half :=
  let x := h.cell c
  let r := h.ring x.ring
  let ok := r.src == 2 || (r.src == 3 && (List.range r.n).all fun i => !(vget r.reps i).vals.isEmpty)
  let barred := x.barred && h.glb.mv != .stopped
  if x.st ≠ .enumerated ∨ !ok then h
  else if barred ∨ !slotAllowed h then h.modCell c fun x => { x with barred := true }
  else h.modCell c fun x => { x with st := .blocked, barred := false }

/-- A half serves a position: its ring carries trains (R50, R267), and it reaches the position. -/
def servesPos (me : HalfId) (h : Half) (r : Ring) (k p : Nat) : Bool := ringServes h k && reaches me r p

/-- Source 0x1C on the first cycle in which neither half reaches a bound context (R104, R269), and not again while that lasts
(DESIGN CHOICE, log entry 121). -/
def unreached (cx : Cx) (c : Nat) (h : Half) : Half :=
  let x := h.cell c
  let oOk := h.th.oRole == .active || h.th.oRole == .standby
  let u := x.bound && x.st != .absent && !servesPos cx.me h (h.ring x.ring) x.ring x.pos &&
    !(oOk && servesPos cx.me.other cx.other (h.ring x.ring) x.ring x.pos)
  raiseIf (u && !x.unre) cx 0x1C (argPos x.ring x.pos) (BitVec.ofNat 32 c)
    (h.modCell c fun x => { x with unre := u })

/-- CFG_WRITE to a node with the parameters due (R183, R184). -/
def cfgData (h : Half) (i : Nat) : Block :=
  let v := if i = 1 then h.bn BK.OX_CAR_INC else if i = 2 then h.bn BK.OX_DAB_FSW else if i = 3 then h.bn BK.OX_SS_RATE
    else if i = 4 then h.bn BK.OX_VDC_TRIP else if i = 5 then h.bn BK.OX_TEMP_TRIP else h.bn BK.OX_MV_DT
  fld i 0 ||| fld v 32

/-- DEDUCED, log entry 82. -/
def sendCfg (cx : Cx) (h : Half) : Half :=
  if h.glb.role ≠ .active then h else
  (List.range 12).foldl (fun h k => (List.range 16).foldl (fun h i =>
    let d := (h.node k (i + 1)).cfgDue
    if d.isEmpty then h else
    (sendActive cx ⟨k % 12, Nat.mod_lt _ (by decide)⟩ (i + 1) 0x04 (d.map (cfgData h)) h).modNode k (i + 1)
      fun n => { n with cfgDue := [] }) h) h

/-! ### The header and the fence set (R147, R149) -/

/-- Requests for cell fences at least 200 ns old enter the fence set. -/
def matureCells (now : Nat) (h : Half) : Half := matureFences h.id now isCtxUnit h

def fenceWord (h : Half) (i : Nat) : Word :=
  (List.range 32).foldl (fun w j => if (h.cell (32 * i + j)).fenced then w ||| BitVec.ofNat 32 (2 ^ j) else w) 0

def heldNow (h : Half) : List Held := h.hi.held.filter fun x => x.cycle == h.glb.cycle

/-- The throttle level in force (R199): 0 for a half that is neither ACTIVE nor told. -/
def ownThrottle (h : Half) : Nat := h.tm.level

def mkHdr (h : Half) : SnapHdr where
  cycle := BitVec.ofNat 64 h.glb.cycle
  commits := h.glb.commits
  w3 := BitVec.ofNat 32 (b2n h.glb.wrapped + 2 * b2n (isSingle h) + 256 * h.glb.mv.code + 4096 * h.glb.lv.code)
  nCmd := BitVec.ofNat 32 (heldNow h).length
  fences := (List.range 5).map (fenceWord h)
  throttle := max (ownThrottle h) (if h.th.oRole = .standby then h.th.oThrottle else 0)

def snapshotSendF (cx : Cx) (h : Half) : Half :=
  gate (h.glb.role == .active && h.glb.dev.inService && h.glb.started && h.glb.sealedAt.isNone && !h.th.hdrSent &&
      decide (h.glb.t0 + tNs (h.glb.ts - 40) ≤ cx.now)) (fun h =>
    let h := matureCells cx.now h
    let d := mkHdr h
    let h := h.modTh fun t => { t with hdr := some d, hdrSent := true }
    if hasFollower h then
      h.tether cx.now (.snap (.header d.cycle d.commits d.w3 d.nCmd d.fences d.throttle))
    else h) h

/-! ### ESTIMATE (R153 to R159) -/

/-- A context as ESTIMATE sees it: one that has become ABSENT since the last command counts with its last record (R153). -/
def estCell (x : Cell) : Cell :=
  match x.gone with
  | some (r, i) => { x with rcd := r, id := i }
  | none => x

/-- i_x of a cluster, and the deviation counts of its contributors (R154). -/
def estIx (h : Half) (x : Nat) : Half :=
  let con := inCluster h x fun c => insT0 c && c.gone.isNone && !miss c && !flag c 3
  let ix := if con.isEmpty then vget h.ox.ix x else F32.div (sumOver h con iC) (F32.ofNat con.length)
  let h := h.modOx fun o => { o with ix := vset o.ix x ix }
  let tol := h.bw BK.OX_ISENSE_TOL
  let cnt := h.bn BK.OX_ISENSE_CNT
  (inCluster h x fun _ => true).foldl (fun h c =>
    let y := h.cell c
    let dev := con.contains c && decide (3 ≤ con.length) && F32.gt (F32.abs (F32.sub (iC y) ix)) tol
    h.modCell c fun y => { y with isenseCnt := if dev then min (cnt + 1) (y.isenseCnt + 1) else 0 }) h

def convC (i : CellId) : Bool :=
  F32.le i.pC 0x39800000#32 && F32.le F32.half i.thC && F32.le i.thC F32.two
def convL (i : CellId) : Bool :=
  F32.le i.pL 0x39800000#32 && F32.le F32.half i.thL && F32.le i.thL F32.two

/-- Ĉ_c and L̂_c (R158). -/
def capHat (h : Half) (c : Nat) : F32 :=
  let i := (estCell (h.cell c)).id
  if convC i then F32.div (h.bw (BK.OX_C_NOM c)) i.thC else h.bw (BK.OX_C_NOM c)
def indHat (h : Half) (c : Nat) : F32 :=
  let i := (h.cell c).id
  if convL i then F32.div (h.bw (BK.OX_L_NOM c)) i.thL else h.bw (BK.OX_L_NOM c)

/-- Energy of a cell: ((0.5 × Ĉ) × v) × v. (DEDUCED, log entry 79.) -/
def energy (h : Half) (c : Nat) : F32 :=
  let v := vC (estCell (h.cell c))
  F32.mul (F32.mul (F32.mul F32.half (capHat h c)) v) v

/-- The quantities of R155 for one cluster. -/
def estCluster (h : Half) (x : Nat) : Half :=
  let ins := inCluster h x insT0
  let n := ins.length
  let vs := sumOver h ins fun c => vC (estCell c)
  let hold := inCluster h x fun c => c.bound && c.st.slot
  h.modOx fun o => { o with
    nins := vset o.nins x n, vsum := vset o.vsum x vs
    vmean := vset o.vmean x (if n = 0 then F32.zero else F32.div vs (F32.ofNat n))
    w := vset o.w x (csum (ins.map (energy h)))
    pdab := vset o.pdab x (sumOver h hold fun c => F32.mul h.ox.vlv (iDab c)) }

/-- One recursive least-squares update (R156): θ and p, none where a result is not finite. -/
def rls (lambda θ p x y : F32) : Option (F32 × F32) :=
  let k := F32.div (F32.mul p x) (F32.add lambda (F32.mul (F32.mul x p) x))
  let θ' := F32.add θ (F32.mul k (F32.sub y (F32.mul x θ)))
  let p' := F32.div (F32.sub p (F32.mul (F32.mul k x) p)) lambda
  if F32.finite θ' && F32.finite p' then some (θ', F32.clamp p' 0x35800000#32 F32.one) else none

/-- The identification of one context (R156, R157), before this cycle's command. -/
def identify (cx : Cx) (c : Nat) (h : Half) : Half :=
  let x := h.cell c
  let run (s : CellState) : Bool := s == .charging || s == .active
  let ok := x.bound && run x.st && run x.prevSt && !miss x && !x.prevMiss &&
    !flag x 0 && !flag x 1 && !flag x 2 && !flag x 3 && !flag x 5
  if !ok then h else
  let m := F32.ofQ15 x.cmd.mref
  let d := F32.ofQ15 x.cmd.dab
  let lam := h.bw BK.OX_ID_LAMBDA
  let v := vC x
  let ic := F32.sub (F32.mul (F32.mul m F32.half) (F32.add (iC x) x.prevI))
    (F32.div (F32.mul h.ox.vlv (iDab x)) (F32.mul (h.bw BK.OX_DAB_ETA) x.prevV))
  let xc := F32.div (F32.mul (tcF h) ic) (h.bw (BK.OX_C_NOM c))
  let xl := F32.div
    (F32.neg (F32.add v (F32.mul (F32.mul (h.bw BK.OX_DAB_N) h.ox.vlv) (F32.sub (F32.mul F32.two d) F32.one))))
    (F32.mul (F32.mul 0x40800000#32 (F32.ofNat (h.bn BK.OX_DAB_FSW))) (h.bw (BK.OX_L_NOM c)))
  let doC := F32.ge (F32.abs xc) (h.bw BK.OX_ID_XMIN)
  let doL := F32.ge d 0x3D4CCCCD#32 && F32.le d (h.bw BK.OX_DAB_DMAX)
  let rc := if doC then some (rls lam x.id.thC x.id.pC xc (F32.sub v x.prevV)) else none
  let rl := if doL then some (rls lam x.id.thL x.id.pL xl (iSw x)) else none
  let put (o : Option (Option (F32 × F32))) (θ p : F32) : F32 × F32 := match o with
    | none => (θ, p)
    | some none => (F32.one, F32.one)
    | some (some q) => q
  let h := h.modCell c fun x =>
    let qc := put rc x.id.thC x.id.pC
    let ql := put rl x.id.thL x.id.pL
    { x with id := { x.id with thC := qc.1, pC := qc.2, thL := ql.1, pL := ql.2 } }
  raiseIf (rc == some none || rl == some none) cx 0x82 c 0 h

/-- What R159 follows: since when a drift holds, and when it may be raised again. -/
def ageing (now c : Nat) (h : Half) : Half :=
  let i := (h.cell c).id
  let cn := h.bw (BK.OX_C_NOM c)
  let cd := h.bw BK.OX_CAP_DRIFT
  let ch := capHat h c
  let low := convC i && F32.lt ch (F32.mul (F32.sub F32.one cd) cn)
  let cRel := F32.gt ch (F32.mul (F32.sub F32.one (F32.div cd F32.two)) cn)
  let ld := h.bw BK.OX_IND_DRIFT
  let dev := F32.abs (F32.sub (F32.div (indHat h c) (h.bw (BK.OX_L_NOM c))) F32.one)
  let far := convL i && F32.gt dev ld
  let lRel := F32.lt dev (F32.div ld F32.two)
  h.modCell c fun x => { x with id := { x.id with
    capSince := if low then x.id.capSince.or (some now) else none, capLatch := x.id.capLatch && !cRel
    indSince := if far then x.id.indSince.or (some now) else none, indLatch := x.id.indLatch && !lRel } }

def estimate (cx : Cx) (h : Half) : Half :=
  let sub := vlvSubst h
  let v := if sub then h.bw BK.OX_VLV_NOM else ainX h (h.bn BK.OX_LVBUS_CH)
  let was := h.ox.substRun
  let h := h.modOx fun o => { o with vlv := v, substRun := sub, vlvHist := (v :: o.vlvHist).take 17 }
  let h := raiseIf (sub && !was) cx 0x83 0 0 h
  -- R234 counts the snapshots with the LV bus charged
  let h := h.modLv fun l => { l with
    preCount := if h.glb.lv = .precharge ∧ F32.ge v (h.bw BK.LV_PRE_VMIN) then min 16 (l.preCount + 1) else 0 }
  let h := [0, 1, 2].foldl estIx h
  let h := [0, 1, 2].foldl estCluster h
  let h := cxs.foldl (fun h c => identify cx c h) h
  let h := { h with cells := h.cells.map (fun x => { x with prevSt := x.st }) }
  cxs.foldl (fun h c => if (h.cell c).bound then ageing cx.now c h else h) h

/-! ### BALANCE (R160 to R164) -/

def dot3 (a b : Vector F32 3) : F32 :=
  F32.add (F32.add (F32.mul (vget a 0) (vget b 0)) (F32.mul (vget a 1) (vget b 1))) (F32.mul (vget a 2) (vget b 2))
def sum3 (a : Vector F32 3) : F32 := F32.add (F32.add (vget a 0) (vget a 1)) (vget a 2)
def f3 : F32 := 0x40400000#32

def deltaP (h : Half) : Vector F32 3 :=
  if h.ox.nins.toList.any (· == 0) then Vector.replicate 3 F32.zero
  else
    let mean := F32.div (sum3 h.ox.w) f3
    h.ox.w.map fun w => F32.mul (F32.neg (h.bw BK.OX_K_CB)) (F32.sub w mean)

/-- The three cluster voltage sinks. -/
def vcl (h : Half) : Vector F32 3 := Vector.ofFn fun i => sink h (1536 + i.val)

/-- v0 of R161 or v_z of R162. -/
def vcmOf (h : Half) : F32 :=
  let dp := deltaP h
  let lim := h.bw BK.OX_VCM_MAX
  let inj (u : Vector F32 3) (floor : F32) : F32 :=
    let den := dot3 u u
    if F32.lt den (F32.mul floor floor) then F32.zero else F32.div (F32.mul F32.two (dot3 dp u)) den
  let v := if h.bn BK.OX_CONN = 0 then inj h.ox.ix (h.bw BK.OX_I_MIN)
    else F32.mul (h.bw BK.OX_K_Z) (F32.sub (inj (vcl h) (h.bw BK.OX_V_MIN)) (F32.div (sum3 h.ox.ix) f3))
  F32.clamp v (F32.neg lim) lim

/-- Δm_c of the inserted cells of a cluster (R163); every other cell's is 0. A value that is not finite is noted, also where
the clamp hides it (R141). -/
def balCluster (h : Half) (x : Nat) : Half :=
  let ins := inCluster h x insT0
  let ix := vget h.ox.ix x
  let vb := vget h.ox.vmean x
  let vs := vget h.ox.vsum x
  let mx := h.bw BK.OX_DM_MAX
  let v (c : Nat) : F32 := vC (estCell (h.cell c))
  let dev (c : Nat) : F32 := F32.div (F32.sub (v c) vb) vb
  let unclamped (c : Nat) : F32 := if F32.lt (F32.abs ix) (h.bw BK.OX_I_DB) then F32.zero
    else F32.mul (F32.mul (F32.neg (h.bw BK.OX_K_IC)) (dev c)) (F32.sgn ix)
  let raw (c : Nat) : F32 :=
    let d := unclamped c
    if F32.isNan d then d else F32.clamp d (F32.neg mx) mx
  let s := F32.div (csum (ins.map fun c => F32.mul (raw c) (v c))) vs
  ins.foldl (fun h' c => h'.modCell c fun y => { y with
    dm := F32.sub (raw c) s
    nonfin := !F32.finite (dev c) || !F32.finite (unclamped c) || !F32.finite (F32.sub (raw c) s) }) h

def balance (h : Half) : Half :=
  let v := vcmOf h
  let h := h.modOx fun o => { o with vcm := v }
  let h := { h with cells := h.cells.map (fun x => { x with
    dm := F32.zero, nonfin := false, mprev := F32.ofQ15 x.cmd.mref, dab0 := x.cmd.dab }) }
  [0, 1, 2].foldl balCluster h

/-- The intermediate results and d_c of R164; `pin` is false for a standby cell. -/
structure Dab where
  d : F32
  p : F32
  clamped : Bool
  finite : Bool

def dabLaw (h : Half) (c : Nat) (pin : Bool) : Dab :=
  let x := h.cell c
  let v := vC x
  let vref := sink h 1539
  let ix := vget h.ox.ix (clusterOf h c)
  let ix := if clusterOf h c < 3 then ix else F32.zero
  let p0 := if pin then F32.mul (F32.mul x.mprev ix) v else F32.zero
  let p1 := F32.add p0 (F32.div
    (F32.mul (F32.mul F32.half (capHat h c)) (F32.sub (F32.mul v v) (F32.mul vref vref)))
    (F32.mul (F32.ofNat (h.bn BK.OX_K_DB)) (tcF h)))
  let pm := h.bw BK.OX_P_CELL_MAX
  let ss := h.bn BK.OX_SS_CYCLES
  let lim := if x.st = .charging then
      F32.div (F32.mul pm (F32.ofNat (min (h.glb.cycle - x.startCyc) ss))) (F32.ofNat ss)
    else pm
  let p := F32.clamp p1 (F32.neg lim) lim
  let v2 := F32.mul (h.bw BK.OX_DAB_N) h.ox.vlv
  let dmax := h.bw BK.OX_DAB_DMAX
  if F32.lt v (h.bw BK.OX_V_DAB_MIN) || F32.lt v2 (h.bw BK.OX_V_DAB_MIN) then
    ⟨F32.zero, p, false, F32.finite p1 && F32.finite v2⟩
  else
    let u0 := F32.div
      (F32.mul (F32.mul (F32.mul F32.two (F32.ofNat (h.bn BK.OX_DAB_FSW))) (indHat h c)) (F32.abs p)) (F32.mul v v2)
    let um := F32.mul dmax (F32.sub F32.one dmax)
    let u := F32.min u0 um
    let d := F32.div
      (F32.mul (F32.sgn p) (F32.sub F32.one (F32.sqrt (F32.sub F32.one (F32.mul 0x40800000#32 u))))) F32.two
    ⟨d, p, F32.gt u0 um, [p1, v2, F32.mul v v2, u0, d].all F32.finite⟩

/-! ### Cell states (R172, R174 to R177) -/

/-- Neither fenced in this snapshot nor bypassed by command. -/
def avail (h : Half) (c : Nat) : Bool :=
  let x := h.cell c
  !(x.fenced && !x.late) && !x.byCmd

/-- An available BYPASSED cell of a STANDBY cluster, not bypassed after FAULTED (R169). -/
def isStandby (h : Half) (c : Nat) : Bool :=
  let x := h.cell c
  x.bound && x.st == .bypassed && !x.aft && avail h c && decide (clusterOf h c < 3) &&
    h.bn (BK.OX_RED_MODE (clusterOf h c)) == 1

def ramping (h : Half) : Bool := h.ox.rampFrom.isSome

/-- Fenced cells and cells bypassed by command go to BYPASSED. -/
def bypassCells (h : Half) : Half :=
  cxs.foldl (fun h c =>
    let s := (h.cell c).st
    if !avail h c && (s == .blocked || s == .charging || s == .active) then
      (leaveRank c h).modCell c fun x => { x with st := .bypassed, aft := false, queued := false }
    else if !avail h c then h.modCell c fun x => { x with queued := false }
    else h) h

/-- A cell that holds a slot and may be started. -/
def startable (h : Half) (c : Nat) : Bool :=
  let s := (h.cell c).st
  (h.cell c).bound && avail h c && decide (clusterOf h c < 3) &&
    (s == .blocked || s == .bypassed || s == .charging || s == .active)

/-- The cells of cluster x that are to run at INSERT (R176). -/
def toRun (h : Half) (x : Nat) : List Nat :=
  let cs := cxs.filter fun c => clusterOf h c == x && startable h c
  if h.bn (BK.OX_RED_MODE x) = 1 then cs.take (h.bn (BK.OX_NRUN x)) else cs

/-- PASSIVE has ended for cluster x: no blocked cell, or their mean voltage is reached. -/
def passiveDone (h : Half) (x : Nat) : Bool :=
  let cs := inCluster h x fun c => c.bound && c.st == .blocked
  cs.isEmpty || F32.ge (F32.div (sumOver h cs vC) (F32.ofNat cs.length)) (h.bw BK.OX_PRE_VPASS)

def queue (c : Nat) (h : Half) : Half := h.modCell c fun x => { x with queued := true }

def idleCell (h : Half) (c : Nat) : Bool := (h.cell c).st == .blocked || (h.cell c).st == .bypassed

/-- The start of INSERT for one cluster: the blocked cells beyond those that are to run are set aside. -/
def setAside (h : Half) (x : Nat) : Half :=
  let run := toRun h x
  if h.bn (BK.OX_RED_MODE x) = 1 then
    cxs.foldl (fun h c =>
      if clusterOf h c == x && startable h c && !run.contains c && (h.cell c).st == .blocked then
        h.modCell c fun y => { y with st := .bypassed, aft := false, queued := false }
      else h) h
  else h

/-- INSERT begins: the cells that are to run join the start queue, blocked or bypassed, the others are set aside (R176). -/
def startInsert (h : Half) (x : Nat) : Half :=
  ((toRun h x).filter (idleCell h)).foldl (fun h c => queue c h) (setAside h x)

/-- In RUN an available cell joins the queue while its cluster is short (R176). -/
def refill (h : Half) (x : Nat) : Half :=
  let cs := cxs.filter fun c => clusterOf h c == x && startable h c
  let have_ := (cs.filter fun c => !idleCell h c || (h.cell c).queued).length
  let target := if h.bn (BK.OX_RED_MODE x) = 1 then h.bn (BK.OX_NRUN x) else cs.length
  let idle := cs.filter fun c => idleCell h c && !(h.cell c).queued
  (idle.take (target - have_)).foldl (fun h c => queue c h) h

/-- The phases of R176 and the queue in RUN. (DEDUCED, log entry 83.) -/
def phases (h : Half) : Half :=
  let h := if h.ox.prePhase = 1 ∧ [0, 1, 2].all (passiveDone h) then
      [0, 1, 2].foldl startInsert (h.modOx fun o => { o with prePhase := 2 }) else h
  if h.glb.mv = .run ∧ !ramping h then [0, 1, 2].foldl refill h else h

/-- INSERT ends once every cell that is to run is ACTIVE, none being queued or CHARGING; the stage enters RUN at the T0 that follows (DEDUCED, log entry 97). -/
def insertEnd (h : Half) : Half :=
  if h.ox.prePhase = 2 ∧ cxs.all (fun c => !(startable h c) || !((h.cell c).queued || (h.cell c).st == .charging)) then
    h.modOx fun o => { o with prePhase := 3 }
  else h

/-- A standby cell of x that may replace a leaver, the lowest-numbered (R172). -/
def swapFor (h : Half) (x : Nat) : Option Nat :=
  cxs.find? fun c => clusterOf h c == x && isStandby h c && !miss (h.cell c) &&
    F32.le (F32.abs (F32.sub (vC (h.cell c)) (vget h.ox.vmean x))) (h.bw BK.OX_SWAP_VTOL)

/-- One leaver: a swap-in where R172 gives one. -/
def swapOne (cx : Cx) (h : Half) (l : Nat × Nat × Nat × Nat) : Half :=
  let (x, _, r, o) := l
  if !(decide (x < 3) && h.bn (BK.OX_RED_MODE x) == 1 && h.glb.mv == .run && !ramping h) then h else
  match swapFor h x with
  | some c => raise cx 0x2D c 0 (h.modCell c fun y => { y with
      st := .active, rank := some r, ofs := o, ofs0 := o, entered := false, queued := false, dm := F32.zero })
  | none => raiseIf (!(cxs.any fun c => clusterOf h c == x && isStandby h c)) cx 0x87 0 0 h

def swaps (cx : Cx) (h : Half) : Half :=
  h.ox.left.foldl (swapOne cx) (h.modOx fun o => { o with left := [] })

/-- v_lv has settled for a start group (R177). -/
def vlvSettled (h : Half) : Bool :=
  F32.le (F32.abs (F32.sub h.ox.vlv (h.ox.vlvHist.getLastD h.ox.vlv))) (h.bw BK.OX_SG_DVMAX)

/-- At most one start group per cycle. -/
def startGroup (h : Half) : Half :=
  let stage := (decide (h.ox.prePhase = 2) && (h.glb.mv == .precharge || h.glb.mv == .test)) || h.glb.mv == .run
  let gap := (h.ox.lastGroup.map fun n => decide (n + (h.bn BK.OX_SG_GAP : Int) ≤ (h.glb.cycle : Int))).getD true
  let q := cxs.filter fun c => (h.cell c).queued
  if stage && !ramping h && gap && vlvSettled h && !q.isEmpty then
    let h := h.modOx fun o => { o with lastGroup := some (h.glb.cycle : Int) }
    (q.take (h.bn BK.OX_SG_SIZE)).foldl (fun h c => h.modCell c fun x => { x with
      st := .charging, queued := false, aft := false, startCyc := h.glb.cycle, chargeNew := true, entered := true }) h
  else h

/-- CHARGING to ACTIVE (R174). -/
def chargeEnd (h : Half) : Half :=
  cxs.foldl (fun h c =>
    let x := h.cell c
    if x.st == .charging && decide (x.startCyc + h.bn BK.OX_SS_CYCLES ≤ h.glb.cycle) &&
        F32.le (F32.abs (F32.sub (vC x) (sink h 1539))) (h.bw BK.OX_PRE_VTOL) then
      h.modCell c fun x => { x with st := .active }
    else h) h

/-! ### Ranks and carrier phases (R170, R171, R173) -/

/-- t_j. -/
def target (j n : Nat) : Nat := if n = 0 then 0 else (j * 65536 + n) / (2 * n)

def insNow (x : Cell) : Bool := x.bound && (x.st == .charging || x.st == .active)

/-- The ranked cells of a cluster, lowest rank first. -/
def ranked (h : Half) (x : Nat) : List Nat :=
  (List.range 48).flatMap fun r => inCluster h x fun c => insNow c && c.rank == some r

/-- Rank a cluster: those that stay keep their order from 0, those that enter follow. -/
def rankCluster (h : Half) (x : Nat) : Half :=
  let old := ranked h x
  let new := inCluster h x fun c => insNow c && c.rank.isNone
  let n := old.length + new.length
  let h := (old ++ new).zipIdx.foldl (fun h p => h.modCell p.1 fun c => { c with rank := some p.2 }) h
  new.foldl (fun h c => h.modCell c fun y =>
    let t := target (y.rank.getD 0) n
    { y with ofs := t, ofs0 := t }) h

/-- One step of o toward t, at most s, the shorter way, upward when both are equally long (R173). -/
def slewOfs (o t s : Nat) : Nat :=
  let up := (t + 65536 - o) % 65536
  if up ≤ 32768 then (o + min up s) % 65536 else (o + 65536 - min (65536 - up) s) % 65536

def slewCluster (h : Half) (x : Nat) : Half :=
  let cs := ranked h x
  let s := h.bn BK.OX_CPH_STEP
  cs.foldl (fun h c => h.modCell c fun y =>
    let t := target (y.rank.getD 0) cs.length
    { y with ofs := if y.entered then t else slewOfs y.ofs0 t s }) h

/-! ### MODULATE (R166 to R169) -/

/-- M_x with the flag that it was clamped. -/
def mOf (h : Half) (x : Nat) : F32 × Bool :=
  let vs := sumOver h (inCluster h x insNow) vC
  let v := F32.add (sink h (1536 + x)) h.ox.vcm
  let m := if F32.isZero vs then F32.zero else F32.div v vs
  let mx := h.bw BK.OX_M_MAX
  if F32.gt (F32.abs m) mx then (F32.clamp m (F32.neg mx) mx, true) else (m, false)

/-- A block hold of the context's cluster is set (R280). -/
def holdOf (h : Half) (c : Nat) : Bool := decide (clusterOf h c < 3) && h.sd.hold.getLsbD (clusterOf h c)

/-- The command of one context (R169), and whether a value that was not finite arose. -/
def cmdOf (h : Half) (c : Nat) : CellCmd × F32 × Bool × Bool :=
  let x := h.cell c
  let stop : CellCmd := ⟨1, 0, 0x8000#16, 0, false⟩
  let drive (mode : Nat) : CellCmd × F32 × Bool × Bool :=
    let k := dabLaw h c true
    let m := F32.add (vget h.ox.m (clusterOf h c)) x.dm
    let bad := x.nonfin || !k.finite || !F32.finite m || !F32.finite x.dm
    let cph := (h.ox.car.toNat / 65536 + h.bn (BK.OX_CAR_OFS (clusterOf h c)) + x.ofs) % 65536
    (⟨mode, if bad then 0 else F32.toQ15 m, if bad then x.dab0 else F32.toQ15 k.d, cph, x.chargeNew⟩, k.p, k.clamped, bad)
  match x.st with
  | .active => drive 3
  | .charging => drive 2
  | .blocked => (⟨0, 0, 0x8000#16, 0, !holdOf h c⟩, F32.zero, false, false)
  | .bypassed =>
    if isStandby h c then
      let k := dabLaw h c false
      (⟨1, 0, if k.finite then F32.toQ15 k.d else x.dab0, 0, false⟩, k.p, k.clamped, !k.finite)
    else (stop, F32.zero, false, false)
  | .faulted => (stop, F32.zero, false, false)
  | _ => (⟨0, 0, 0x8000#16, 0, false⟩, F32.zero, false, false)

/-- Fill every command; `count` also counts the cycles in which u is clamped (R165). 0x82 is raised once in a cycle for a
context (R141). -/
def fillCmds (cx : Cx) (count : Bool) (h : Half) : Half :=
  let ms := [0, 1, 2].map (mOf h)
  let h := h.modOx fun o => { o with
    m := Vector.ofFn fun i => (ms.getD i.val (F32.zero, false)).1
    ninsCmd := Vector.ofFn fun i => (inCluster h i.val insNow).length }
  let h := [0, 1, 2].foldl (fun h x =>
    let cl := (ms.getD x (F32.zero, false)).2
    let was := vget h.ox.overRun x
    raiseIf (cl && !was) cx 0x81 0 0 (h.modOx fun o => { o with overRun := vset o.overRun x cl })) h
  let cs := cxs.map fun c => (c, cmdOf h c)
  let h := cs.foldl (fun h p =>
    let (c, k, pw, cl, _) := p
    h.modCell c fun x => { x with
      cmd := k, gone := none, pdab := pw, standby := isStandby h c
      satCnt := if !count then x.satCnt else if cl then min 101 (x.satCnt + 1) else 0 }) h
  (cs.filter fun p => p.2.2.2.2 && !(h.cell p.1).told82).foldl (fun h p =>
    raise cx 0x82 p.1 0 (h.modCell p.1 fun x => { x with told82 := true })) h

/-- Sinks that Ox reads and that are not finite (R141). -/
def badSinks (cx : Cx) (h : Half) : Half :=
  [1536, 1537, 1538, 1539].foldl (fun h s =>
    raiseIf (!F32.finite (sinkRaw h s)) cx 0x82 (0x8000 + s) 0 h) h

/-- Source 0x85 (R175). -/
def shortCheck (cx : Cx) (h : Half) : Half :=
  [0, 1, 2].foldl (fun h x =>
    let s := h.glb.mv == .run && decide ((inCluster h x insNow).length < h.bn (BK.OX_NMIN x))
    let was := vget h.ox.shortRun x
    raiseIf (s && !was) cx 0x85 0 0 (h.modOx fun o => { o with shortRun := vset o.shortRun x s })) h

/-- The part of MODULATE that follows a change of the fences: bypassing, swap-ins, ranks, offsets, commands. -/
def remodulate (cx : Cx) (count : Bool) (h : Half) : Half :=
  let h := swaps cx (bypassCells h)
  let h := [0, 1, 2].foldl rankCluster h
  let h := [0, 1, 2].foldl slewCluster h
  shortCheck cx (fillCmds cx count h)

def modulate (cx : Cx) (h : Half) : Half :=
  let h := { h with cells := h.cells.map (fun x => { x with
    chargeNew := false, entered := false, told82 := false, ofs0 := x.ofs }) }
  let h := swaps cx (bypassCells (badSinks cx h))
  let h := chargeEnd (startGroup (phases h))
  remodulate cx true (insertEnd h)

/-! ### At T0 (R170, R174, R176, R178) -/

/-- Every CHARGING and ACTIVE cell becomes BLOCKED (R174). -/
def blockCells (h : Half) : Half :=
  let h := cxs.foldl (fun h c =>
    let s := (h.cell c).st
    if s == .charging || s == .active then
      h.modCell c fun x => { x with st := .blocked, rank := none, entered := false, queued := false }
    else h.modCell c fun x => { x with queued := false }) h
  h.modOx fun o => { o with left := [] }

/-- Available BYPASSED cells become BLOCKED (R174). -/
def unbypassCells (h : Half) : Half :=
  cxs.foldl (fun h c => let x := h.cell c
    if x.st == .bypassed && !x.fenced && !x.byCmd then h.modCell c fun x => { x with st := .blocked, aft := false } else h) h

/-- The MV stage changes state at T0. -/
def mvEnter (now : Nat) (s : Stage) (h : Half) : Half :=
  let old := h.glb.mv
  let h := h.modGlb fun g => { g with mv := s, mvSince := now }
  let h := if s = .precharge ∨ (s = .test ∧ old = .stopped) then
      h.modOx fun o => { o with prePhase := 1, preAt := now, preRaised := false }
    else if s = .run then h else h.modOx fun o => { o with prePhase := 0 }
  if s = .stopped then (unbypassCells (blockCells h)).modOx fun o => { o with rampFrom := none }
  else if s = .tripped ∨ s = .recovery then (blockCells h).modOx fun o => { o with rampFrom := none }
  else h

/-- A STOP in RUN begins the controlled ramp-down of R178. -/
def rampDown (h : Half) : Half :=
  (unbypassCells (blockCells h)).modOx fun o => { o with rampFrom := some h.glb.cycle, prePhase := 0 }

/-- The ramp-down is complete at this T0, whose cycle count is already in force. -/
def rampDone (h : Half) : Bool :=
  match h.ox.rampFrom with
  | none => false
  | some n => decide (n + 4 ≤ h.glb.cycle) || (decide (n < h.glb.cycle) &&
      cxs.all fun c => let x := h.cell c
        !(x.bound && x.st.slot) || [1, 2, 5, 6].contains x.rcd.nstate)

/-- The carrier accumulator at T0 (R170). -/
def carrierT0 (h : Half) : Half :=
  h.modOx fun o => { o with car := if h.glb.cycle = 0 then 0 else o.car + h.bw BK.OX_CAR_INC }

/-! ### The snapshot (R147, R151) -/

def cellWords (r : CellRec) : List Word :=
  [BitVec.ofNat 32 (r.vdc + 65536 * r.icell), BitVec.ofNat 32 (r.idab + 65536 * r.isw),
   BitVec.ofNat 32 (r.temp + 2 ^ 8 * r.flags + 2 ^ 20 * r.nstate + 2 ^ 24 * r.src + 2 ^ 26 * r.miss), 0]

def anWordOf (c : AnCh) : Word := BitVec.ofNat 32 (enc 24 c.snapWord + 2 ^ 24 * c.qual)

/-- Words 0 to 1,383; of the header in force only words 3 and 608 to 612 (R150). -/
def snapWords (d : SnapHdr) (h : Half) : List Word :=
  let cmds := (heldNow h).map (·.d)
  [BitVec.ofNat 32 h.glb.cycle, BitVec.ofNat 32 (h.glb.cycle / two32), h.glb.commits, d.w3, BitVec.ofNat 32 cmds.length, 0, 0, 0] ++
  cxs.flatMap (fun c => cellWords (h.cell c).rcd) ++
  h.an.ch.toList.map anWordOf ++ d.fences ++ [0, 0, 0] ++
  ((List.range 16).flatMap fun i => (cmds.getD i (Vector.replicate 16 0)).toList) ++
  (List.range 512).map fun i => sinkRaw h (1536 + i)

def snapMap (l : List Word) : WMap :=
  (l.zipIdx.filter fun x => x.1 != 0).map fun x => (x.2, x.1)

/-- The device's header: the half's own at its instant, or the ACTIVE half's (R149, R150, R300). A half that has become
ACTIVE in the cycle forms its own (R308). -/
def hdrInForce (h : Half) : SnapHdr :=
  if h.glb.role = .active ∧ !h.th.hdrSent then mkHdr h else
  match h.th.hdr with
  | some d => if d.cycle.toNat = h.glb.cycle then d else mkHdr h
  | none => mkHdr h

def hdrHeld (h : Half) : Bool := (h.th.hdr.map fun d => decide (d.cycle.toNat = h.glb.cycle)).getD false

/-- A half that is not ACTIVE takes fence set and stage states from the header; the ACTIVE half's later
fences wait for the next snapshot. (DEDUCED, log entry 78.) -/
def takeHdr (now : Nat) (d : SnapHdr) (h : Half) : Half :=
  let bit (c : Nat) : Bool := (d.fences.getD (c / 32) 0).getLsbD (c % 32)
  if h.glb.role = .active then
    { h with cells := vmapi h.cells fun c x => { x with late := x.fenced && !bit c } }
  else
    let h := { h with cells := vmapi h.cells (fun c x => { x with fenced := bit c, late := false }) }
    let h := h.modLv fun l => { l with hdrLv := some (Stage.ofCode (wbits d.w3 14 12)) }
    let mv := Stage.ofCode (wbits d.w3 10 8)
    if mv = h.glb.mv then h else mvEnter now mv h

/-- An item that R150 requires of a STANDBY half did not arrive. (DEDUCED, log entry 77.) -/
def lacksItem (h : Half) : Bool :=
  !hdrHeld h || (!h.an.otherOk && (List.range 24).any (anEn h)) ||
  (cxs.any fun c => let x := h.cell c; x.bound && x.st != .absent && (pick h x.ring x.pos).2.2)

/-- The STANDBY half abstains in this cycle (R151). -/
def abstainNow (h : Half) : Half :=
  h.modOx fun o => { o with abstain := true, installAt := some (h.glb.cycle + 2) }

/-- Each abstaining cycle counts and raises 0x86. -/
def noteAbstain (cx : Cx) (h : Half) : Half :=
  raiseIf h.ox.abstain cx 0x86 0 0 (if h.ox.abstain then h.count RG.OX_CNT_ABSTAIN else h)

/-- Compare the ACTIVE half's snapshot digest with this half's own. -/
def checkSnap (h : Half) : Bool :=
  match h.th.oSnapDigest with
  | some d => d != h.ox.snapDigest
  | none => false

/-- The bytes of a list of words. -/
def wordBytes (l : List Word) : List Byte := l.flatMap leWord

def sealDue (now : Nat) (h : Half) : Bool :=
  gathering h && decide (h.glb.t0 + tNs (h.glb.ts + wrapNs h.glb) ≤ now)

/-- SEAL (R150), with ESTIMATE, BALANCE and MODULATE. -/
def sealF (cx : Cx) (h : Half) : Half :=
  gate (sealDue cx.now h) (fun h =>
    let h := if h.glb.role = .active ∧ !h.th.hdrSent then matureCells cx.now h else h
    let h := matureFences cx.me cx.now isConvUnit h
    let d := hdrInForce h
    let h := analogSeal cx (takeHdr cx.now d h)
    let lack := h.glb.role == .standby && lacksItem h
    let h := cxs.foldl (fun h c => takeCell cx c h) h
    let h := cxs.foldl (fun h c => unreached cx c h) h
    let h := cxs.foldl (fun h c => faultCell c h) h
    let h := (List.range 12).foldl (fun h k => (List.range 16).foldl (fun h i => bindPos cx k (i + 1) h) h) h
    let h := h.modGlb fun g => { g with sealedAt := some cx.now }
    let ws := snapWords d h
    let h := (h.modGlb fun g => { g with snap := snapMap ws }).modOx fun o => { o with
      snapDigest := crc64 (wordBytes ws), single := d.w3.getLsbD 1 }
    let h := if h.glb.role = .active ∧ hasFollower h then h.tether cx.now (.snap (.digest h.ox.snapDigest)) else h
    let h := if h.glb.role = .standby ∧ !h.ox.abstain ∧ (lack ∨ checkSnap h) then abstainNow h else h
    let h := noteAbstain cx h
    let h := estimate cx h
    let h := cxs.foldl (fun h c => admitCell c h) h
    let h := modulate cx (balance h)
    let h := { h with cells := h.cells.map (fun x => { x with
      prevV := vC x, prevI := iC x, prevMiss := miss x }) }
    sendCfg cx h) h

/-- A SNAPSHOT message of the ACTIVE half. -/
def snapshotF (m : SnapMsg) (cx : Cx) (h : Half) : Half :=
  gate (h.glb.dev.inService && (h.glb.role == .standby || h.glb.role == .syncing)) (fun h =>
    match m with
    | .header c n w k f t =>
      if h.glb.sealedAt.isSome then h.count RG.TH_CNT_LATE
      else h.modTh fun x => { x with hdr := some ⟨c, n, w, k, f, t⟩ }
    | .digest d =>
      let h := h.modTh fun x => { x with oSnapDigest := some d }
      if h.glb.role = .standby ∧ h.glb.sealedAt.isSome ∧ !h.ox.abstain ∧ checkSnap h then
        noteAbstain cx (abstainNow h)
      else h) h

/-! ### Rows that follow SEAL (R154, R159, R165, R176) -/

/-- A shared cell source raised after SEAL fences in the same cycle while DISPATCH has not completed (R168). (DEDUCED, log entry 81.) -/
def raiseCell (cx : Cx) (s c : Nat) (h : Half) : Half :=
  let was := (h.cell c).fenced && !(h.cell c).late
  let h := raise cx s c 0 h
  if !was && (h.cell c).fenced && h.glb.sealedAt.isSome && h.glb.dispAt.isNone then remodulate cx false h else h

def afterSeal (h : Half) : Bool := h.glb.dev.inService && h.glb.sealedAt.isSome

def cellDabSatF (c : Nat) (cx : Cx) (h : Half) : Half :=
  gate (afterSeal h && (h.cell c).satCnt == 100) (fun h =>
    raiseCell cx 0x2B c (h.modCell c fun x => { x with satCnt := 101 })) h

def cellIsenseDevF (c : Nat) (cx : Cx) (h : Half) : Half :=
  let n := h.bn BK.OX_ISENSE_CNT
  gate (afterSeal h && (h.cell c).isenseCnt == n) (fun h =>
    raiseCell cx 0x2A c (h.modCell c fun x => { x with isenseCnt := n + 1 })) h

/-- The drift has held for OX.AGE_HOLD seconds and its source may be raised (R159). -/
def aged (now : Nat) (h : Half) (since : Option Nat) (latch : Bool) : Bool :=
  !latch && (since.map fun t => decide (t + tSec (h.bn BK.OX_AGE_HOLD) ≤ now)).getD false

def cellCapAgeingF (c : Nat) (ind : Bool) (cx : Cx) (h : Half) : Half :=
  let i := (h.cell c).id
  if ind then
    gate (afterSeal h && aged cx.now h i.indSince i.indLatch) (fun h =>
      raiseCell cx 0x29 c (h.modCell c fun x => { x with id := { x.id with indLatch := true } })) h
  else
    gate (afterSeal h && aged cx.now h i.capSince i.capLatch) (fun h =>
      raiseCell cx 0x28 c (h.modCell c fun x => { x with id := { x.id with capLatch := true } })) h

def oxPrechargeTimeoutF (cx : Cx) (h : Half) : Half :=
  gate (h.ox.prePhase == 1 && !h.ox.preRaised && decide (h.ox.preAt + tMs (h.bn BK.OX_PRE_TPASS) ≤ cx.now))
    (fun h => raise cx 0x84 0 0 (h.modOx fun o => { o with preRaised := true })) h

/-! ### DISPATCH (R179 to R181) -/

/-- The command words and the 32 sinks of the cycle digest. -/
def digestBytes (h : Half) : List Byte :=
  let cs := cxs.filter fun c => (h.cell c).bound && (h.cell c).st.slot
  (cs.flatMap fun c =>
    let k := (h.cell c).cmd
    leBytes 2 k.mref.toNat ++ leBytes 2 k.dab.toNat ++ leBytes 2 k.cph ++ leBytes 1 k.mode ++ leBytes 1 c) ++
  wordBytes ((List.range 32).map fun i => sinkRaw h (1540 + i)) ++ leBytes 8 h.ox.snapDigest.toNat

def digStatus (h : Half) : DigStatus :=
  if h.ox.residue then .residue else if h.ox.abstain then .abstained else .normal

/-- DISPATCH is due: 160 ns after SEAL's instant, itself as R20 moves it. -/
def dispatchDue (now : Nat) (h : Half) : Bool :=
  h.glb.dev.inService && h.glb.sealedAt.isSome && h.glb.dispAt.isNone &&
    decide (h.glb.t0 + tNs (h.glb.ts + 160 + wrapNs h.glb) ≤ now)

/-- The OX_CELLc registers take the values of the cycle (R189). (DEDUCED, log entry 100.) -/
def showCell (c : Nat) (h : Half) : Half :=
  let x := h.cell c
  let h := (h.put (RG.OX_CELL_V c) (vC x)).put (RG.OX_CELL_C c) (capHat h c)
  let h := (h.put (RG.OX_CELL_L c) (indHat h c)).put (RG.OX_CELL_P c) x.pdab
  let h := h.put (RG.OX_CELL_REF c) (BitVec.ofNat 32 (x.cmd.mref.toNat + 2 ^ 16 * x.cmd.dab.toNat))
  let h := h.put (RG.OX_CELL_OFS c) (BitVec.ofNat 32 (x.ofs % 2 ^ 16 + 2 ^ 16 * (x.rank.getD 0 % 64) + 2 ^ 24 * x.cmd.mode))
  h.put (RG.OX_CELL_FLG c) (BitVec.ofNat 32 (b2n x.fenced + 2 * b2n x.standby + 4 * b2n x.queued + 8 * b2n (convC x.id) +
    16 * b2n (convL x.id) + 2 ^ 8 * (x.rcd.miss % 4)))

/-- Residue checks of Ox that failed in the cycle (R180, R185): the train is withheld, the digest marked; the count serves
Gander's self-check. (DESIGN CHOICE, log entry 102.) -/
def noteResidue (n : Nat) (h : Half) : Half :=
  if n = 0 then h else
  let h := h.put RG.OX_CNT_RESIDUE (sat32 (h.reg RG.OX_CNT_RESIDUE) n)
  (h.modOx fun o => { o with residue := true }).modTh fun t => { t with resCyc := some h.glb.cycle }

/-- Ox's part of DISPATCH: the digest is formed and sent, and the LV references are handed over. -/
def oxDispatch (cx : Cx) (h : Half) : Half :=
  let d := crc64 (digestBytes h)
  let h := h.modOx fun o => { o with digest := d }
  let h := h.modGlb fun g => { g with dispAt := some cx.now }
  let h := h.modLv fun l => { l with refs := (List.range 32).map fun i => sinkRaw h (1540 + i) }
  let h := h.modTh fun t => { t with ownDigest := some (h.glb.cycle, digStatus h, d) }
  let h := cxs.foldl (fun h c => showCell c h) h
  h.tether cx.now (.digest (BitVec.ofNat 16 h.glb.cycle) (digStatus h) d)

end Sys2Proof.Machine
end

