-- ==== Sys2Proof/Machine/LoopTable.lean ====
section
/-! DEFINITION. The Loop Table: signals, scheduling, the block library, the pass, its latch, and the checks of
a bank (06_loop_table.md, R190 to R212). -/
namespace Sys2Proof.Machine

/-! ### The signal bus (R190 to R193) -/

def busGet (h : Half) (s : Nat) : F32 := WMap.get zeroW h.lt.bus s
def Half.modLt (h : Half) (f : Lt → Lt) : Half := { h with lt := f h.lt }
def busSet (s : Nat) (v : F32) (h : Half) : Half := h.modLt fun l => { l with bus := WMap.set zeroW l.bus s v }

def bF (b : Bool) : F32 := if b then F32.one else F32.zero

/-- Source signals 0 to 191 of the present cycle (R182, R190). -/
def sourceSig (h : Half) (s : Nat) : F32 :=
  let v3 (v : Vector F32 3) (i : Nat) : F32 := vget v i
  if s < 3 then v3 h.ox.ix s
  else if s < 6 then v3 h.ox.vsum (s - 3)
  else if s < 9 then v3 h.ox.vmean (s - 6)
  else if s < 12 then v3 h.ox.w (s - 9)
  else if s < 15 then v3 h.ox.pdab (s - 12)
  else if s < 18 then F32.ofNat (h.ox.ninsCmd.toList.getD (s - 15) 0)
  else if s < 21 then v3 h.ox.m (s - 18)
  else if s = 21 then h.ox.vcm
  else if s = 22 then h.ox.vlv
  else if s < 24 then F32.zero
  else if s < 48 then ainX h (s - 24)
  else if s < 72 then F32.ofNat (h.anCh (s - 48)).qual
  else
    let w3 := WMap.get zeroW h.glb.snap 3
    match s with
    | 72 => tcF h
    | 73 => F32.ofNat (h.glb.cycle % 2 ^ 24)
    | 74 => F32.ofNat (wbits w3 10 8)
    | 75 => F32.ofNat (wbits w3 14 12)
    | 76 => bF (wbits w3 10 8 == 2)
    | 77 => bF (wbits w3 14 12 == 2)
    | 78 => bF (wbit w3 1)
    | 79 => bF (wbit w3 0)
    | 80 => F32.ofNat h.lt.thr
    | _ => F32.zero

/-- A signal as a block input reads it; 0xFFF is unconnected (R191). -/
def sigRead (h : Half) (s : Nat) : F32 :=
  if s = 0xFFF then F32.zero else if s < 192 then sourceSig h s else busGet h s

/-- A signal as LT_SIGs, the recorder and SV frames show it: a sink shows its staged value (R214). -/
def initOf (b : Bank) (s : Nat) : F32 := Bank.word b (BK.LT_SINK_INIT (s - 1536))

def staged (b : Bank) (l : List (Nat × F32)) (s : Nat) : F32 :=
  match l.find? fun x => x.1 == s with
  | some x => x.2
  | none => initOf b s

/-- R192. -/
def cond (v : F32) : Bool := F32.ge v F32.half

/-! ### The block library (R205, R206) -/

/-- Costs in clocks, and numbers of outputs, by type code. -/
def ltCosts : List Nat :=
  [0, 2, 4, 8, 4, 14, 4, 8, 14, 20, 16, 12, 24, 10, 18, 22, 48, 14, 6, 4, 4, 6, 16, 6, 4, 4]
def ltOuts : List Nat :=
  [0, 1, 1, 1, 1, 2, 2, 1, 2, 1, 1, 1, 1, 3, 2, 4, 4, 2, 1, 1, 1, 2, 1, 2, 0, 1]
def ltCost (t : Nat) : Nat := ltCosts.getD t 0
def ltNOut (t : Nat) : Nat := ltOuts.getD t 0

/-- What a block sees in one run. -/
structure Run where
  x : Nat → F32
  conn : Nat → Bool
  p : Nat → F32
  dt : F32
  first : Bool
  st : List F32
  lut : Nat → Nat → F32 × F32

/-- What a block gives: outputs, state, a value staged for a sink, a rising EVENT, and whether an angle or
a sink's input was not finite. -/
structure Gives where
  out : List F32
  st : List F32
  sink : Option F32 := none
  event : Bool := false
  bad : Bool := false

namespace Blk
open F32 in
def sub3 (a b c : F32) : F32 := mul (sub (sub a (mul F32.half b)) (mul F32.half c)) 0x3F2AAAAB#32

def s (r : Run) (i : Nat) (init : F32) : F32 := if r.first then init else r.st.getD i init

open F32 in
def pi (r : Run) : Gives :=
  let s0 := s r 0 zero
  if r.conn 1 && !cond (r.x 1) then
    let v := F32.clamp (r.x 2) (r.p 3) (r.p 4)
    { out := [v, zero], st := [v] }
  else
    let u := add (mul (r.p 0) (r.x 0)) s0
    let y := F32.clamp u (r.p 3) (r.p 4)
    let s1 := add (add s0 (mul (mul (r.p 1) r.dt) (r.x 0))) (mul (mul (r.p 2) r.dt) (sub y u))
    { out := [y, bF (ne y u)], st := [F32.clamp s1 (r.p 3) (r.p 4)] }

open F32 in
def pr (r : Run) : Gives :=
  let z := cond (r.x 2)
  let s1 := if z then zero else s r 0 zero
  let s2 := if z then zero else s r 1 zero
  let f := if r.conn 1 then r.x 1 else r.p 2
  let w := F32.max (F32.min (mul 0x40C90FDB#32 f) (div 0x3FF33333#32 r.dt)) zero
  let k := mul two (r.p 3)
  let a := sub (sub (mul (mul k (r.p 1)) (r.x 0)) (mul k s1)) (mul w s2)
  let s1 := F32.clamp (add s1 (mul r.dt a)) (r.p 4) (r.p 5)
  let s2 := add s2 (mul (mul r.dt w) s1)
  { out := [F32.clamp (add (mul (r.p 0) (r.x 0)) s1) (r.p 4) (r.p 5)], st := [s1, s2] }

open F32 in
def notch (r : Run) : Gives :=
  let z1 := s r 0 zero
  let z2 := s r 1 zero
  let a := r.p 0
  let b := r.p 1
  let g := div (add (add one (mul b a)) (mul b b)) (add two a)
  let y := add (mul g (r.x 0)) z1
  let z1 := add (sub (mul (mul g a) (r.x 0)) (mul (mul b a) y)) z2
  { out := [y], st := [z1, sub (mul g (r.x 0)) (mul (mul b b) y)] }

open F32 in
def tracker (r : Run) : Gives :=
  let th := s r 0 0
  let fi := s r 1 zero
  let al := sub3 (r.x 0) (r.x 1) (r.x 2)
  let be := mul (sub (r.x 1) (r.x 2)) 0x3F13CD3A#32
  let (c, sn) := cossin th
  let vd := add (mul al c) (mul be sn)
  let vq := sub (mul be c) (mul al sn)
  let en := div vq (F32.max (sqrt (F32.max (add (mul al al) (mul be be)) zero)) (r.p 7))
  let fi := F32.clamp (add fi (mul (mul (r.p 1) r.dt) en)) (sub (r.p 3) (r.p 2)) (sub (r.p 4) (r.p 2))
  let f := F32.clamp (add (add (r.p 2) (mul (r.p 0) en)) fi) (r.p 3) (r.p 4)
  let a0 := mul f (r.p 5)
  let a1 := mul f (add (r.p 5) (r.p 6))
  let a2 := mul f r.dt
  { out := [turns (th + acc a0), turns (th + acc a1), f, vd], st := [th + acc a2, fi, f]
    bad := !(finite a0 && finite a1 && finite a2) }

open F32 in
def timer (r : Run) : Gives :=
  let t := s r 0 (r.p 1)
  let prev := cond (s r 1 zero)
  let b := cond (r.x 0)
  let rise := b && !prev
  let fall := !b && prev
  let t1 := F32.min (add t r.dt) (r.p 1)
  let m := (F32.trunc (r.p 0)).toNat
  let (t, y) :=
    if m = 0 then (let t := if rise then zero else if b then t1 else zero; (t, b && ge t (r.p 1)))
    else if m = 1 then (let t := if fall then zero else if !b then t1 else zero; (t, b || lt t (r.p 1)))
    else if rise && ge t (r.p 1) then (zero, true)
    else (t1, lt t1 (r.p 1))
  { out := [bF y, t], st := [t, bF b] }

open F32 in
def lookup (r : Run) : Gives :=
  let tab := r.lut (F32.trunc (r.p 0)).toNat
  let n := (F32.trunc (r.p 1)).toNat
  let x := r.x 0
  let y :=
    if !(gt x (tab 0).1) then (tab 0).2
    else if ge x (tab (n - 1)).1 then (tab (n - 1)).2
    else
      let k := ((List.range n).filter fun k => le (tab k).1 x).getLastD 0
      let sl := div (sub (tab (k + 1)).2 (tab k).2) (sub (tab (k + 1)).1 (tab k).1)
      add (tab k).2 (mul (sub x (tab k).1) sl)
  { out := [y], st := [] }

open F32 in
def select (r : Run) : Gives :=
  let cs := ((List.range 4).filter r.conn).map r.x
  let fold (f : F32 → F32 → F32) : F32 := match cs with
    | [] => zero
    | a :: l => l.foldl f a
  let m := (F32.trunc (r.p 0)).toNat
  { out := [if m = 0 then (if cond (r.x 0) then r.x 1 else r.x 2) else if m = 1 then fold F32.min else fold F32.max]
    st := [] }

open F32 in
def compare (r : Run) : Gives :=
  let d := sub (r.x 0) (r.x 1)
  let b := match (F32.trunc (r.p 0)).toNat with
    | 0 => gt d (r.p 1)
    | 1 => ge d (r.p 1)
    | 2 => lt d (r.p 1)
    | 3 => le d (r.p 1)
    | _ => gt (F32.abs d) (r.p 1)
  { out := [bF b], st := [] }

open F32 in
def source (r : Run) : Gives :=
  let last := s r 0 (r.p 2)
  let q := F32.trunc (r.x 1)
  let q := if finite (r.x 1) && decide (0 ≤ q ∧ q ≤ 63) then q.toNat else 63
  if q &&& (F32.trunc (r.p 0)).toNat = 0 then { out := [r.x 0, zero], st := [r.x 0] }
  else { out := [if isZero (r.p 1) then r.p 2 else last, one], st := [last] }

open F32 in
/-- PARK and INV_PARK. -/
def park (r : Run) : Gives :=
  let (c, sn) := cossin (acc (r.x 2))
  { out := [add (mul (r.x 0) c) (mul (r.x 1) sn), sub (mul (r.x 1) c) (mul (r.x 0) sn)], st := []
    bad := !finite (r.x 2) }

open F32 in
def invPark (r : Run) : Gives :=
  let (c, sn) := cossin (acc (r.x 2))
  let al := sub (mul (r.x 0) c) (mul (r.x 1) sn)
  let be := add (mul (r.x 0) sn) (mul (r.x 1) c)
  let q := mul 0x3F5DB3D7#32 be
  { out := [al, sub q (mul F32.half al), sub (neg (mul F32.half al)) q, be], st := [], bad := !finite (r.x 2) }

open F32 in
/-- One run of a block of type t. -/
def eval (t : Nat) (r : Run) : Gives :=
  let x := r.x
  let p := r.p
  match t with
  | 1 => { out := [p 0], st := [] }
  | 2 => { out := [add (mul (p 0) (x 0)) (p 1)], st := [] }
  | 3 => { out := [add (add (add (mul (p 0) (x 0)) (mul (p 1) (x 1))) (mul (p 2) (x 2))) (mul (p 3) (x 3))], st := [] }
  | 4 => { out := [mul (mul (p 0) (x 0)) (x 1)], st := [] }
  | 5 => if ge (F32.abs (x 1)) (p 0) && ne (x 1) zero then { out := [div (x 0) (x 1), zero], st := [] }
      else { out := [p 1, one], st := [] }
  | 6 => let y := F32.clamp (x 0) (p 0) (p 1); { out := [y, bF (ne y (x 0))], st := [] }
  | 7 =>
    let y0 := s r 0 zero
    let y := if r.first || cond (x 1) then x 0
      else add y0 (F32.clamp (sub (x 0) y0) (neg (mul (p 1) r.dt)) (mul (p 0) r.dt))
    { out := [y], st := [y] }
  | 8 => pi r
  | 9 => pr r
  | 10 =>
    let y0 := s r 0 zero
    let y := if r.first || isZero (p 0) then x 0
      else add y0 (mul (div r.dt (add (p 0) r.dt)) (sub (x 0) y0))
    { out := [y], st := [y] }
  | 11 =>
    let y := add (mul (p 0) (x 0)) (s r 0 zero)
    { out := [y], st := [add (sub (mul (p 1) (x 0)) (mul (p 3) y)) (s r 1 zero), sub (mul (p 2) (x 0)) (mul (p 4) y)] }
  | 12 => notch r
  | 13 => { out := [sub3 (x 0) (x 1) (x 2), mul (sub (x 1) (x 2)) 0x3F13CD3A#32,
      mul (add (add (x 0) (x 1)) (x 2)) 0x3EAAAAAB#32], st := [] }
  | 14 => park r
  | 15 => invPark r
  | 16 => tracker { r with st := if r.first then [0, zero, p 2] else r.st }
  | 17 =>
    let m0 := s r 0 zero
    let q := mul (x 0) (x 0)
    let m := if r.first || cond (x 1) then q else add m0 (mul (p 0) (sub q m0))
    { out := [sqrt (F32.max m zero), m], st := [m] }
  | 18 => select r
  | 19 => compare r
  | 20 =>
    let y0 := if r.first then bF (cond (p 2)) else s r 0 zero
    let y := if ge (x 0) (p 1) then one else if le (x 0) (p 0) then zero else y0
    { out := [y], st := [y] }
  | 21 => timer r
  | 22 => lookup r
  | 23 => source r
  | 24 => { out := [], st := [], sink := some (if finite (x 0) then F32.clamp (x 0) (p 0) (p 1) else p 2)
            bad := !finite (x 0) }
  | 25 =>
    let e := cond (x 0) && !cond (s r 0 zero)
    { out := [bF e], st := [bF (cond (x 0))], event := e }
  | _ => { out := [], st := [] }

end Blk

/-! ### Scheduling and the pass (R195 to R202) -/

def ltType (b : Bank) (i : Nat) : Nat := Bank.nat b (BK.LT_BLK_TYPE i)
/-- The period of a group in cycles. -/
def groupK (g : Nat) : Nat := if g = 0 then 1 else if g = 1 then 2 else if g = 2 then 4 else 16

def ltDue (h : Half) (thr i : Nat) : Bool :=
  let b := h.glb.live
  let g := Bank.nat b (BK.LT_BLK_GROUP i)
  let k := groupK g * (if g ≤ 1 then 1 else 2 ^ thr)
  let t := ltType b i
  t != 0 && decide (t ≤ 25) && ((h.glb.cycle : Int) - Bank.nat b (BK.LT_BLK_PHASE i)) % (k : Int) == 0

def blkOf (h : Half) (i : Nat) : LtBlk := ((h.lt.blk.find? fun x => x.1 == i).map (·.2)).getD ⟨[], true, false, false, 0, 0⟩

def setBlk (i : Nat) (x : LtBlk) (h : Half) : Half :=
  h.modLt fun l => { l with blk := (i, x) :: l.blk.filter fun y => y.1 ≠ i }

def setStage (s : Nat) (v : F32) (h : Half) : Half :=
  h.modLt fun l => { l with stage := (s, v) :: l.stage.filter fun y => y.1 ≠ s }

/-- One instance runs, with its EVENT and its non-finite raise; every run with a value that is not finite counts (DESIGN
CHOICE, log entry 127). -/
def runBlk (cx : Cx) (h : Half) (i : Nat) : Half :=
  let b := h.glb.live
  let t := ltType b i
  let x := blkOf h i
  let k := groupK (Bank.nat b (BK.LT_BLK_GROUP i))
  let m := if x.first then k else min 64 ((h.glb.cycle : Int) - x.last).toNat
  let inp (j : Nat) : Nat := Bank.nat b (BK.LT_BLK_IN i j)
  let r : Run := {
    x := fun j => sigRead h (inp j)
    conn := fun j => inp j != 0xFFF
    p := fun j => Bank.word b (BK.LT_BLK_P i j)
    dt := F32.mul (F32.ofNat (h.bn BK.CYCLE_TC_TICKS * m)) c4
    first := x.first
    st := x.st
    lut := fun t j => (Bank.word b (BK.LT_LUT_X t j), Bank.word b (BK.LT_LUT_Y t j)) }
  let g := Blk.eval t r
  let x1 := r.x 1
  let p0 := r.p 0
  let badOut (v : F32) : Bool := !F32.finite v || (g.bad && t != 24)
  let bad := g.bad || g.out.any badOut
  let o := Bank.nat b (BK.LT_BLK_OUT i)
  let h := g.out.zipIdx.foldl (fun h v => busSet (o + v.2) (if badOut v.1 then F32.zero else v.1) h) h
  let h := match g.sink with
    | some v => setStage o v h
    | none => h
  let reset := bad && t != 24
  let h := setBlk i { st := if reset then [] else g.st, first := reset, bad := bad, ran := true
                      nf := min 255 (x.nf + (g.out.filter badOut).length), last := h.glb.cycle } h
  let h := if bad then h.count RG.LT_CNT_NONFINITE else h
  let h := raiseIf (bad && !x.bad) cx 0x89 i 0 h
  raiseIf g.event cx (0x8A + (F32.trunc p0).toNat % 4) i x1 h

/-- Clocks that PERT_LT adds at the end of a pass (R197, R494). -/
def pertClocks (h : Half) : Nat := h.pert RG.PERT_LT 16 0

/-- Clocks of a pass over the instances given. -/
def passClocks (h : Half) (due : List Nat) : Nat := 120 + due.foldl (fun n i => n + ltCost (ltType h.glb.live i)) 0

/-- The pass begins: its throttle level and its due instances (R195, R196, R199). They are evaluated as the pass ends; what
they read does not change meanwhile. -/
def passBegin (cx : Cx) (h : Half) : Half :=
  let thr := (hdrInForce h).throttle
  let due := (List.range 512).filter (ltDue h thr)
  h.modLt fun l => { l with
    thr := thr, pass := some ⟨cx.now, thr, due⟩, blk := l.blk.map (fun x => (x.1, { x.2 with ran := false })) }

/-- What the registers show after a pass (R214). -/
def showPass (clocks : Nat) (ovr : Bool) (h : Half) : Half :=
  let h := h.modLt fun l => { l with
    pass := none, overrun := ovr, shownBlk := l.blk
    shown := ((List.range 2048).filterMap fun s =>
      let v := if s < 1536 then sigRead h s else staged h.glb.live h.lt.stage s
      if v = 0 then none else some (s, v)) }
  let c := min clocks 0x1FFFF
  (h.put RG.LT_PASS (BitVec.ofNat 32 c)).put RG.LT_PASS_MAX
    (BitVec.ofNat 32 (max c (h.reg RG.LT_PASS_MAX).toNat))

def passLen (h : Half) (p : LtPass) : Nat := passClocks h p.due + pertClocks h

/-- One clock of the loop engine: a nanosecond of the CORE PLL, or ten of its RC fallback (R197, R363). -/
def ltClk (h : Half) : Nat := if h.tb.fallback then tNs 10 else tNs 1

/-- Due instances with the instant at which each one's last clock completes (R197). -/
def completions (h : Half) (p : LtPass) : List (Nat × Nat) :=
  (p.due.foldl (fun (q : List (Nat × Nat) × Nat) i =>
    let c := q.2 + ltCost (ltType h.glb.live i)
    (q.1 ++ [(i, p.start + c * ltClk h)], c)) ([], 120)).1

/-- During the pass before an install the ACTIVE half sends each instance's state and outputs as the pass evaluates it (R297). -/
def sendBlk (i : Nat) (cx : Cx) (h : Half) : Half :=
  let x := h.glb.cycle + 1
  if h.glb.role = .active ∧ hasFollower h ∧ h.xf.oxOut.map (·.1) = some x then
    h.tether cx.now (.xferBlk (ltType h.glb.live i) i x (h.th.oRole == .syncing))
  else h

/-- Every due instance that completes by instant t is evaluated, at its own instant, in ascending number. -/
def runDue (t : Nat) (cx : Cx) (p : LtPass) (h : Half) : Half :=
  ((completions h p).filter fun q => decide (q.2 ≤ t)).foldl
    (fun h q => atInstant q.2 (fun cx h => sendBlk q.1 cx (runBlk cx h q.1)) cx h) h

/-- The pass ends (R197): every due instance has been evaluated. -/
def passComplete (cx : Cx) (h : Half) : Half :=
  match h.lt.pass with
  | none => h
  | some p =>
    if p.start + passLen h p * ltClk h ≤ cx.now then showPass (passLen h p) false (runDue cx.now cx p h) else h

/-- A pass not complete by T0 is abandoned (R200): true says so. The argument of 0x88 is 0, naming no instance (DESIGN
CHOICE, log entry 127). -/
def passAtT0 (cx : Cx) (h : Half) : Half × Bool :=
  let h := passComplete cx h
  match h.lt.pass with
  | none => (h, false)
  | some p =>
    let n := (cx.now - p.start) / ltClk h
    let h := runDue cx.now cx p h
    let h := showPass n true (h.count RG.LT_CNT_OVERRUN)
    (raise cx 0x88 0 0 h, true)

/-- The sinks are latched at T0 (R22, R200, R207): after an abandoned pass they stay. -/
def latchSinks (ovr : Bool) (h : Half) : Half :=
  if ovr then h else
  (List.range 512).foldl (fun h j => busSet (1536 + j) (staged h.glb.live h.lt.stage (1536 + j)) h) h

/-! ### Commits and bank checks (R209 to R212) -/

/-- At a commit an instance whose TYPE, OUT or GEN changes is reset: state, outputs and what its SINK staged. -/
def ltCommit (old new : Bank) (h : Half) : Half :=
  let chg := (List.range 512).filter fun i =>
    Bank.word old (BK.LT_BLK_TYPE i) != Bank.word new (BK.LT_BLK_TYPE i) ||
    Bank.word old (BK.LT_BLK_OUT i) != Bank.word new (BK.LT_BLK_OUT i) ||
    Bank.word old (BK.LT_BLK_GEN i) != Bank.word new (BK.LT_BLK_GEN i)
  let outs (b : Bank) (i : Nat) : List Nat :=
    (List.range (ltNOut (ltType b i))).map fun j => Bank.nat b (BK.LT_BLK_OUT i) + j
  let zero := chg.flatMap fun i => outs old i ++ outs new i
  let sinks := chg.flatMap fun i =>
    (if ltType old i = 24 then [Bank.nat old (BK.LT_BLK_OUT i)] else []) ++
    (if ltType new i = 24 then [Bank.nat new (BK.LT_BLK_OUT i)] else [])
  let h := h.modLt fun l => { l with
    blk := l.blk.filter (fun x => !chg.contains x.1), stage := l.stage.filter (fun x => !sinks.contains x.1) }
  zero.foldl (fun h s => if s < 1536 then busSet s F32.zero h else h) h

/-- A binary32 parameter is a whole number from 0 to n. -/
def wholeTo (v : F32) (n : Nat) : Bool := F32.isWhole v && decide (0 ≤ F32.trunc v ∧ F32.trunc v ≤ n)

/-- Parameters a type uses. -/
def ltNPar (t : Nat) : Nat :=
  [0, 1, 2, 4, 1, 2, 2, 2, 5, 6, 1, 5, 2, 0, 0, 0, 8, 1, 1, 2, 3, 2, 2, 3, 3, 1].getD t 0

/-- The parameters that break the limits of R205, by number. -/
def ltParBad (t : Nat) (p : Nat → F32) : List Nat :=
  let neg (j : Nat) : List Nat := if F32.lt (p j) F32.zero then [j] else []
  let ord (a b : Nat) : List Nat := if F32.lt (p b) (p a) then [a, b] else []
  let whole (j n : Nat) : List Nat := if wholeTo (p j) n then [] else [j]
  let nonfin := (List.range (ltNPar t)).filter fun j => !F32.finite (p j)
  nonfin ++ (match t with
    | 5 => neg 0
    | 6 => ord 0 1
    | 7 => neg 0 ++ neg 1
    | 8 => neg 0 ++ neg 1 ++ neg 2 ++ ord 3 4
    | 9 => neg 2 ++ neg 3 ++ ord 4 5
    | 10 => neg 0
    | 12 => (if F32.lt (F32.abs (p 0)) F32.two then [] else [0]) ++
        (if F32.ge (p 1) F32.zero && F32.lt (p 1) F32.one then [] else [1])
    | 16 => (if F32.gt (p 3) F32.zero then [] else [3]) ++ ord 3 2 ++ ord 2 4 ++ neg 5 ++ neg 6 ++
        (if F32.gt (p 7) F32.zero then [] else [7])
    | 17 => if F32.gt (p 0) F32.zero && F32.le (p 0) F32.one then [] else [0]
    | 18 => whole 0 2
    | 19 => whole 0 4
    | 20 => ord 0 1
    | 21 => whole 0 2 ++ neg 1
    | 22 => whole 0 15 ++ (if wholeTo (p 1) 32 && decide (2 ≤ F32.trunc (p 1)) then [] else [1])
    | 23 => whole 0 63 ++ whole 1 1
    | 24 => ord 0 2 ++ ord 2 1
    | 25 => whole 0 3
    | _ => [])

/-- The faults of one instance of a bank: reason code of R211 and the words involved. -/
def ltFaults (b : Bank) (i : Nat) : List (Nat × List Nat) :=
  let t := ltType b i
  let w (o : Nat) : Nat := Bank.nat b o
  let out := w (BK.LT_BLK_OUT i)
  if t = 0 then []
  else if 25 < t then [(1, [BK.LT_BLK_TYPE i])]
  else
    let n := ltNOut t
    let phase := if groupK (w (BK.LT_BLK_GROUP i)) ≤ w (BK.LT_BLK_PHASE i) then
        [(2, [BK.LT_BLK_PHASE i, BK.LT_BLK_GROUP i])] else []
    let range := if t = 24 then decide (1536 ≤ out ∧ out ≤ 2047) else decide (256 ≤ out ∧ out + n ≤ 1536)
    let rng := if range then [] else [(3, [BK.LT_BLK_OUT i])]
    let others := (List.range 512).filter fun j => j != i && ltType b j != 0 && decide (ltType b j ≤ 25)
    let ovr := others.filter fun j => ltType b j != 24 && t != 24 &&
      decide (out < w (BK.LT_BLK_OUT j) + ltNOut (ltType b j) ∧ w (BK.LT_BLK_OUT j) < out + n)
    let same := others.filter fun j => ltType b j == 24 && t == 24 && out == w (BK.LT_BLK_OUT j)
    let inp := ((List.range 4).filter fun j =>
      let v := w (BK.LT_BLK_IN i j); decide (2047 < v) && v != 0xFFF).map fun j => BK.LT_BLK_IN i j
    let par := (ltParBad t fun j => Bank.word b (BK.LT_BLK_P i j)).map fun j => BK.LT_BLK_P i j
    let tab := F32.trunc (Bank.word b (BK.LT_BLK_P i 0))
    let num := F32.trunc (Bank.word b (BK.LT_BLK_P i 1))
    let lut := if t = 22 ∧ par.isEmpty then
        if (List.range (num.toNat - 1)).all fun k =>
          F32.lt (Bank.word b (BK.LT_LUT_X tab.toNat k)) (Bank.word b (BK.LT_LUT_X tab.toNat (k + 1))) then []
        else (List.range num.toNat).map (BK.LT_LUT_X tab.toNat)
      else []
    let lutN := if t = 22 ∧ par.isEmpty then
        (List.range num.toNat).flatMap fun k =>
          (if F32.finite (Bank.word b (BK.LT_LUT_X tab.toNat k)) then [] else [BK.LT_LUT_X tab.toNat k]) ++
          (if F32.finite (Bank.word b (BK.LT_LUT_Y tab.toNat k)) then [] else [BK.LT_LUT_Y tab.toNat k])
      else []
    phase ++ rng ++
    (if ovr.isEmpty then [] else [(4, BK.LT_BLK_OUT i :: ovr.map BK.LT_BLK_OUT)]) ++
    (if inp.isEmpty then [] else [(5, inp)]) ++
    (if same.isEmpty then [] else [(6, BK.LT_BLK_OUT i :: same.map BK.LT_BLK_OUT)]) ++
    (if par.isEmpty then [] else [(7, par)]) ++
    (if lut.isEmpty && lutN.isEmpty then [] else [(8, lut ++ lutN)])

/-- The cost of residue r of a bank (R210). -/
def ltResidue (b : Bank) (r : Nat) : Nat :=
  (List.range 512).foldl (fun n i =>
    let t := ltType b i
    if t != 0 && Bank.nat b (BK.LT_BLK_PHASE i) == r % groupK (Bank.nat b (BK.LT_BLK_GROUP i)) then n + ltCost t else n) 120

/-- The cost of a bank and the residue that sets it. -/
def ltBankCost (b : Bank) : Nat × Nat :=
  (List.range 16).foldl (fun q r => let c := ltResidue b r; if q.1 < c then (c, r) else q) (0, 0)

def ltBudget (b : Bank) : Nat := 4 * Bank.nat b BK.CYCLE_TC_TICKS - 1500

/-- The TYPE words counted in the residue that sets the cost. -/
def ltCostWords (b : Bank) : List Nat :=
  let r := (ltBankCost b).2
  ((List.range 512).filter fun i => ltType b i != 0 &&
    Bank.nat b (BK.LT_BLK_PHASE i) == r % groupK (Bank.nat b (BK.LT_BLK_GROUP i))).map BK.LT_BLK_TYPE

/-- Non-finite entries that belong to no instance: tables, then sinks. -/
def ltLooseLut (b : Bank) : List Nat :=
  (List.range 16).flatMap fun t => (List.range 32).flatMap fun k =>
    [BK.LT_LUT_X t k, BK.LT_LUT_Y t k].filter fun o => !F32.finite (Bank.word b o)
def ltLooseSink (b : Bank) : List Nat :=
  ((List.range 512).map BK.LT_SINK_INIT).filter fun o => !F32.finite (Bank.word b o)

/-- Every word that R209 finds at fault. -/
def ltArgWords (b : Bank) : List Nat :=
  ((List.range 512).flatMap fun i => (ltFaults b i).flatMap (·.2)) ++ ltLooseLut b ++ ltLooseSink b

/-- LT_CHECK and LT_CHECK2 after a commit has been checked (R211); OVER says that the cost is above the budget, also where
the commit breaks R209 too (DESIGN CHOICE, log entry 127). -/
def ltReport (b : Bank) (h : Half) : Half :=
  let (c, _) := ltBankCost b
  let ovr := decide (ltBudget b < c)
  let first := (List.range 512).findSome? fun i => match ltFaults b i with
    | [] => none
    | f :: l => some (i, l.foldl (fun m x => min m x.1) f.1)
  let (i, r) := match first with
    | some q => q
    | none => if !(ltLooseLut b).isEmpty then (0, 8) else if !(ltLooseSink b).isEmpty then (0, 9)
      else if ovr then (0, 10) else (0, 0)
  (h.put RG.LT_CHECK (BitVec.ofNat 32 (min c 0x1FFFF + 2 ^ 31 * b2n ovr))).put RG.LT_CHECK2
    (BitVec.ofNat 32 (r + 2 ^ 16 * i))

/-! ### References (R193) -/

/-- Values of HOST_REF set by one command. -/
def setRefs (first : Nat) (vs : List Word) (h : Half) : Half :=
  vs.zipIdx.foldl (fun h v => busSet (192 + first + v.2) v.1 h) h

end Sys2Proof.Machine
end

