-- ==== Sys2Proof/Machine/Lv.lean ====
section
/-! DEFINITION. The LV stage generator: counters, loads, short pulses, dead time, forces, trip and fault
latches, the brake chopper and safe states (07_lv_stage.md, R215 to R252). -/
namespace Sys2Proof.Machine

/-! ### Time of the counters (R217) -/

/-- t since the epoch in units of 2⁻³² ns, at the instant itself; negative before the epoch. -/
def sinceEpoch32 (now : Nat) (h : Half) : Int :=
  ((h.tb.now : Int) - h.tb.epoch) + ((if h.tb.fallback then now % 800 else now % 320) * 2 ^ 32 / 80 : Nat)

/-- Fine units (312.5 ps) since the epoch. -/
def lvFine (now : Nat) (h : Half) : Int := sinceEpoch32 now h / (5 * 2 ^ 28)

/-- The first instant at or after t, itself not before `now`, that lies on the fine-unit grid of the epoch (R217, R225). -/
def fineUp (now : Nat) (h : Half) (t : Nat) : Nat :=
  let r := ((sinceEpoch32 now h + ((t - now) * 2 ^ 32 / 80 : Nat)) % (5 * 2 ^ 28)).toNat
  if r = 0 then t else t + ((5 * 2 ^ 28 - r) * 80 + 2 ^ 32 - 1) / 2 ^ 32

/-- The first counter edge at or after the instant. -/
def lvEdgeAt (now : Nat) (h : Half) : Int := -(-(sinceEpoch32 now h) / (5 * 2 ^ 31))

def pairOf (h : Half) (n : Nat) : Pair := vget h.lv.pairs n
def tripOf (h : Half) (n : Nat) : Trip := vget h.lv.trips n
def pairMode (h : Half) (n : Nat) : Nat := h.bn (BK.LV_PAIR_MODE n)
def pairPeriod (h : Half) (n : Nat) : Nat := h.bn (BK.LV_PAIR_PERIOD n)

/-- F, the full period in counter clocks. -/
def pairF (h : Half) (n : Nat) : Nat := (if pairMode h n = 1 then 2 else 1) * max 1 (pairPeriod h n)

/-- The number of the counter's period at a fine unit. -/
def periodNo (h : Half) (n : Nat) (fine : Int) : Int := (fine / 8 + h.bn (BK.LV_PAIR_PHASE n)) / pairF h n

/-! ### Loads (R220, R224) -/

/-- C of R220. -/
def dutyC (d : F32) (period : Nat) : Nat :=
  (F32.toIntEven (F32.mul (F32.clamp d F32.zero F32.one) (F32.ofNat (8 * period)))).toNat

def lvRef (h : Half) (i : Nat) : F32 := h.lv.refs.getD i F32.zero

/-- The settings of pair n that change with a load (R224). -/
def pairPar (h : Half) (n : Nat) : PairPar where
  dt := h.bn (BK.LV_PAIR_DT n)
  minp := h.bn (BK.LV_PAIR_MINP n)
  stretch := h.bf (BK.LV_PAIR_MPMODE n)
  bsN := h.bn (BK.LV_PAIR_BS_N n)
  bsTmin := h.bn (BK.LV_PAIR_BS_TMIN n)
  swap := h.bf (BK.LV_PAIR_SWAP n)
  invert := h.bf (BK.LV_PAIR_INVERT n)
  lowOn := h.bf (BK.LV_PAIR_SAFE n)

def mkLoad (h : Half) (n : Nat) (j : Int) : PLoad :=
  ⟨dutyC (lvRef h n) (pairPeriod h n), cond (lvRef h (12 + n)), pairPar h n, j, false⟩

/-! ### What holds an output safe (R237, R238, R241, R248, R249, R251) -/

def latched (t : Trip) : Bool := t.softLatch || t.hardLatch

/-- A trip latch holds output n: its MASK, WHOLE for a pair, or the two-leg rule. -/
def tripHeld (h : Half) (n : Nat) : Bool :=
  (decide (n < 12) && !h.lv.twoLeg.isEmpty) ||
  (List.range 16).any fun m => latched (tripOf h m) &&
    (h.bn (BK.LV_TRIP_MASK m) / 2 ^ n % 2 == 1 || (decide (n < 12) && h.bf (BK.LV_TRIP_WHOLE m)))

def pairFenced (h : Half) (n : Nat) : Bool := (h.sd.pairFence ||| h.sd.pairLocal).getLsbD n

/-- A latch, fence, the stage state or the loss of the clock holds pair n safe. -/
def heldSafe (h : Half) (n : Nat) : Bool :=
  tripHeld h n || pairFenced h n || (pairOf h n).flt || h.glb.lv == .tripped || h.lv.clkSafe

/-! ### Commands and balls (R215 stages 4 to 7, R225, R236) -/

/-- H_cmd and L_cmd of stage 4; both are 0 from a RELEASE to the reload that follows it (R229; DESIGN CHOICE, log entry 133). -/
def logical (h : Half) (n : Nat) : Bool × Bool :=
  let p := pairOf h n
  let run := h.glb.lv == .run || h.glb.lv == .test
  if pairMode h n = 0 then (false, false)
  else if p.force = 1 then (false, false)
  else if p.force = 2 ∨ p.force = 4 then (true, false)
  else if p.force = 3 then (false, true)
  else if p.forceLeave || !run || !p.started || !p.en then (false, false)
  else (p.cpp, !p.cpp)

/-- Ball commands pass the dead time: the new signals, a turn-off at `now`, and a turn-on instant on the grid `up`. -/
def Dead.step (up : Nat → Nat) (now dt : Nat) (bH bL : Bool) (d : Dead) : Dead × Bool × Option Nat :=
  let offOf (was is : Bool) (on : Nat) : Bool := was && !is && decide (on ≤ now)
  let fH := offOf d.cmdH bH d.onH
  let fL := offOf d.cmdL bL d.onL
  let offH := if fH then now else d.offH
  let offL := if fL then now else d.offL
  let after (off : Nat) : Nat := up (if off = 0 then now else max now (off + tFine dt))
  let rH := bH && !d.cmdH
  let rL := bL && !d.cmdL
  -- a dead time still running ends by the DT now in force
  let runH := bH && d.cmdH && decide (now < d.onH)
  let runL := bL && d.cmdL && decide (now < d.onL)
  let onH := if rH || runH then after offL else d.onH
  let onL := if rL || runL then after offH else d.onL
  (⟨bH, bL, onH, onL, offH, offL⟩, fH || fL, if rH || runH then some onH else if rL || runL then some onL else none)

/-- Bring pair n's commands and balls to the present instant. -/
def pairRefresh (now n : Nat) (h : Half) : Half :=
  let p := pairOf h n
  let (nh, nl) := logical h n
  let rising := (nh && !p.lh) || (nl && !p.ll)
  let edge := nh != p.lh || nl != p.ll
  -- R242: the releasing edge
  let p := if p.flt && rising && !p.fltIn then { p with flt := false } else p
  let h := h.modPair n fun _ => p
  let held := heldSafe h n
  let run := h.glb.lv == .run || h.glb.lv == .test
  let wait0 := held || (p.waitEdge && !p.waitOwn && !rising)
  -- off by the stage state (R232), no longer safe
  let quiet := wait0 && !held && !run && p.force == 0
  let wait := wait0 && !quiet
  let own := quiet || (p.waitOwn && !held && !edge)
  let (bH, bL) := if p.par.swap then (nl, nh) else (nh, nl)
  let (d6, off, on) := Dead.step (fineUp now h) now p.par.dt bH bL p.d6
  let low := p.par.lowOn && !p.flt && pairMode h n != 0
  let (sH, sL) := if wait then (false, low) else if own then (false, false) else (bH, bL)
  let (d7, _, _) := Dead.step (fineUp now h) now p.par.dt sH sL p.d7
  h.modPair n fun p => { p with
    lh := nh, ll := nl, d6 := d6, d7 := d7, waitEdge := wait, waitOwn := own
    edge1 := if off then now else p.edge1
    edge2 := match on with
      | some t => t
      | none => if now < p.edge2 && !(d6.cmdH || d6.cmdL) then 0 else p.edge2 }

/-- The ball is on at an instant: PWMnH, PWMnL of pair n as this half drives it. -/
def ballOn (cx : Cx) (n : Nat) (low : Bool) (h : Half) : Bool :=
  let d := (pairOf h n).d7
  drivesBalls cx h && (if low then d.cmdL && decide (d.onL ≤ cx.now) else d.cmdH && decide (d.onH ≤ cx.now))

/-! ### The brake chopper (R244 to R247) -/

/-- The number of the period of the software brake's counter (R246). -/
def brkPeriodNo (h : Half) (fine : Int) : Int := fine / 8 / max 1 (h.bn BK.LV_BRK_PERIOD)

/-- The software brake command of R246. -/
def brkSoft (now : Nat) (h : Half) : Bool :=
  h.lv.brkEn && decide (lvFine now h % (8 * max 1 (h.bn BK.LV_BRK_PERIOD)) < (h.lv.brkC : Int))

/-- The load of the software brake takes effect at a reload of its own counter. -/
def brkTake (now : Nat) (h : Half) : Half :=
  let per := max 1 (h.bn BK.LV_BRK_PERIOD)
  let p := brkPeriodNo h (lvFine now h)
  if p ≤ h.lv.brkReload then h else
  match h.lv.brkLoad with
  | some l => if l.at_ + 8 < p * per then
      h.modLv fun v => { v with brkC := l.c, brkEn := l.en, brkLoad := none, brkReload := p }
    else h.modLv fun v => { v with brkReload := p }
  | none => h.modLv fun v => { v with brkReload := p }

/-- BRKOUT before latches, fences and the loss of the clock act on it (R232, R245). -/
def brkCmd (now : Nat) (h : Half) : Bool :=
  let v := h.lv
  let run := h.glb.lv == .run || h.glb.lv == .test
  let mode := h.bn BK.LV_BRK_MODE
  !v.brkInhibit &&
  (if v.brkForce = 2 ∨ v.brkForce = 4 then true
   else if v.brkForce ≠ 0 then false
   else mode != 0 && (v.brkHw || (run && mode == 2 && brkSoft now h)))

/-- The software brake command is all that BRKOUT before protection follows (R245). -/
def brkSoftRules (h : Half) : Bool :=
  let v := h.lv
  (h.glb.lv == .run || h.glb.lv == .test) && h.bn BK.LV_BRK_MODE == 2 && !v.brkInhibit && v.brkForce == 0 && !v.brkHw

/-- C and enable of the software brake in period q of its counter, not before that of its last reload here (R246). -/
def brkIn (h : Half) (q : Int) : Nat × Bool :=
  let per := max 1 (h.bn BK.LV_BRK_PERIOD)
  match h.lv.brkLoad with
  | some l => if decide (h.lv.brkReload < q) && decide (l.at_ + 8 < q * per) then (l.c, l.en) else (h.lv.brkC, h.lv.brkEn)
  | none => (h.lv.brkC, h.lv.brkEn)

/-- The software brake command at a fine unit. -/
def brkSoftAt (h : Half) (f : Int) : Bool :=
  let (c, en) := brkIn h (brkPeriodNo h f)
  en && decide (f % (8 * max 1 (h.bn BK.LV_BRK_PERIOD)) < (c : Int))

/-- The last edge of the software brake command after the instant `brkAt` and not after now: it lies at a reload or at C of
this period, of the one before it, or of those about the load that has come. -/
def brkSoftEdge (now : Nat) (h : Half) : Option Nat :=
  let f := lvFine now h
  let per : Int := max 1 (h.bn BK.LV_BRK_PERIOD)
  let p := brkPeriodNo h f
  let p0 := match h.lv.brkLoad with
    | some l => max (h.lv.brkReload + 1) ((l.at_ + 8) / per + 1)
    | none => p
  let sub := ((sinceEpoch32 now h % (5 * 2 ^ 28)).toNat * 80) / 2 ^ 32
  let at_ (t : Int) : Nat := now - (tFine (f - t).toNat + sub)
  let ts := [p, p - 1, p0, p0 - 1].flatMap fun q => [q * per * 8, q * per * 8 + ((brkIn h q).1 : Int)]
  let es := ts.filter fun t => decide (t ≤ f ∧ h.lv.brkAt < at_ t) && brkSoftAt h t != brkSoftAt h (t - 1)
  es.foldl (fun e t => some (max (e.getD 0) (at_ t))) none

/-- The last change of BRKOUT before protection (R236, LINK 12). -/
def brkEdgeNow (now : Nat) (h : Half) : Nat :=
  if h.lv.brkBySoft then (brkSoftEdge now h).getD h.lv.brkEdge else h.lv.brkEdge

/-- BRKOUT as this half computes it (R245, R248, R249). -/
def brkWant (now : Nat) (h : Half) : Bool :=
  !(tripHeld h 12 || pairFenced h 12 || h.lv.clkSafe) && brkCmd now h

/-- BRKOUT at the present instant, with its edges so far. -/
def brkRefresh (now : Nat) (h : Half) : Half :=
  let edge := brkEdgeNow now h
  let was := if h.lv.brkBySoft then brkSoftAt h (lvFine now h) else h.lv.brkRaw
  let h := brkTake now h
  let raw := brkCmd now h
  let on := brkWant now h
  let soft := brkSoftRules h
  h.modLv fun v => { v with
    brkOn := on, brkRaw := raw, brkEdge := if raw = was then edge else now, brkAt := now, brkBySoft := soft }

/-- Every output at the present instant. -/
def lvRefresh (now : Nat) (h : Half) : Half :=
  brkRefresh now ((List.range 12).foldl (fun h n => pairRefresh now n h) h)

/-- A channel's calibrated word in channel units (R143). -/
def chUnits (h : Half) (n : Nat) (w : Int) : F32 := F32.mul (F32.ofInt w) (h.bw (BK.OX_AIN_SCALE n))

/-- Seconds between two words of a channel: decim × 50 ns. -/
def wordDt (h : Half) (n : Nat) : F32 := F32.mul (F32.ofNat (h.bn (BK.AN_CH_DECIM n))) (F32.ofRat 5 100000000)

/-- nosense begins or ends (R247). -/
def setNosense (cx : Cx) (b : Bool) (h : Half) : Half :=
  let was := h.lv.brkNosense
  let h := h.modLv fun v => { v with brkNosense := b, brkHw := v.brkHw && !b }
  raiseIf (b && !was) cx 0x7D 1 0 h

/-- R244 at a word y of channel n. (DEDUCED, log entry 85.) -/
def brakeWord (cx : Cx) (n : Nat) (y : Int) (h : Half) : Half :=
  if n ≠ h.bn BK.LV_BRK_CH then h else
  let h := brkRefresh cx.now h
  let x := chUnits h n y
  let h := setNosense cx (h.sd.adcFence.getLsbD n || unsettledNow h n || !anEn h n) h
  let h := if h.lv.brkNosense then h
    else if F32.gt x (h.bw BK.LV_BRK_V_ON) then h.modLv fun v => { v with brkHw := true }
    else if F32.lt x (h.bw BK.LV_BRK_V_OFF) then h.modLv fun v => { v with brkHw := false }
    else h
  let h := brkRefresh cx.now h
  let ic := h.bn BK.LV_BRK_ICH
  let i := if ic = 31 then F32.div x (h.bw BK.LV_BRK_R) else chUnits h ic (lastWord h ic)
  let dt := wordDt h n
  let a := if h.lv.brkOn then F32.add h.lv.brkAcc (F32.mul (F32.mul i i) dt) else h.lv.brkAcc
  let c := h.bw BK.LV_BRK_I_CONT
  let a := F32.max (F32.sub a (F32.mul (F32.mul c c) dt)) F32.zero
  let mx := h.bw BK.LV_BRK_I2T_MAX
  let was := h.lv.brkInhibit
  let inh := if F32.ge a mx then true else if F32.le a (F32.mul F32.half mx) then false else was
  let h := h.modLv fun v => { v with brkAcc := a, brkInhibit := inh }
  brkRefresh cx.now (raiseIf (inh && !was) cx 0x7D 0 0 h)

/-- A brake in use whose channel gives no words has no sense (DEDUCED, log entry 30). -/
def brakeT0 (cx : Cx) (h : Half) : Half :=
  let n := h.bn BK.LV_BRK_CH
  if h.bn BK.LV_BRK_MODE != 0 && (n == 31 || !anEn h n) then setNosense cx true h else h

/-- The words of the cycle and the brake's use of them. -/
def anWordsSendF (bits : List (List Bool)) (ovl : BitVec 24) (cx : Cx) (h : Half) : Half :=
  let sent := h.an.wordsSent
  let h := anWordsSendCore bits ovl cx h
  let n := h.bn BK.LV_BRK_CH
  if !sent && h.an.wordsSent && anEn h n && n != 31 then brakeWord cx n (lastWord h n) h else h

def anWordF (n : Nat) (bits : List Bool) (ovl : Bool) (cx : Cx) (h : Half) : Half :=
  let ok := anaUp h && h.glb.dev.inService && h.glb.started && anEn h n
  let h := anWordCore n bits ovl cx h
  if ok then brakeWord cx n (lastWord h n) h else h

/-! ### Short pulses and bootstrap refresh (R226 to R228) -/

/-- An interval of c″: start, level, least length. -/
structure Seg where
  at_ : Int
  lvl : Bool
  len : Nat

/-- c″ as it is formed interval by interval: the level and the start of the last one, its least length, the edges so far,
and the bootstrap count. -/
structure Gen where
  at_ : Int
  lvl : Bool
  len : Nat
  bs : Nat
  es : List (Int × Bool)

/-- The next interval of c″. One of the present level makes no edge, and none comes before the interval under way has
lasted its least length (R227). A gap that ends is counted by the time for which L was on in it, and one that would bring
the count to BS_N lasts on until L has been on for BS_TMIN (R228; DEDUCED, log entry 128). -/
def Gen.put (q : PairPar) (s : Seg) (g : Gen) : Gen :=
  if s.lvl = g.lvl then { g with len := max g.len s.len }
  else
    let t := max s.at_ (g.at_ + g.len)
    let low := !g.lvl && decide (t - g.at_ < (q.dt + q.bsTmin : Nat))
    let due := q.bsN != 0 && low && decide (q.bsN ≤ g.bs + 1)
    let t := if due then g.at_ + (q.dt + q.bsTmin : Nat) else t
    let bs := if g.lvl then g.bs else if q.bsN = 0 ∨ !low ∨ due then 0 else g.bs + 1
    { at_ := t, lvl := s.lvl, len := s.len, bs := bs, es := g.es ++ [(t, s.lvl)] }

/-- A period whose own gap is not produced counts as a gap, unless a refresh takes its place (R228). -/
def Gen.noGap (q : PairPar) (g : Gen) : Gen := { g with bs := if q.bsN = 0 then 0 else g.bs + 1 }

/-- A gap whose projected width leaves L on for less than BS_TMIN and would bring the count to BS_N: the refresh gap. -/
def Gen.due (q : PairPar) (w : Nat) (g : Gen) : Bool :=
  q.bsN != 0 && !(decide (q.dt + q.bsTmin ≤ w) && decide (0 < w)) && decide (q.bsN ≤ g.bs + 1)

/-- The period of a counter that begins with the reload at fine unit f0, as R218 and R226 to R228 form it: the mode,
PERIOD, C, the level of c′ up to the reload, and whether the interval under way there is one that DROP does not produce. -/
structure Period where
  centre : Bool
  P : Nat
  f0 : Int
  c : Nat
  before : Bool
  drop : Bool

/-- c″ of a period, the number of short pulses and gaps handled in it, and whether the interval under way at its end is
one that DROP does not produce. (DEDUCED, log entry 128.) -/
def Gen.period (w : Period) (q : PairPar) (g : Gen) : Gen × Nat × Bool :=
  let m := q.dt + q.minp
  let r := q.dt + q.bsTmin
  let short (x : Nat) : Bool := decide (0 < x ∧ x < m)
  let treat (x : Nat) : Nat := if short x then (if q.stretch then m else 0) else x
  -- the interval about the valley, or the first of the period, has width wa and level la, the other width wb
  let la := !q.invert
  let wa := if w.centre then 2 * w.c else w.c
  let wb := if w.centre then 16 * w.P - 2 * w.c else 8 * w.P - w.c
  let f1 : Int := w.f0 + (if w.centre then 16 * w.P else 8 * w.P : Nat)
  let v : Int := w.f0 + (8 * w.P : Nat)
  -- an interval about the peak that this reload begins; a first interval that runs on across it; one that goes on
  -- through the whole period
  let atPeak := w.centre && w.before == la && decide (w.c < 8 * w.P)
  let runsOn := !w.centre && w.before == la && decide (0 < w.c)
  let through := w.c == 0 && w.before != la
  let sa := short wa && !runsOn
  let g := if atPeak && !(short wb && !q.stretch) then Gen.put q ⟨w.f0, !la, m⟩ g else g
  -- the first
  let ea := if runsOn && w.drop then 0 else if sa then treat wa else wa
  let isGap := q.invert && !runsOn && !(through && w.drop)
  let refA := isGap && g.due q ea
  let g := if isGap && ea == 0 && !refA then g.noGap q else g
  let ea := if refA then r else ea
  let wideA := refA || ea != wa
  let from_ : Int := if w.centre then (if wideA && ea != 0 then v - (ea / 2 : Nat) else v - w.c) else w.f0
  let fin : Int := if ea = 0 then from_ else if wideA then from_ + ea else from_ + wa
  let g := if ea = 0 then g else Gen.put q ⟨from_, la, if refA then max m r else m⟩ g
  let fin : Int := if runsOn && w.drop then w.f0 + w.c else fin
  -- the second
  let eb := if through && w.drop then 0 else treat wb
  let isGap := !q.invert && !(through && !w.drop)
  let refB := isGap && g.due q eb
  let g := if isGap && eb == 0 && !refB then g.noGap q else g
  let eb := if refB then r else eb
  let start : Int := if refB || eb != wb then (if w.centre then f1 - (eb / 2 : Nat) else f1 - eb) else fin
  let g := if eb = 0 || (through && !w.drop && !refA) then g else Gen.put q ⟨start, !la, if refB then max m r else m⟩ g
  let drop := !refB && (if wb = 0 then runsOn && w.drop else if through then w.drop else short wb && !q.stretch)
  (g, b2n sa + b2n (short wb) + b2n (atPeak && short wb), drop)

/-- The level of c′ up to a reload, from C and INVERT until then (R218). -/
def levelBefore (per : Nat) (old : Pair) : Bool := (old.c == 8 * per) != old.par.invert

/-- A reload of pair n at counter edge `jr` with what is loaded there. -/
def reloadEdges (n : Nat) (jr : Int) (old : Pair) (h : Half) : Half :=
  let p := pairOf h n
  let per := pairPeriod h n
  let (at_, lvl) := match p.edges.getLast? with
    | some e => e
    | none => (p.cppAt, p.cpp)
  let (g, sh, drop) := Gen.period ⟨pairMode h n == 1, per, 8 * jr, p.c, levelBefore per old, p.drop⟩ p.par
    ⟨at_, lvl, p.cppMin, p.bsCount, []⟩
  let h := h.modPair n fun p => { p with edges := p.edges ++ g.es, cppMin := g.len, bsCount := g.bs % 256, drop := drop }
  h.put (RG.LV_PAIR_SHORT n) (sat32 (h.reg (RG.LV_PAIR_SHORT n)) sh)

/-! ### Reload and command edges (R221 to R233) -/

/-- The commands of pair n change at every edge that has come. -/
def takeEdges (fine : Int) (n : Nat) (h : Half) : Half :=
  h.modPair n fun p =>
    let due := p.edges.filter fun e => decide (e.1 ≤ fine)
    match due.getLast? with
    | some e => { p with cpp := e.2, cppAt := e.1, edges := p.edges.filter fun e => !decide (e.1 ≤ fine) }
    | none => p

/-- A load that has waited becomes deferred (R221). -/
def newlyDeferred (old rest : Option PLoad) : Bool :=
  match old, rest with
  | some l, some r => r.deferred && !l.deferred
  | _, _ => false

/-- A pair reaches its reload: the last load presented in time takes effect (R221 to R223), a pair that is to be
started or stopped is (R233). (DEDUCED, log entry 84.) -/
def reloadF (n : Nat) (cx : Cx) (h : Half) : Half :=
  let fine := lvFine cx.now h
  let no := periodNo h n fine
  let old := pairOf h n
  gate (h.glb.dev.inService && (pairMode h n == 1 || pairMode h n == 2) && decide (old.lastReload < no))
    (fun h =>
    let h := takeEdges fine n h
    let jr := no * pairF h n - h.bn (BK.LV_PAIR_PHASE n)
    let timely (l : PLoad) : Bool := decide (l.at_ + 8 < jr)
    let late (l : PLoad) : Bool := decide (l.at_ ≤ jr) && !timely l
    let start := old.startLoad.filter fun l => decide (l.at_ ≤ jr)
    let take := match old.load with
      | some l => if timely l then some l else start
      | none => start
    let rest := match old.load with
      | some l => if timely l || (start.map (·.at_)) == some l.at_ then none
          else some { l with deferred := l.deferred || late l }
      | none => none
    let h := if newlyDeferred old.load rest then h.count (RG.LV_PAIR_DEFER n) else h
    let h := h.modPair n fun p => { p with
      lastReload := no, load := rest, forceLeave := false
      started := (p.started || start.isSome) && !((p.stopAt.map fun j => decide (j ≤ jr)).getD false)
      startLoad := if start.isSome then none else p.startLoad
      stopAt := p.stopAt.filter fun j => !decide (j ≤ jr)
      c := (take.map (·.c)).getD p.c, en := (take.map (·.en)).getD p.en, par := (take.map (·.par)).getD p.par }
    let h := takeEdges fine n (reloadEdges n jr old h)
    brkRefresh cx.now (pairRefresh cx.now n h)) h

/-- A pair's command changes (R218, R225). -/
def commandEdgeF (n : Nat) (cx : Cx) (h : Half) : Half :=
  gate h.glb.dev.inService
    (fun h => brkRefresh cx.now (pairRefresh cx.now n (takeEdges (lvFine cx.now h) n h))) h

/-- Every pair that STOP was to stop has stopped (R233). -/
def pairsStopped (h : Half) : Bool :=
  !h.lv.stopNow && (List.range 12).all fun n => pairMode h n == 0 || ((pairOf h n).stopAt.isNone && !(pairOf h n).started)

/-! ### The apply instant (R13, R220, R229) -/

/-- A force acts on output n (R229). -/
def setForce (now n mode width : Nat) (h : Half) : Half :=
  let fin := if mode = 4 then some (fineUp now h now + tFine width) else none
  if n = 12 then h.modLv fun v => { v with brkForce := mode, brkForceEnd := fin }
  else h.modPair n fun p => { p with
    force := mode, forceEnd := fin, forceLeave := mode == 0 && (p.force != 0 || p.forceLeave) && pairMode h n != 0 }

def applyInstantF (cx : Cx) (h : Half) : Half :=
  gate (h.glb.dev.inService && h.glb.started && !h.glb.applied && decide (h.glb.t0 + tNs h.glb.ta ≤ cx.now)) (fun h =>
    let j := lvEdgeAt cx.now h
    let v := h.lv
    let h := (List.range 12).foldl (fun h n =>
      let p := pairOf h n
      let on := pairMode h n != 0
      -- presented at a reload edge that is past: deferred (R222, R223)
      let late := on && p.lastReload * pairF h n - h.bn (BK.LV_PAIR_PHASE n) == j && !v.starting
      let l := { mkLoad h n j with deferred := late }
      let h := if late then h.count (RG.LV_PAIR_DEFER n) else h
      h.modPair n fun p => { p with
        load := some l
        startLoad := if v.starting && on then some l else p.startLoad
        stopAt := if v.stopNow && on then some j else p.stopAt }) h
    let h := brkTake cx.now h
    let h := h.modLv fun v => { v with
      brkLoad := some ⟨dutyC (v.refs.getD 24 F32.zero) (h.bn BK.LV_BRK_PERIOD), cond (v.refs.getD 25 F32.zero), default, j, false⟩
      starting := false, stopNow := false, forceCmds := [] }
    let h := v.forceCmds.foldl (fun h (q : Nat × Nat × Nat) =>
      let (mask, mode, width) := q
      (List.range 13).foldl (fun h n => if mask / 2 ^ n % 2 = 1 then setForce cx.now n mode width h else h) h) h
    lvRefresh cx.now (h.modGlb fun g => { g with applied := true })) h

/-- A PULSE force ends: what holds from then on is the force BOTH_OFF (off for BRKOUT), and FORCE reads 1 (R229, R256; DESIGN
CHOICE, log entry 133). -/
def forcePulseEndF (n : Nat) (cx : Cx) (h : Half) : Half :=
  let due (f : Nat) (e : Option Nat) : Bool := f == 4 && (e.map fun t => decide (t ≤ cx.now)).getD false
  if n = 12 then
    gate (due h.lv.brkForce h.lv.brkForceEnd)
      (fun h => brkRefresh cx.now (h.modLv fun v => { v with brkForce := 1, brkForceEnd := none })) h
  else
    gate (due (pairOf h n).force (pairOf h n).forceEnd)
      (fun h => pairRefresh cx.now n (h.modPair n fun p => { p with force := 1, forceEnd := none })) h

/-! ### Stage states (R231 to R234) -/

/-- Every force is removed (R231). -/
def clearForces (h : Half) : Half :=
  h.modLv fun v => { v with
    brkForce := 0, brkForceEnd := none, forceCmds := []
    pairs := v.pairs.map fun p => { p with force := 0, forceEnd := none, forceLeave := false } }

/-- The LV stage changes state at T0. -/
def lvEnter (now : Nat) (s : Stage) (h : Half) : Half :=
  let h := h.modGlb fun g => { g with lv := s }
  let h := if s = .precharge ∨ s = .run ∨ s = .tripped then clearForces h else h
  let h := if s = .precharge then
      h.modLv fun v => { v with preAt := now, preCount := 0, preRaised := false, preDone := false } else h
  let go := s == .run || s == .test
  let h := h.modLv fun v => { v with
    starting := go, stopNow := false, stopping := false
    pairs := v.pairs.map fun p => { p with started := false, startLoad := none, stopAt := none } }
  lvRefresh now h

/-- STOP in RUN or TEST: the pairs turn off at their reloads (R233). -/
def lvStop (h : Half) : Half := h.modLv fun v => { v with stopNow := true, stopping := true, starting := false }

/-- The edges still to come of the period under way at fine unit f, from the compare value in force: c follows the
count at once, under R227 (R217, R218). (DEDUCED, log entry 87.) -/
def restEdges (h : Half) (n : Nat) (f : Int) : List (Int × Bool) × Nat × Bool :=
  let p := pairOf h n
  if pairMode h n ≠ 1 ∧ pairMode h n ≠ 2 then ([], p.cppMin, p.drop) else
  let f0 := 8 * (periodNo h n f * pairF h n - h.bn (BK.LV_PAIR_PHASE n))
  let q := { p.par with bsN := 0 }
  let m := q.dt + q.minp
  -- the whole period, begun at its reload
  let before := (pairMode h n == 1) != q.invert
  let (whole, _, drop) := Gen.period ⟨pairMode h n == 1, pairPeriod h n, f0, p.c, before, false⟩ q ⟨f0 - m, before, 0, 0, []⟩
  let lvl := ((whole.es.filter fun s => decide (s.1 ≤ f)).getLast?.map (·.2)).getD before
  let g := Gen.put q ⟨f, lvl, m⟩ ⟨p.cppAt, p.cpp, if p.edges.isEmpty then p.cppMin else m, 0, []⟩
  let g := (whole.es.filter fun s => decide (f < s.1)).foldl (fun g s => Gen.put q ⟨s.1, s.2, m⟩ g) g
  (g.es, g.len, drop)

/-- The counter of pair n is a new one (R217, R224): the reloads before this instant are past. -/
def newCounter (now n : Nat) (h : Half) : Half :=
  let f := lvFine now h
  let (es, len, drop) := restEdges h n f
  h.modPair n fun p => { p with lastReload := periodNo h n (f - 1), edges := es, cppMin := len, drop := drop }

/-- The same for the counter of the software brake. -/
def newBrake (now : Nat) (h : Half) : Half :=
  h.modLv fun v => { v with brkReload := brkPeriodNo h (lvFine now h - 1) }

/-- The epoch moves to e: every instant kept since the epoch moves against it, and every counter is a new one (R217). -/
def moveEpoch (now e : Nat) (h : Half) : Half :=
  let d : Int := (e : Int) - h.tb.epoch
  let j := d / (5 * 2 ^ 31)
  let f := d / (5 * 2 ^ 28)
  let mv (l : PLoad) : PLoad := { l with at_ := l.at_ - j }
  let h := (h.modTb fun t => { t with epoch := e, lag := 0 }).modLv fun v => { v with
    brkLoad := v.brkLoad.map mv
    pairs := v.pairs.map fun p => { p with
      load := p.load.map mv, startLoad := p.startLoad.map mv, stopAt := p.stopAt.map (· - j), cppAt := p.cppAt - f } }
  newBrake now ((List.range 12).foldl (fun h n => newCounter now n h) h)

/-- The bank of BOOT_COMPLETE sets what a load would set (R224). -/
def lvBoot (h : Half) : Half :=
  (List.range 12).foldl (fun h n => h.modPair n fun p => { p with par := pairPar h n }) h

/-- OX_VLV has been at or above PRE_VMIN in 16 consecutive snapshots: the stage enters RUN at the next T0. -/
def lvPrechargeCompleteF (_cx : Cx) (h : Half) : Half :=
  gate (h.glb.lv == .precharge && decide (16 ≤ h.lv.preCount)) (fun h => h.modLv fun v => { v with preDone := true }) h

def lvPrechargeTimeoutF (cx : Cx) (h : Half) : Half :=
  gate (h.glb.lv == .precharge && !h.lv.preDone && !h.lv.preRaised &&
      decide (h.lv.preAt + tMs (h.bn BK.LV_PRE_TMAX) ≤ cx.now))
    (fun h => raise cx 0x7F 0 0 (h.modLv fun v => { v with preRaised := true })) h

/-! ### Trip inputs (R235 to R240) -/

/-- The latest stage-6 edge of the pair that blanks input n, if it has come. -/
def linkEdge (now : Nat) (h : Half) (n : Nat) : Nat :=
  let k := h.bn (BK.LV_TRIP_LINK n)
  if k = 12 then brkEdgeNow now h
  else if k < 12 then
    let p := pairOf h k
    max p.edge1 (if p.edge2 ≤ now then p.edge2 else 0)
  else 0

/-- The end of the window that the latest edge opened; 0: none. -/
def blankEnd (now : Nat) (h : Half) (n : Nat) : Nat :=
  let e := linkEdge now h n
  if e = 0 then 0 else e + tNs (10 * h.bn (BK.LV_TRIP_BLANK n))

def isBlanked (now : Nat) (h : Half) (n : Nat) : Bool := decide (now < blankEnd now h n)

/-- The length of a trip or fault filter: so many counter clocks, or one clock of the 100 MHz RC fallback (R251). -/
def filtLen (h : Half) (off : Nat) : Nat := if h.lv.clkSafe then tNs 10 else tClk (h.bn off)

/-- A comparator against `code` at an input of `uv` µV: above code × 2.5 V / 1,024 it asserts, below that less 10 mV it
deasserts, between the two it stays (R235). -/
def asserts (code uv : Nat) (was : Bool) : Bool :=
  decide (code * 2500000 < uv * 1024) || (was && !decide ((uv + 10000) * 1024 < code * 2500000))

/-- A comparator of TRIPn follows its input. -/
def tripCompare (now n : Nat) (hard : Bool) (h : Half) : Half :=
  let code := h.bn (if hard then BK.LV_TRIP_HARD n else BK.LV_TRIP_SOFT n)
  h.modTrip n fun t =>
    let was := if hard then t.hardNow else t.softNow
    let is := asserts code t.uv was
    if is = was then t
    else if hard then { t with hardNow := is, hardAt := if is then now else t.hardAt, hardOff := if is then t.hardOff else now }
    else { t with softNow := is, softAt := if is then now else t.softAt, softOff := if is then t.softOff else now }

/-- An input of `uv` µV crosses or leaves a threshold. -/
def tripCrossingF (n : Nat) (hard : Bool) (uv : Nat) (cx : Cx) (h : Half) : Half :=
  tripCompare cx.now n hard (h.modTrip n fun t => { t with uv := uv })

/-- The thresholds have changed: every comparator compares anew. -/
def tripsCompare (now : Nat) (h : Half) : Half :=
  (List.range 16).foldl (fun h n => tripCompare now n true (tripCompare now n false h)) h

/-- A soft blanking window ends: an asserted soft comparator starts its filter count at that instant. -/
def blankEndF (n : Nat) (cx : Cx) (h : Half) : Half :=
  gate ((tripOf h n).softNow && !isBlanked cx.now h n && decide ((tripOf h n).softAt < blankEnd cx.now h n))
    (fun h => h.modTrip n fun t => { t with softAt := blankEnd cx.now h n }) h

/-- The filter of a comparator has expired. -/
def tripReady (now : Nat) (h : Half) (n : Nat) (hard : Bool) : Bool :=
  let t := tripOf h n
  if hard then h.bf (BK.LV_TRIP_HARD_EN n) && t.hardNow && !t.hardLatch &&
    decide (t.hardAt + filtLen h (BK.LV_TRIP_HFILT n) ≤ now)
  else h.bf (BK.LV_TRIP_SOFT_EN n) && t.softNow && !t.softLatch && !isBlanked now h n &&
    decide (max t.softAt (blankEnd now h n) + filtLen h (BK.LV_TRIP_SFILT n) ≤ now)

/-- A Gust whole-stage trip of the LV stage (R237, R238, R531). -/
def wholeTrip (cx : Cx) (h : Half) : Half :=
  let h := h.modSd fun s => { s with trips := s.trips ++ [⟨2, cx.now, true⟩] }
  h.tether cx.now (.relay (.trip false true true 0 (BitVec.ofNat 32 h.glb.cycle)))

/-- A latch of an input is set. -/
def latchOf (h : Half) (n : Nat) (hard : Bool) : Bool :=
  if hard then (tripOf h n).hardLatch else (tripOf h n).softLatch

/-- Latches, set within SC2_WIN of this instant, that stand for another leg than TRIPn's (R238). -/
def otherLegs (now : Nat) (h : Half) (n : Nat) : List (Nat × Bool) :=
  let leg := h.bn (BK.LV_TRIP_LEG n)
  if leg = 15 then [] else
  (List.range 16).flatMap fun m =>
    let t := tripOf h m
    let l := h.bn (BK.LV_TRIP_LEG m)
    let near (at_ : Nat) : Bool := decide (now ≤ at_ + tNs (10 * h.bn BK.LV_SC2_WIN))
    if m = n ∨ l = 15 ∨ l = leg then []
    else [(false, t.softLatch && near t.softLatchAt), (true, t.hardLatch && near t.hardLatchAt)].filterMap fun q =>
      if q.2 then some (m, q.1) else none

/-- A latch of TRIPn is set (R237, R238). (DEDUCED, log entry 86.) -/
def tripLatchF (n : Nat) (hard : Bool) (cx : Cx) (h : Half) : Half :=
  gate (tripReady cx.now h n hard) (fun h =>
    let first := !latched (tripOf h n)
    let bl := isBlanked cx.now h n
    let h := h.modTrip n fun t =>
      if hard then { t with hardLatch := true, hardLatchAt := cx.now, blanked := bl }
      else { t with softLatch := true, softLatchAt := cx.now }
    let h := h.putF (RG.LV_TRIP_ST n) 31 16 (min 0xFFFF (h.getF (RG.LV_TRIP_ST n) 31 16 + 1))
    let h := lvRefresh cx.now h
    let h := raise cx (0x60 + n) n (BitVec.ofNat 32 (b2n hard + 2 * b2n bl)) h
    let h := if first && h.bf (BK.LV_TRIP_WHOLE n) then wholeTrip cx h else h
    let h := if first then gustDecide cx (h.bn (BK.LV_TRIP_CLUSTER n)) false (some n) true h else h
    match otherLegs cx.now h n with
    | [] => h
    | ms =>
      let h := h.modLv fun v => { v with twoLeg := v.twoLeg ++ ms.map fun m => (n, hard, m.1, m.2) }
      wholeTrip cx (raise cx 0x7C 0 0 (lvRefresh cx.now h))) h

/-- A trip latch is released after 10 µs quiet in a permitting state (R240). -/
def tripReleaseF (n : Nat) (hard : Bool) (cx : Cx) (h : Half) : Half :=
  let t := tripOf h n
  let quiet := if hard then t.hardLatch && !t.hardNow && decide (t.hardOff + tUs 10 ≤ cx.now)
    else t.softLatch && !t.softNow && decide (t.softOff + tUs 10 ≤ cx.now)
  gate (quiet && (h.glb.lv == .stopped || h.glb.lv == .test || h.glb.lv == .recovery)) (fun h =>
    let h := h.modTrip n fun t => if hard then { t with hardLatch := false, blanked := false } else { t with softLatch := false }
    lvRefresh cx.now (h.modLv fun v => { v with
      twoLeg := v.twoLeg.filter fun q => latchOf h q.1 q.2.1 || latchOf h q.2.2.1 q.2.2.2 })) h

/-! ### Gate-driver faults (R241, R242) -/

/-- FLTn_N has been low since `since`, for the length of its filter: the fault latch is set (R241). -/
def fltLatchF (n since : Nat) (cx : Cx) (h : Half) : Half :=
  gate (h.glb.dev != .lullOnly && decide (since + filtLen h (BK.LV_FLT_FILT n) ≤ cx.now)) (fun h =>
    let was := (pairOf h n).flt
    let h := h.modPair n fun p => { p with fltIn := true }
    if h.bf (BK.LV_FLT_EN n) then
      let h := pairRefresh cx.now n (h.modPair n fun p => { p with flt := true })
      raiseIf (!was) cx (0x70 + n) n 0 h
    else h) h

/-- FLTn_N has been high since `since`, for the length of its filter: the latch may be released at the next edge. -/
def fltDeassertF (n since : Nat) (cx : Cx) (h : Half) : Half :=
  gate (decide (since + filtLen h (BK.LV_FLT_FILT n) ≤ cx.now)) (fun h => h.modPair n fun p => { p with fltIn := false }) h

/-- Every trip and fault latch of the LV stage is released (R33). -/
def lvLatchFree (h : Half) : Bool :=
  (List.range 16).all (fun n => !latched (tripOf h n)) && (List.range 12).all fun n => !(pairOf h n).flt

/-! ### Clocks and ownership (R250, R251) -/

/-- The PWM clock is lost, or confirmed again; `v` is the VALUE of R364. -/
def lvClock (cx : Cx) (lost : Bool) (v : Nat) (h : Half) : Half :=
  let was := h.lv.clkSafe
  let h := lvRefresh cx.now (h.modLv fun v => { v with clkSafe := lost })
  raiseIf (lost && !was) cx 0x7E 0 (BitVec.ofNat 32 v) h

/-- This half gains the balls (R250). -/
def gainBalls (now : Nat) (h : Half) : Half :=
  let h := (h.modGlb fun g => { g with own := true }).modTh fun t => { t with ownAt := now }
  lvRefresh now (h.modLv fun v => { v with pairs := v.pairs.map fun p => { p with waitOwn := true } })

end Sys2Proof.Machine
end

