-- ==== Sys2Proof/Machine/Timebase.lean ====
section
/-! DEFINITION. The timebase: alignment of the halves, discipline, the servo, and steps
(11_clocks_timebase.md, R366 to R380; 12_station_network.md, R390, R391). -/
namespace Sys2Proof.Machine

/-- A number of ns, saturated to 32 bits signed, from units of 2⁻¹⁶ ns. -/
def satNs (x : Int) : Word := BitVec.ofInt 32 (clampI (divEven x 65536) (-2147483648) 2147483647)

/-- Both stages are STOPPED. -/
def bothStopped (h : Half) : Bool := h.glb.mv == .stopped && h.glb.lv == .stopped

/-! ### Alignment of the halves (R371, R372) -/

/-- A whole number of 8 µs intervals of the timebase has passed since the last one sent. -/
def timeAlignSendF (cx : Cx) (h : Half) : Half :=
  gate (h.glb.dev != .lullOnly && decide (h.tb.alignSent < h.ns / 8000)) (fun h =>
    let (t2, t3, t4) := h.tb.lastRx.getD (0, 0, 0)
    (h.tether cx.now (.timeAlign (h.ns * 65536) t2 t3 t4 h.adj)).modTb fun t => { t with alignSent := h.ns / 8000 }) h

/-- The offset of this half from the other: t1 and t4 are the other half's times, t2 and t3 this half's
(DEDUCED, log entry 34). -/
def alignTheta (t1 t2 t3 t4 : Int) : Int := ((t2 - t1) - (t4 - t3)) / 2 - Config.kAsym * 65536 / 10

/-- A frequency term in ppb (R391). -/
def adjPpb (a : Int) : F32 := F32.ofRat (a * 1000000000) (4 * 2 ^ 32)

/-- t is stepped by Δ units of 2⁻³² ns; the schedule keeps its instants. (DEDUCED, log entry 95.) -/
def stepTime (d : Int) (t : Nat) : Nat := ((t : Int) + d).toNat

/-- A step moves the time, not the rhythm of HEARTBEAT and TIME_ALIGN (R370, R371). -/
def sendsAnew (h : Half) : Half :=
  (h.modTb fun t => { t with alignSent := h.ns / 8000 }).modTh fun t => { t with hbSent := h.ns / 1000 }

/-- R372 for a half that follows the ACTIVE half. -/
def followActive (cx : Cx) (theta adj : Int) (h : Half) : Half :=
  let far := decide (100 * 65536 < theta.natAbs)
  if (h.glb.role = .off ∨ h.glb.role = .syncing) ∧ far then
    let d := -theta * 65536
    (sendsAnew (h.modTb fun t => { t with now := stepTime d t.now, epoch := stepTime d t.epoch })).modGlb fun g =>
      { g with nextT0 := stepTime d g.nextT0 }
  else
    let n := if 98304 < theta.natAbs then h.tb.alignCnt + 1 else 0
    let h := h.modTb fun t => { t with
      freq := adj, align := clampI (-theta * 64) (-858993) 858993, int := adjPpb adj, alignCnt := if n = 16 then 0 else n }
    raiseIf (n == 16 && h.glb.role == .standby) cx 0xB7 0 0 h

/-- A TIME_ALIGN arrives; times are in units of 2⁻¹⁶ ns. -/
def timeAlignF (t1 t2 t3 t4 adj : Int) (cx : Cx) (h : Half) : Half :=
  gate (h.glb.dev != .lullOnly) (fun h =>
    let theta := alignTheta t1 t2 t3 t4
    -- this half's own message gives back when its last one arrived, and when this one left and arrived
    let h := h.modTb fun t => { t with offAlign := theta, alignAt := some cx.now, lastRx := some (t4, t1, h.tb.now / 65536) }
    if h.th.oRole = .active ∧ h.glb.role ≠ .active ∧ !h.tb.fallback then followActive cx theta adj h else h) h

/-! ### Steps (R376, R377) -/

/-- The step Δ (ns) is scheduled for the first T0 at least 200 µs after T0 of cycle n. -/
def scheduleStep (n : Nat) (d : Int) (h : Half) : Half :=
  (allTimeSets h).modTb fun t => { t with
    step := some (n + ceilDiv 50000 (h.bn BK.CYCLE_TC_TICKS), d), slewLeft := 0, slew := 0 }

/-- x of R377 in units of 2⁻³² ns. -/
def stepX (h : Half) (d : Int) : Nat := ((-d * 2 ^ 32) % (h.tc : Int)).toNat

/-- At T0 of K: Δ is added, and the next T0 falls on the grid. The counters keep the old phase until then. -/
def stepT0 (h : Half) : Half :=
  match h.tb.step with
  | some (k, d) =>
    if k ≠ h.glb.cycle then h else
    let x := stepX h d
    let dd := d * 2 ^ 32
    let h := h.modTb fun t => { t with
      now := stepTime dd t.now, epoch := stepTime dd t.epoch, step := none, rephase := some x, rem := 0, prev := none }
    let h := sendsAnew h
    h.modGlb fun g => { g with nextT0 := stepTime dd g.nextT0 + x }
  | none => h

/-- At T0 of K + 1: markers, counters and modulators take the moved epoch. -/
def rephaseT0 (now : Nat) (h : Half) : Half :=
  match h.tb.rephase with
  | none => h
  | some x =>
    moveEpoch now (h.tb.epoch + x) (h.modTb fun t => { t with rephase := none })

/-! ### The servo (R390) -/

/-- 2³⁰, 10⁹ and 1,000 as binary32. -/
def f2p30 : F32 := 0x4E800000#32
def f1e9 : F32 := 0x4E6E6B28#32

/-- freq_term = round(y × 4 × 2³² / 10⁹). -/
def freqTerm (y : F32) : Int := F32.toIntEven (F32.div (F32.mul (F32.mul (F32.mul y 0x40800000#32) f2p30) 0x40800000#32) f1e9)

/-- The slew term in ppb while it acts. -/
def slewPpb (h : Half) : F32 := if h.tb.slewLeft = 0 then F32.zero else adjPpb h.tb.slew

/-- One update with offset θ in LOCKED or SLEWING. Every half runs it; only the ACTIVE half's output is used (R391; DEDUCED, log
entry 96). -/
def servo (theta : Int) (h : Half) : Half :=
  let t := h.tb
  match t.prev with
  | none => h.modTb fun t => { t with prev := some theta, offAt := h.ns }
  | some prev =>
    let fmax := F32.ofNat (1000 * h.bn BK.PTP_FMAX_PPM)
    let dt := F32.ofRat ((h.ns : Int) - t.offAt) 1000000000
    let th := F32.ofRat theta 65536
    let cl := fun v => F32.clamp v (F32.neg fmax) fmax
    let (i, y) :=
      if t.st = 1 then
        let i := cl (F32.add t.int (F32.mul (F32.mul (h.bw BK.PTP_KI) th) dt))
        (i, cl (F32.add (F32.mul (h.bw BK.PTP_KP) th) i))
      else
        let e := F32.sub (F32.div (F32.neg (F32.sub th (F32.ofRat prev 65536))) dt) (slewPpb h)
        let i := cl (F32.sub t.int (F32.mul (h.bw BK.PTP_FGAIN) e))
        (i, i)
    h.modTb fun t => { t with
      int := i, y := y, freq := if h.glb.role = .active then freqTerm y else t.freq, prev := some theta, offAt := h.ns }

/-! ### Discipline (R374, R375) -/

/-- The slew term for what remains, and the ticks that it takes (R375). -/
def setSlew (theta : Int) (h : Half) : Half :=
  let mag := divEven ((h.bn BK.TB_SLEW_PPM : Int) * 4 * 2 ^ 32) 1000000
  let s := if theta < 0 then -mag else if theta = 0 then 0 else mag
  h.modTb fun t => { t with
    rem := theta, slew := s, slewLeft := if s = 0 ∨ t.step.isSome then 0 else ceilDiv (theta.natAbs * 65536) s.natAbs }

/-- Entry to SLEWING with offset θ: a jump beyond TB.JUMP_NS is reported. -/
def jump (cx : Cx) (theta : Int) (h : Half) : Half :=
  raiseIf (decide (h.bn BK.TB_JUMP_NS * 65536 < theta.natAbs)) cx 0xB8 0 (satNs theta) h

/-- SLEWING ends when less than 1 ns remains. -/
def slewDone (h : Half) : Half :=
  if h.tb.st = 3 ∧ !h.tb.slewNew ∧ h.tb.rem.natAbs < 65536 ∧ h.tb.step.isNone then
    h.modTb fun t => { t with st := 1, slew := 0, slewLeft := 0 }
  else h

/-- A first lock before cycle 0: the time is stepped at once, and cycle 0 begins at the first whole second after it
(R25; DESIGN CHOICE, log entry 95). -/
def stepEarly (now : Nat) (d : Int) (h : Half) : Half :=
  let h := sendsAnew (h.modTb fun t => { t with now := stepTime d t.now, epoch := stepTime d t.epoch })
  if !h.glb.dev.inService then h else
  let e := (h.tb.now / (1000000000 * 2 ^ 32) + 1) * (1000000000 * 2 ^ 32)
  markersAnew now (moveEpoch now e (allTimeSets (h.modGlb fun g => { g with nextT0 := e })))

/-- An offset used in SLEWING. -/
def track (act : Bool) (theta : Int) (h : Half) : Half :=
  let h := servo theta h
  if act then setSlew theta h else h.modTb fun t => { t with rem := theta }

/-- An offset θ (reference minus timebase) of the discipline source is used. Only the ACTIVE half steps and slews; a half that
is not ACTIVE follows the states, and its servo's output is not used (R391). -/
def useOffset (cx : Cx) (theta : Int) (h : Half) : Half :=
  let act := h.glb.role == .active
  let h := h.modTb fun t => { t with theta := theta }
  match h.tb.st with
  | 0 =>
    if bothStopped h then
      let h := h.modTb fun t => { t with st := 1, prev := none, rem := 0 }
      if !act then h
      else if h.glb.started then
        let h := scheduleStep (h.glb.cycle + 1) (divEven theta 65536) h
        match h.tb.step with
        | some (k, d) => h.tether cx.now (.relay (.timeStep k d))
        | none => h
      else stepEarly cx.now (divEven theta 65536 * 2 ^ 32) h
    else
      let h := jump cx theta (h.modTb fun t => { t with st := 3, slewNew := false, prev := none })
      track act theta h
  | 1 => servo theta h
  | 2 =>
    let h := jump cx theta (h.modTb fun t => { t with st := 3, slewNew := false })
    track act theta h
  | _ =>
    let new := h.tb.slewNew
    let h := h.modTb fun t => { t with slewNew := false }
    let h := if new then jump cx theta h else h
    slewDone (track act theta h)

/-- The source is lost (R374): LOCKED goes to HOLDOVER. `sync` is the smpSynch in force (R397). -/
def toHoldover (cx : Cx) (src sync : Nat) (h : Half) : Half :=
  if h.tb.st = 1 then
    raise cx 0xB9 0 (BitVec.ofNat 32 src) (h.modTb fun t => { t with st := 2, holdAt := cx.now, holdSync := sync })
  else h

/-- TB.DISC and TB.FORMAT as a commit leaves them (R368, R374). -/
def discT0 (h : Half) : Half :=
  let d := h.bn BK.TB_DISC
  let h := h.modTb fun t => { t with cal := h.bf BK.TB_FORMAT }
  if d = h.tb.disc then h
  else if d = 0 then h.modTb fun t => { t with disc := 0, st := 0, slew := 0, slewLeft := 0, slewNew := false }
  else h.modTb fun t => { t with
    disc := d, slewNew := t.st != 0, st := if t.st = 0 then 0 else 3, slew := 0, slewLeft := 0 }

/-! ### REFIN_PPS -/

/-- θ of an edge at t_c (ns): the whole second nearest t_c − TB.PPS_OFS, plus that delay, less t_c. -/
def ppsTheta (h : Half) : Int :=
  let o := h.bi BK.TB_PPS_OFS
  let tc : Int := h.ns
  let s := (tc - o + 500000000) / 1000000000
  s * 1000000000 + o - tc

/-- An edge of REFIN_PPS of the kind that TB.PPS_EDGE names (R378): in LOCKED one beyond ±100 µs gives no offset. -/
def ppsEdgeF (rising : Bool) (cx : Cx) (h : Half) : Half :=
  gate (h.glb.dev.inService && h.tb.disc == 2 && rising != h.bf BK.TB_PPS_EDGE) (fun h =>
    let th := ppsTheta h
    let near := decide (th.natAbs ≤ 100000)
    if h.tb.st = 1 ∧ !near then h else useOffset cx (th * 65536) (h.modTb fun t => { t with ppsAt := cx.now })) h

/-- TB.PPS_MISS seconds without an edge in its place. -/
def ppsMissF (cx : Cx) (h : Half) : Half :=
  gate (h.tb.disc == 2 && h.tb.st == 1 && decide (h.tb.ppsAt + tSec (h.bn BK.TB_PPS_MISS) + tUs 100 ≤ cx.now))
    (toHoldover cx 2 1) h

/-! ### Latching reads (R40, R380) -/

/-- A read of TB_NOW_LO latches the bits above. -/
def tbNowLoF (_cx : Cx) (h : Half) : Half :=
  gate (h.glb.dev != .lullOnly) (fun h => h.modTb fun t => { t with
    hi := (h.stamp >>> 32).setWidth 32
    secHi := if t.cal then BitVec.ofNat 32 (h.ns / 1000000000 / 2 ^ 34 % 2 ^ 14) else 0 }) h

/-- A read of GLB_CYCLE_LO latches the bits above. -/
def glbCycleLoF (_cx : Cx) (h : Half) : Half :=
  gate (h.glb.dev != .lullOnly) (fun h => h.modGlb fun g => { g with cycHi := BitVec.ofNat 32 (g.cycle / 2 ^ 32) }) h

end Sys2Proof.Machine
end

