-- ==== Sys2Proof/Machine/Net.lean ====
section
/-! DEFINITION. The station network: the ports, PTP and the transparent clock, sampled values, GOOSE and PRP
(12_station_network.md, R381 to R412). Times of PTP are in units of 2⁻¹⁶ ns. -/
namespace Sys2Proof.Machine

def Half.modNet (h : Half) (f : Net → Net) : Half := { h with net := f h.net }
def Half.modPort (h : Half) (p : Nat) (f : Port → Port) : Half := h.modNet fun n => { n with ports := vmod n.ports p f }
def portOf (h : Half) (p : Nat) : Port := vget h.net.ports p

/-- ARG of R411: port (3 none) and index. -/
def argNet (p i : Nat) : Nat := p % 4 + 256 * (i % 256)

def ethMode (h : Half) : Nat := h.bn BK.ETH_MODE

/-- The NET domain has power and its clock. -/
def netUp (h : Half) : Bool := domUp h 3 && (let x := vget h.ck.pll 3; x.on && x.locked)

/-- The port takes part: link up, not fenced (R385), the half in service. -/
def portOk (h : Half) (p : Nat) : Bool :=
  netUp h && h.glb.dev.inService && (portOf h p).link && !h.sd.ethFence.getLsbD p

/-- LINE forwarding runs (R385). -/
def forwarding (h : Half) : Bool := ethMode h == 2 && portOk h 0 && portOk h 1

/-- meanLinkDelay (R386). -/
def mld (h : Half) (p : Nat) : Int :=
  let l := (portOf h p).pds.take (h.bn BK.PTP_PD_AVG)
  if l.isEmpty then 0 else divEven (l.foldl (· + ·) 0) l.length

/-- PTP.ASYM[p]. -/
def asymOf (h : Half) (p : Nat) : Int := divEven (h.bi (BK.PTP_ASYM0 + 4 * p) * 65536) 10

/-! ### The bytes of a frame (R398, R408) -/

/-- A frame from its destination on: the tag, the Ethertype, the payload, padded to 46 bytes, and in PRP the redundancy control
trailer, SeqNr, LanId with LSDUsize, and the suffix (PRESUMED: IEEE 802.1Q, IEC 62439-3; log entry 131). -/
def ethBytes (dst src : BitVec 48) (vlan : Option (Nat × Nat)) (ty : Nat) (payload : List Byte) (prp : Option (BitVec 16 × Nat)) :
    List Byte :=
  let body := payload ++ List.replicate (46 - payload.length) 0
  beBytes 6 dst.toNat ++ beBytes 6 src.toNat ++
  (match vlan with
    | some (vid, prio) => beBytes 2 0x8100 ++ beBytes 2 (prio * 2 ^ 13 + vid)
    | none => []) ++ beBytes 2 ty ++ body ++
  (match prp with
    | some (seq, lan) => beBytes 2 seq.toNat ++ beBytes 2 (lan * 2 ^ 12 + (body.length + 6) % 2 ^ 12) ++ beBytes 2 0x88FB
    | none => [])

/-- A field of ASN.1 BER: tag, length, content. -/
def ber (tag : Nat) (b : List Byte) : List Byte :=
  let n := b.length
  BitVec.ofNat 8 tag :: (if n < 128 then beBytes 1 n else if n < 256 then 0x81 :: beBytes 1 n else 0x82 :: beBytes 2 n) ++ b

/-- One ASDU: svID, smpCnt, confRev, smpSynch, smpRate where it is sent, seqData (tags PRESUMED: IEC 61850-9-2; log entry 131). -/
def SvAsdu.bytes (a : SvAsdu) : List Byte :=
  ber 0x30 (ber 0x80 a.svId ++ ber 0x82 (beBytes 2 a.smpCnt) ++ ber 0x83 (beBytes 4 a.confRev.toNat) ++
    ber 0x85 (beBytes 1 a.synch) ++ ((a.rate.map fun r => ber 0x86 (beBytes 2 r)).getD []) ++
    ber 0x87 (a.data.flatMap fun d => beBytes 4 d.1.toNat ++ beBytes 4 d.2.toNat))

/-- The frame: APPID, Length, reserved1 with the simulation bit, reserved2, savPdu with noASDU and the ASDUs. -/
def SvMsg.bytes (m : SvMsg) (prp : Option (BitVec 16 × Nat)) : List Byte :=
  let pdu := ber 0x60 (ber 0x80 (beBytes 1 m.asdus.length) ++ ber 0xA2 (m.asdus.flatMap SvAsdu.bytes))
  ethBytes m.dst m.src m.vlan 0x88BA
    (beBytes 2 m.appid ++ beBytes 2 (8 + pdu.length) ++ beBytes 2 (2 ^ 15 * b2n m.sim) ++ beBytes 2 0 ++ pdu) prp

/-! ### Egress (R392) -/

/-- Bytes of a frame on the wire with preamble and gap (PRESUMED, log entry 40). -/
def EthMsg.wire : EthMsg → Nat
  | .frame f => 20 + max 64 (18 + f.body.length)
  | .pdelayReq v _ | .pdelayResp v _ _ _ => 20 + 72 + 4 * b2n v.isSome
  | .sv _ _ b | .supervision b => 20 + max 64 (b.length + 4)
  | _ => 20 + 64

/-- ETH_TSLATp as it has been written; none: it holds its factory value. -/
def tslatSet (h : Half) (p : Nat) : Option Word := (h.regs.find? fun x => x.1 == RG.ETH_TSLAT p).map (·.2)

/-- How far a timestamp of port p lies from the instant at the ball, in tenths of a ns: the port's latency is the factory value
of ETH_TSLATp, and the register's value is what the timestamp is corrected by (R384; DEDUCED, log entry 62). -/
def latencyOff (h : Half) (p : Nat) (tx : Bool) : Int :=
  match tslatSet h p with
  | none => 0
  | some w =>
    let f (v : Word) : Int := if tx then wbits v 31 16 else wbits v 15 0
    if tx then f w - f (Config.tslat p) else f (Config.tslat p) - f w

/-- The timestamp, at 1 ns, of a frame that comes in (`tx` false) or leaves now. -/
def ethStamp (h : Half) (p : Nat) (tx : Bool) : Int := ((h.ns : Int) * 10 + latencyOff h p tx) / 10 * 65536

/-- A frame leaves: event messages take their residence time, in whole ns, with them (R386, R393); a sampled-value frame whose
first bit leaves late counts once (R399). (DEDUCED, log entry 64.) -/
def depart (p start arrival : Nat) (m : EthMsg) (cx : Cx) (h : Half) : Half :=
  let res : Int := (((start - arrival) / 80 * 65536 : Nat) : Int)
  match m with
  | .sync s =>
    if s.twoStep then
      (h.modNet fun n => { n with tc := n.tc.map fun e =>
        if e.1 = 1 - p ∧ e.2.1 = s.source ∧ e.2.2.1 = s.seq then (e.1, e.2.1, e.2.2.1, e.2.2.2.1 + res, e.2.2.2.2) else e }).send
        (.eth start p m)
    else h.send (.eth start p (.sync { s with corr := s.corr + res }))
  | .followUp s =>
    let mine := fun (e : Nat × BitVec 80 × BitVec 16 × Int × Nat) =>
      decide (e.1 = 1 - p ∧ e.2.1 = s.source ∧ e.2.2.1 = s.seq ∧ start ≤ e.2.2.2.2 + tSec 1)
    match h.net.tc.find? mine with
    | some e => (h.modNet fun n => { n with tc := n.tc.filter fun e => !mine e }).send
        (.eth start p (.followUp { s with corr := s.corr + e.2.2.2.1 }))
    | none => (h.count RG.PTP_CNT_TC_FUP).send (.eth start p m)
  | .pdelayReq _ _ =>
    (h.modPort p fun x => { x with req := some (ethStamp h p true, false) }).send (.eth start p m)
  | .pdelayResp v src seq _ => h.send (.eth start p (.pdelayResp v src seq res))
  | .sv i due _ =>
    let h := h.send (.eth start p m)
    if due + 20000 < h.ns ∧ (vget h.net.sv i).late ≠ some due then
      raise cx 0xDC (argNet 3 i) 0
        ((h.count RG.SV_CNT_LATE).modNet fun n => { n with sv := vmod n.sv i fun s => { s with late := some due } })
    else h
  | _ => h.send (.eth start p m)

/-- The first entry of the least priority number among those there at instant t. -/
def firstOf (t : Nat) (l : List (Nat × Nat × EthMsg)) : Option (Nat × Nat × EthMsg) :=
  (l.filter fun e => decide (e.2.1 ≤ t)).foldl (fun b e =>
    match b with
    | some x => if e.1 < x.1 then some e else some x
    | none => some e) none

/-- Frames whose turn has come by now leave the port, at most n of them, each at its own instant; a fenced port sends none, and
what waits there is lost (R385). -/
def drain (cx : Cx) (p : Nat) : Nat → Half → Half
  | 0, h => h
  | n + 1, h =>
    if h.sd.ethFence.getLsbD p then h.modPort p fun x => { x with egress := [] } else
    let q := portOf h p
    match q.egress.map (·.2.1) with
    | [] => h
    | a :: l =>
      let t := max q.busy (l.foldl min a)
      if cx.now < t then h else
      match firstOf t q.egress with
      | none => h
      | some e => drain cx p n (atInstant t (depart p t e.2.1 e.2.2) cx (h.modPort p fun x => { x with
          egress := x.egress.erase e, busy := t + tNs (8 * e.2.2.wire) }))

/-- Both ports send what is due. -/
def drainAll (cx : Cx) (h : Half) : Half := if netUp h then drain cx 1 32 (drain cx 0 32 h) else h

/-- Every effect on the network finds the egress queues as time has left them. -/
def netOn (f : Cx → Half → Half) (cx : Cx) (h : Half) : Half :=
  drainAll cx (f cx (drainAll cx h))

/-- A frame joins the queue of a port; a full queue drops it. -/
def enqueue (cx : Cx) (p prio : Nat) (m : EthMsg) (h : Half) : Half :=
  if 32 ≤ (portOf h p).egress.length then
    let quiet := (h.net.fwdDropAt.map fun t => decide (t + tSec 1 ≤ cx.now)).getD true
    raiseIf quiet cx 0xDD (argNet p 0) 0 ((h.count RG.ETH_CNT_FWD_DROP).modNet fun n => { n with fwdDropAt := some cx.now })
  else h.modPort p fun x => { x with egress := x.egress ++ [(prio, cx.now, m)] }

/-! ### Links (R381 to R383) -/

def linkF (p : Nat) (up speedErr : Bool) (cx : Cx) (h : Half) : Half :=
  let was := (portOf h p).link
  let h := h.modPort p fun x => { x with link := up && !speedErr, spErr := speedErr, egress := if up then x.egress else [] }
  raiseIf (was && !(up && !speedErr)) cx 0xD0 (argNet p 0) (BitVec.ofNat 32 (b2n speedErr)) h

def ethLinkF (p : Nat) (up speedErr : Bool) : Cx → Half → Half :=
  netOn fun cx h => gate (netUp h) (linkF p up speedErr cx) h

/-- A port restarts: its link goes down (R383). -/
def portRestart (cx : Cx) (p : Nat) (h : Half) : Half := linkF p false false cx h

/-! ### Masters (R387) -/

def annInterval (m : AnnounceMsg) : Nat :=
  if 0 ≤ m.logInt then tSec 1 * 2 ^ m.logInt.toNat else tSec 1 / 2 ^ (-m.logInt).toNat

/-- One Announce meets the conditions of R387. -/
def annOk (h : Half) (m : AnnounceMsg) : Bool :=
  decide (m.domain = h.bn BK.PTP_DOMAIN ∧ m.steps < 255 ∧ m.cls ≤ h.bn BK.PTP_CLASS_MAX ∧ -7 ≤ m.logInt ∧ m.logInt ≤ 4) &&
    m.ptpTimescale

def qualified (h : Half) (x : Master) : Bool :=
  annOk h x.m && (portOf h x.port).pdValid && !h.sd.ethFence.getLsbD x.port &&
  h.bn BK.PTP_PORTS / 2 ^ x.port % 2 == 1 && x.two

/-- Two Announce messages of a master have arrived within four announce intervals, the last one now; it keeps that until
PTP.ANN_TIMEOUT intervals pass without one (R387). -/
def twoAnnounces (now : Nat) (h : Half) (old : Option Master) (m : AnnounceMsg) : Bool :=
  match old with
  | none => false
  | some x => decide (now ≤ x.lastAt + 4 * annInterval m) ||
      (x.two && decide (now < x.lastAt + h.bn BK.PTP_ANN_TIMEOUT * annInterval x.m))

/-- The order of the data set comparison (PRESUMED: IEEE 1588-2019; log entry 41), less is better. -/
def annKey (x : Master) : List Nat :=
  [x.m.prio1, x.m.cls, x.m.acc, x.m.var, x.m.prio2, x.m.gm.toNat, x.m.steps, x.m.source.toNat]

def keyLt : List Nat → List Nat → Bool
  | a :: l, b :: m => decide (a < b) || (a == b && keyLt l m)
  | _, _ => false

/-- The best qualified master; on equality the one on the lower port. -/
def bestMaster (h : Half) : Option Master :=
  (h.net.masters.filter (qualified h)).foldl (fun b x =>
    match b with
    | none => some x
    | some y => if keyLt (annKey x ++ [x.port]) (annKey y ++ [y.port]) then some x else some y) none

def masterAt (h : Half) (s : Nat × BitVec 80) : Option Master :=
  h.net.masters.find? fun x => x.port == s.1 && x.m.source == s.2

def selMaster (h : Half) : Option Master := h.net.sel.bind (masterAt h)

/-- The port of the selected master, 3 where none is. -/
def selPort (h : Half) : Nat := (h.net.sel.map (·.1)).getD 3

/-! ### smpSynch and the loss of PTP (R389, R397) -/

def smpSynch (now : Nat) (h : Half) : Nat :=
  if h.tb.fallback then 0
  else if h.tb.st = 1 then
    if h.tb.disc = 1 ∧ ((selMaster h).map fun x => x.m.cls == 6 || x.m.cls == 7) = some true then 2 else 1
  else if h.tb.st = 2 ∧ now ≤ h.tb.holdAt + tSec (h.bn BK.SV_HOLD_S) then h.tb.holdSync
  else 0

/-- PTP is lost; `synch` is smpSynch as it was in force (R389, R397). -/
def ptpLoseFrom (cx : Cx) (synch cause : Nat) (h : Half) : Half :=
  if h.net.lost then h else
  let h := h.modNet fun n => { n with lost := true, cause := cause, spikes := 0 }
  let h := if h.tb.disc = 1 then toHoldover cx 1 synch h else h
  raise cx 0xDE (argNet (selPort h) 0) (BitVec.ofNat 32 cause) h

def ptpLose (cx : Cx) (cause : Nat) (h : Half) : Half := ptpLoseFrom cx (smpSynch cx.now h) cause h

/-- Selection is judged anew; a change raises 0xD2, and no master left loses PTP, with smpSynch as it was in force. -/
def reselectFrom (cx : Cx) (synch : Nat) (h : Half) : Half :=
  let cur := (selMaster h).filter (qualified h)
  let best := bestMaster h
  let new : Option Master := match cur, best with
    | some c, some b => if keyLt (annKey b) (annKey c) then some b else some c
    | none, b => b
    | some c, none => some c
  let sel := new.map fun x => (x.port, x.m.source)
  if sel = h.net.sel then h else
  let h := if sel.isNone then ptpLoseFrom cx synch 2 h else h
  let h := h.modNet fun n => { n with sel := sel }
  raise cx 0xD2 (argNet (selPort h) 0) (BitVec.ofNat 32 ((new.map fun x => x.m.cls).getD 0xFF)) h

def reselect (cx : Cx) (h : Half) : Half := reselectFrom cx (smpSynch cx.now h) h

/-- An Announce arrives. One that does not meet R387 ends its master's qualification. -/
def announceF (p : Nat) (m : AnnounceMsg) : Cx → Half → Half := netOn fun cx h =>
  gate (portOk h p) (fun h =>
    let selected := h.net.sel == some (p, m.source)
    let synch := smpSynch cx.now h
    let h := if selected && decide (h.bn BK.PTP_CLASS_MAX < m.cls) then ptpLose cx 3 h else h
    let old := masterAt h (p, m.source)
    let rest := h.net.masters.filter fun x => !(x.port == p && x.m.source == m.source)
    let h := h.modNet fun n => { n with
      masters := if annOk h m then { port := p, m := m, lastAt := cx.now, two := twoAnnounces cx.now h old m } :: rest else rest }
    reselectFrom cx synch h) h

/-- PTP.ANN_TIMEOUT announce intervals without an Announce. -/
def announceTimeoutF (p : Nat) (source : BitVec 80) : Cx → Half → Half := netOn fun cx h =>
  let dead := fun (x : Master) => x.port == p && x.m.source == source &&
    decide (x.lastAt + h.bn BK.PTP_ANN_TIMEOUT * annInterval x.m ≤ cx.now)
  gate (netUp h && h.net.masters.any dead) (fun h =>
    reselectFrom cx (smpSynch cx.now h) (h.modNet fun n => { n with masters := n.masters.filter fun x => !dead x })) h

/-! ### Offsets (R388, R389) -/

/-- An offset of the selected master. Only the discipline source's offsets are used. -/
def ptpOffset (cx : Cx) (theta : Int) (h : Half) : Half :=
  if h.tb.disc ≠ 1 then h
  else if h.tb.st = 1 ∧ !h.net.lost ∧ h.bn BK.PTP_SPIKE_NS * 65536 < theta.natAbs then
    let h := (h.count RG.PTP_CNT_SPIKE).modNet fun n => { n with spikes := n.spikes + 1 }
    if h.bn BK.PTP_SPIKE_CNT ≤ h.net.spikes then ptpLose cx 4 h else h
  else (useOffset cx theta h).modNet fun n => { n with lost := false, usedAt := cx.now, spikes := 0 }

/-- θ of a Sync that came in on port p at t2. -/
def syncTheta (h : Half) (p : Nat) (m : SyncMsg) (t2 : Int) : Int :=
  m.origin * 65536 + m.corr + mld h p + asymOf h p - t2

/-- The half forwards a Sync from port p (R393). -/
def forwardSync (cx : Cx) (p : Nat) (m : SyncMsg) (h : Half) : Half :=
  if !forwarding h then h else
  let add := mld h p + asymOf h p
  if !m.twoStep then enqueue cx (1 - p) 0 (.sync { m with corr := m.corr + add }) h
  else
    let h := h.modNet fun n =>
      let l := n.tc.filter fun e => decide (cx.now ≤ e.2.2.2.2 + tSec 1)
      { n with tc := if l.length < 8 then l ++ [(p, m.source, m.seq, add, cx.now)] else l }
    enqueue cx (1 - p) 0 (.sync m) h

/-- A Sync arrives; the command's instant is that of the ball (R384). (DEDUCED, log entry 62.) -/
def syncF (p : Nat) (m : SyncMsg) : Cx → Half → Half := netOn fun cx h =>
  gate (portOk h p) (fun h =>
    let t2 := ethStamp h p false
    let h := if h.net.sel = some (p, m.source) ∧ m.domain = h.bn BK.PTP_DOMAIN then
        let h := h.count RG.PTP_CNT_SYNC
        if m.twoStep then h.modPort p fun x => { x with pend := x.pend ++ [(m.source, m.seq, t2, cx.now)] }
        else ptpOffset cx (syncTheta h p m t2) h
      else h
    forwardSync cx p m h) h

def followUpF (p : Nat) (m : SyncMsg) : Cx → Half → Half := netOn fun cx h =>
  gate (portOk h p) (fun h =>
    let mine := fun (e : BitVec 80 × BitVec 16 × Int × Nat) =>
      decide (e.1 = m.source ∧ e.2.1 = m.seq ∧ cx.now ≤ e.2.2.2 + tSec 1)
    let h := match (portOf h p).pend.find? mine with
      | some e =>
        let h := h.modPort p fun x => { x with pend := x.pend.filter fun e => !mine e }
        if h.net.sel = some (p, m.source) ∧ m.domain = h.bn BK.PTP_DOMAIN then ptpOffset cx (syncTheta h p m e.2.2.1) h else h
      | none => h
    if forwarding h then enqueue cx (1 - p) 2 (.followUp m) h else h) h

/-- Two-step Syncs more than 1 s old are discarded. -/
def followUpTimeoutF (p : Nat) (cx : Cx) (h : Half) : Half :=
  gate (netUp h) (fun h =>
    let old := (portOf h p).pend.filter fun e => decide (e.2.2.2 + tSec 1 < cx.now)
    let h := h.put RG.PTP_CNT_FUP_MISS (sat32 (h.reg RG.PTP_CNT_FUP_MISS) old.length)
    h.modPort p fun x => { x with pend := x.pend.filter fun e => !decide (e.2.2.2 + tSec 1 < cx.now) }) h

def noOffsetTimeoutF (cx : Cx) (h : Half) : Half :=
  gate (netUp h && h.tb.disc == 1 && !h.net.lost && decide (h.net.usedAt + tMs (h.bn BK.PTP_LOSS_MS) ≤ cx.now))
    (ptpLose cx 1) h

/-- A read of PTP_GM_LO latches the upper half (R412). -/
def ptpGmLoF (_cx : Cx) (h : Half) : Half :=
  gate (netUp h) (fun h =>
    h.modNet fun n => { n with gmHi := ((selMaster h).map fun (x : Master) => (x.m.gm >>> 32).setWidth 32).getD (0 : Word) }) h

/-! ### Peer delay (R386) -/

/-- The tag of the half's own PTP frames (Transport row of the PTP table). -/
def ptpTag (h : Half) : Option (Nat × Nat) :=
  if h.bf BK.PTP_VLAN_EN then some (h.bn BK.PTP_VID, h.bn BK.PTP_PRIO) else none

def pdNow (h : Half) (p : Nat) : Bool :=
  let x := portOf h p
  decide (x.ans.length = 3) && x.ans.all id && decide (mld h p ≤ h.bn BK.PTP_NBR_MAX * 65536)

/-- PD-validity of a port is judged; its loss is reported. -/
def judgePd (cx : Cx) (p : Nat) (h : Half) : Half :=
  let v := pdNow h p
  let was := (portOf h p).pdValid
  if v = was then h else
  reselect cx (raiseIf was cx 0xD3 (argNet p 0) 0 (h.modPort p fun x => { x with pdValid := v }))

def pdelayReqSendF (p : Nat) : Cx → Half → Half := netOn fun cx h =>
  gate (portOk h p && ((portOf h p).req.isNone || decide ((portOf h p).reqAt + tSec 1 ≤ cx.now))) (fun h =>
    let x := portOf h p
    let missed := (x.req.map fun r => !r.2).getD false
    let h := h.modPort p fun x => { x with
      ans := if missed then (false :: x.ans).take 3 else x.ans
      req := some (ethStamp h p true, false), reqAt := cx.now, reqSeq := x.reqSeq + 1, two := none }
    enqueue cx p 0 (.pdelayReq (ptpTag h) (portOf h p).reqSeq) (judgePd cx p h)) h

/-- Every Pdelay_Req is answered, with the turnaround time in correctionField. -/
def pdelayReqF (p : Nat) (source : BitVec 80) (seq : BitVec 16) : Cx → Half → Half := netOn fun cx h =>
  gate (portOk h p) (enqueue cx p 0 (.pdelayResp (ptpTag h) source seq 0)) h

/-- A valid exchange gives d. -/
def addDelay (cx : Cx) (p : Nat) (d : Int) (h : Half) : Half :=
  judgePd cx p (h.modPort p fun x => { x with
    req := x.req.map fun r => (r.1, true), two := none, pds := (d :: x.pds).take 16, ans := (true :: x.ans).take 3 })

/-- t1 of the request of this sequenceId that still waits for its answer. -/
def openReq (now : Nat) (h : Half) (p : Nat) (seq : BitVec 16) : Option Int :=
  let x := portOf h p
  match x.req with
  | some (t1, false) => if x.reqSeq = seq ∧ now ≤ x.reqAt + tSec 1 then some t1 else none
  | _ => none

/-- t2 is in ns. -/
def pdelayRespF (p : Nat) (seq : BitVec 16) (twoStep : Bool) (t2 corr : Int) : Cx → Half → Half := netOn fun cx h =>
  gate (portOk h p) (fun h =>
    match openReq cx.now h p seq with
    | none => h
    | some t1 =>
      let t4 := ethStamp h p false
      if twoStep then h.modPort p fun x => { x with two := some (t2 * 65536, t4, corr) }
      else addDelay cx p ((t4 - t1 - corr) / 2) h) h

/-- t3 is in ns. -/
def pdelayRespFollowUpF (p : Nat) (seq : BitVec 16) (t3 corr : Int) : Cx → Half → Half := netOn fun cx h =>
  gate (portOk h p) (fun h =>
    match openReq cx.now h p seq, (portOf h p).two with
    | some t1, some (t2, t4, c) => addDelay cx p ((t4 - t1 - (t3 * 65536 - t2) - c - corr) / 2) h
    | _, _ => h) h

/-! ### Forwarding of other frames (R392) -/

def forwardF (p : Nat) (f : EthFrame) : Cx → Half → Half := netOn fun cx h =>
  let own := f.dst == Config.mac cx.me 0 || f.dst == Config.mac cx.me 1
  gate (forwarding h && f.fcsOk && !own && f.kind != .pdelay && f.kind != .delayReqResp)
    (enqueue cx (1 - p) (if f.kind = .ptpEvent then 0 else 2) (.frame f)) h

/-! ### Sampled values (R394 to R402) -/

def svRateOf (b : Bank) (i : Nat) : Nat :=
  match Bank.nat b (BK.SV_RATE i) with
  | 0 => 4000
  | 1 => 4800
  | 2 => 12800
  | _ => 14400

/-- GD of a channel in ns (R113). -/
def groupDelay (h : Half) (n : Nat) : Nat :=
  let d := h.bn (BK.AN_CH_DECIM n)
  h.bn (BK.AN_CH_ORDER n) * (d - 1) * 25 + (if h.bf (BK.AN_CH_NOTCH_EN n) then d * 50 else 0)

/-- The enabled channels of a trio, rising. -/
def trioChannels (h : Half) (t : Nat) : List Nat :=
  (List.range 24).filter fun n => anEn h n && h.bn (BK.AN_CH_TRIO n) == t

/-- The channels of an entry. -/
def entryChannels (h : Half) (src : Nat) : List Nat := if src < 0x80 then [src] else trioChannels h (src - 0x80)

def svEntries (b : Bank) (i : Nat) : List Nat := List.range (Bank.nat b (BK.SV_NCH i))

/-- The publish delay P in µs (R399). -/
def publishDelay (h : Half) (b : Bank) (i : Nat) : Nat :=
  let chs := (svEntries b i).flatMap fun e => entryChannels h (Bank.nat b (BK.SV_CH_SRC i e))
  ceilDiv ((chs.map fun n => groupDelay h n + 50 * h.bn (BK.AN_CH_DECIM n)).foldl max 0 + 2000) 1000

/-- The first frame start, as second and sample number, at or after t ns. -/
def frameFrom (r nasdu t : Nat) : Nat × Nat :=
  let j := ceilDiv (ceilDiv (t % 1000000000 * r) 1000000000) nasdu * nasdu
  if j < r then (t / 1000000000, j) else (t / 1000000000 + 1, 0)

/-- The instant of sample j of second s. -/
def sampleAt (r s j : Nat) : Nat := s * 1000000000 + j * 1000000000 / r

/-- A frame to be formed: the configuration that serves it, its second and first sample number, and what is added to its
instants to give the timebase in force (Δ for a frame on the time before a step). -/
structure SvNext where
  cfg : SvCfg
  sec : Nat
  j : Nat
  shift : Int
  old : Bool
  deriving DecidableEq, Repr, Inhabited

def SvNext.rate (x : SvNext) (i : Nat) : Nat := svRateOf x.cfg.bank i
def SvNext.count (x : SvNext) (i : Nat) : Nat := max 1 (Bank.nat x.cfg.bank (BK.SV_NOASDU i))
def SvNext.instants (x : SvNext) (i : Nat) : List Nat :=
  (List.range (x.count i)).map fun m => sampleAt (x.rate i) x.sec (x.j + m)
/-- t of the last sample. -/
def SvNext.tLast (x : SvNext) (i : Nat) : Nat := (x.instants i).getLastD 0

def addI (t : Nat) (d : Int) : Nat := ((t : Int) + d).toNat

/-- The first frame of stream i that begins at or after `t`; configurations oldest first, instants shifted by `d`. -/
def nextIn (i t : Nat) (d : Int) : List SvCfg → Option SvNext
  | [] => none
  | c :: l =>
    let r := svRateOf c.bank i
    let (s, j) := frameFrom r (max 1 (Bank.nat c.bank (BK.SV_NOASDU i))) (max t (addI c.at_ (-d)))
    let ovr := (l.head?.map fun c' => decide (addI c'.at_ (-d) ≤ sampleAt r s j)).getD false
    if c.run.getLsbD i ∧ !ovr then some ⟨c, s, j, d, false⟩ else nextIn i t d l

/-- The stream with the gap of a step behind it, and its next frame (R402). -/
def nextFrame (h : Half) (i : Nat) : Option SvNext :=
  let st := vget h.net.sv i
  let cs := h.net.svCfg.reverse
  match st.gap with
  | some (fin, d, start) =>
    match nextIn i st.from_ d cs with
    | some x => if x.tLast i < fin then some { x with old := true } else nextIn i start 0 cs
    | none => nextIn i start 0 cs
  | none => nextIn i st.from_ 0 cs

/-- The two consecutive words around τ. -/
def bracket : List (Nat × Int) → Nat → Option ((Nat × Int) × (Nat × Int))
  | [], _ => none
  | b :: l, t =>
    match l.head? with
    | some a => if a.1 ≤ t ∧ t < b.1 then some (a, b) else bracket l t
    | none => none

/-- x of a channel at sample instant t (R395); without its two words it is free, and invalid (DESIGN CHOICE, log entry 15). -/
def sampleX (h : Half) (n t : Nat) : F32 × Bool :=
  let tau := t + groupDelay h n
  match bracket (h.anCh n).last tau with
  | some (a, b) =>
    let fr := F32.div (F32.ofNat (tau - a.1)) (F32.ofNat (b.1 - a.1))
    let y := F32.add (F32.ofInt a.2) (F32.mul (F32.sub (F32.ofInt b.2) (F32.ofInt a.2)) fr)
    (F32.mul y (h.bw (BK.OX_AIN_SCALE n)), true)
  | none => (Config.freeSample h.id n t, false)

/-- v as the published INT32. -/
def toInt32 (v : F32) : Word :=
  if F32.isNan v then 0
  else if F32.isInf v then (if F32.sign v then 0x80000000#32 else 0x7FFFFFFF#32)
  else BitVec.ofInt 32 (clampI (F32.toIntEven v) (-2147483648) 2147483647)

/-- Validity 2 invalid, 1 questionable, 0 good, and the other bits of a channel's quality at t (R396). -/
def chanQuality (me : HalfId) (h : Half) (n t : Nat) : Nat × Word :=
  let c := h.anCh n
  let fen := fenced me h true n
  let q := ((c.qhist.find? fun x => decide (x.1 ≤ t)).map (·.2)).getD
    (c.qual % 2 + c.qual / 8 % 2 * 2 + b2n c.unsettled * 4)
  let fen := fen || q / 8 % 2 == 1
  let inv := fen || q / 4 % 2 == 1
  let quest := q % 4 != 0
  (if inv then 2 else if quest then 1 else 0,
   BitVec.ofNat 32 (b2n (q % 2 == 1) * 4 + b2n fen * 0x40 + b2n (q / 2 % 2 == 1) * 0x100))

/-- Value and quality of entry e at sample instant t, and whether it is invalid. -/
def svEntry (me : HalfId) (h : Half) (cfg : SvCfg) (i e t : Nat) : Word × Word × Bool :=
  let src := Bank.nat cfg.bank (BK.SV_CH_SRC i e)
  let k : F32 := if Bank.nat cfg.bank (BK.SV_CH_KIND i e) = 0 then 0x447A0000#32 else 0x42C80000#32
  let chs := entryChannels h src
  let xs := chs.map fun n => sampleX h n t
  let qs := chs.map fun n => chanQuality me h n t
  let x := match xs.map (·.1) with
    | [] => F32.nan
    | a :: l => l.foldl F32.add a
  let v := F32.mul x k
  let val := max ((qs.map (·.1)).foldl max 0) (if F32.isNan v || xs.any (fun x => !x.2) then 2 else 0)
  let bitsQ := (qs.map (·.2)).foldl (· ||| ·) 0 ||| (if cfg.test.getLsbD i then 0x800#32 else 0) |||
    (if 0x80 ≤ src then 0x2000#32 else 0) ||| (if val = 2 then 1#32 else if val = 1 then 3#32 else 0)
  (toInt32 v, bitsQ, val == 2)

/-- The bytes of a 64-byte string field before the first 0 (R409). -/
def bankString (b : Bank) (off : Nat) : List Byte :=
  ((List.range 16).flatMap fun w => leWord (Bank.word b (off + 4 * w))).takeWhile (· != 0)

def svAsdu (cx : Cx) (h : Half) (x : SvNext) (i m t : Nat) : SvAsdu :=
  let b := x.cfg.bank
  { svId := bankString b (BK.SV_SVID i 0), smpCnt := x.j + m, confRev := Bank.word b (BK.SV_CONFREV i)
    synch := smpSynch cx.now h, rate := if Bank.flag b (BK.SV_SMPRATE_EN i) then some (x.rate i) else none
    data := (svEntries b i).map fun e => let r := svEntry cx.me h x.cfg i e (addI t x.shift); (r.1, r.2.1) }

/-- DEDUCED, log entry 70. -/
def svMsg (cx : Cx) (h : Half) (x : SvNext) (i p : Nat) : SvMsg :=
  let b := x.cfg.bank
  { dst := (Bank.word b (BK.SV_DMAC_HI i)).setWidth 16 ++ Bank.word b (BK.SV_DMAC_LO i)
    src := Config.mac cx.me (if ethMode h = 1 then 0 else p)
    vlan := if Bank.flag b (BK.SV_VLAN_EN i) then some (Bank.nat b (BK.SV_VID i), Bank.nat b (BK.SV_PRIO i)) else none
    appid := Bank.nat b (BK.SV_APPID i), sim := x.cfg.sim.getLsbD i
    asdus := (x.instants i).zipIdx.map fun tm => svAsdu cx h x i tm.2 tm.1 }

/-- The entries that are invalid in some ASDU of the frame. -/
def svInvalid (cx : Cx) (h : Half) (x : SvNext) (i : Nat) : BitVec 16 :=
  BitVec.ofNat 16 (((svEntries x.cfg.bank i).filter fun e =>
    (x.instants i).any fun t => (svEntry cx.me h x.cfg i e (addI t x.shift)).2.2).foldl (fun v e => v + 2 ^ e) 0)

/-- SeqNr and LanId of the redundancy control trailer of a copy on port p. -/
def prpTrailer (h : Half) (p : Nat) : Option (BitVec 16 × Nat) :=
  if ethMode h = 1 then some (h.net.prpSeq, if p = 0 then 0xA else 0xB) else none

/-- The bytes of stream i's frame on port p. -/
def svFrame (cx : Cx) (h : Half) (x : SvNext) (i p : Nat) : List Byte := (svMsg cx h x i p).bytes (prpTrailer h p)

/-- This half was ACTIVE at an instant t, from what it knows of its last time in that role (R399). -/
def wasActive (t : Nat) (h : Half) : Bool :=
  decide (h.th.activeAt ≤ t) && (h.glb.role == .active || decide (t < h.th.leftAt))

/-- The ports of stream i. -/
def svPorts (h : Half) (b : Bank) (i : Nat) : List Nat :=
  [0, 1].filter fun p => portOk h p && (ethMode h == 1 || Bank.nat b (BK.SV_PORTS i) / 2 ^ p % 2 == 1)

/-- The next frame of stream i is formed, at or after t_last + P, and sent by the half that was ACTIVE then. -/
def svFrameF (i : Nat) : Cx → Half → Half := netOn fun cx h =>
  match nextFrame h i with
  | none => h
  | some x =>
    let due := addI (x.tLast i) x.shift + 1000 * publishDelay h x.cfg.bank i
    gate (netUp h && h.glb.dev.inService && decide (due ≤ h.ns)) (fun h =>
      let inv := svInvalid cx h x i
      let was := (vget h.net.sv i).invalid
      let msgs := (svPorts h x.cfg.bank i).map fun p => (p, svFrame cx h x i p)
      let h := h.modNet fun n => { n with sv := vmod n.sv i fun s =>
        { s with from_ := x.tLast i + 1, smpCnt := x.j, invalid := inv, gap := if x.old then s.gap else none } }
      let h := (svEntries x.cfg.bank i).foldl (fun h e =>
        raiseIf (inv.getLsbD e && !was.getLsbD e) cx 0xD6 (argNet 3 i) (BitVec.ofNat 32 e) h) h
      if !wasActive (cx.now - tNs (h.ns - due)) h then h else
      let h := msgs.foldl (fun h m => enqueue cx m.1 1 (.sv i due m.2) h) h
      if ethMode h = 1 then h.modNet fun n => { n with prpSeq := n.prpSeq + 1 } else h) h

/-- A new configuration from T0 of the present cycle on (ns `t`). -/
def pushCfg (t : Nat) (run test sim : BitVec 8) (h : Half) : Half :=
  h.modNet fun n => { n with
    svCfg := ⟨t, h.glb.live, run, test, sim⟩ :: n.svCfg.takeWhile (fun c => decide (t < c.at_ + 10000000)) ++
      (n.svCfg.dropWhile fun c => decide (t < c.at_ + 10000000)).take 1 }

def svSets (h : Half) : BitVec 8 × BitVec 8 × BitVec 8 :=
  match h.net.svCfg with
  | c :: _ => (c.run, c.test, c.sim)
  | [] => (0, 0, 0)

/-- CMD_SV_CONTROL at T0 (R400): the sets after it; RESULT is the running mask. -/
def svControl (t : Nat) (streams : BitVec 8) (action : Nat) (h : Half) : Half :=
  let (r, te, si) := svSets h
  match action with
  | 0 => pushCfg t (r &&& ~~~streams) te si h
  | 1 => pushCfg t (r ||| streams) te si h
  | 2 => pushCfg t r (te ||| streams) si h
  | 3 => pushCfg t r (te &&& ~~~streams) si h
  | 4 => pushCfg t r te (si ||| streams) h
  | _ => pushCfg t r te (si &&& ~~~streams) h

/-- A commit at T0 (R401): the fields apply; a stream whose EN is 0 stops. -/
def svCommit (t : Nat) (h : Half) : Half :=
  let (r, te, si) := svSets h
  let en : BitVec 8 := BitVec.ofNat 8 ((List.range 8).foldl (fun v i => v + b2n (h.bf (BK.SV_EN i)) * 2 ^ i) 0)
  if h.net.svCfg.isEmpty then h else pushCfg t (r &&& en) te si h

/-- A step by d ns at T0 of K (R402): frames that end before T0 of K go on on the old time; the new time begins at T0 of
K + 1, after x (2⁻³² ns). What the half keeps by instants moves with the time. `end_` is the old time at T0 of K. (DEDUCED, log entry 64.) -/
def svStep (cx : Cx) (end_ : Nat) (d : Int) (x : Nat) (h : Half) : Half :=
  let running := (svSets h).1
  let start := addI end_ d + (h.tc + x) / 2 ^ 32
  let sh := fun (t : Nat) => addI t d
  let h := h.modAn fun a => { a with ch := a.ch.map fun c => { c with
    last := c.last.map (fun w => (sh w.1, w.2)), qhist := c.qhist.map fun w => (sh w.1, w.2) } }
  let h := h.modNet fun n => { n with
    svCfg := n.svCfg.map fun c => { c with at_ := sh c.at_ }
    sv := vmapi n.sv fun i s => if running.getLsbD i then { s with gap := some (end_, d, start) } else { s with from_ := 0 } }
  (List.range 8).foldl (fun h i => if running.getLsbD i then
    raise cx 0xDC (argNet 3 i) 1 (h.count RG.SV_CNT_GAP) else h) h

/-! ### PRP (R408) -/

/-- A frame with a trailer comes in on port p; false: it is a duplicate and is discarded. -/
def prpAccept (now p : Nat) (src : BitVec 48) (t : PrpTrailer) (h : Half) : Bool × Half :=
  if ethMode h ≠ 1 ∨ t.suffix ≠ 0x88FB then (true, h) else
  let h := if t.lan.toNat = (if p = 0 then 0xA else 0xB) then h else h.count RG.PRP_CNT_WRONG_LAN
  let h := h.modPort p fun x => { x with trailAt := now, lanQuiet := false }
  let win := tMs (h.bn BK.PRP_FORGET_MS)
  match h.net.nodes.find? fun n => n.src == src with
  | none =>
    if h.net.nodes.length < 128 then (true, h.modNet fun n => { n with nodes := n.nodes ++ [⟨src, now, [(p, t.seq, now)]⟩] })
    else (true, h)
  | some nd =>
    let dup := nd.seen.any fun c => c.1 != p && c.2.1 == t.seq && decide (now ≤ c.2.2 + win)
    let h := h.modNet fun n => { n with nodes := n.nodes.map fun x =>
      if x.src = src then { x with at_ := now, seen := (p, t.seq, now) :: x.seen.filter fun c => decide (now ≤ c.2.2 + win) }
      else x }
    if dup then (false, h.count RG.PRP_CNT_DUP) else (true, h)

/-- A frame that is not taken in (R381, R382). One with a valid trailer ends the silence of its LAN and stands in the node table
all the same (R408; DEDUCED, log entry 131). -/
def ethFrameDiscardF (p : Nat) (why : DiscardWhy) (cx : Cx) (h : Half) : Half :=
  let heard (src : BitVec 48) (t : Option PrpTrailer) (h : Half) : Half :=
    match t with
    | some t => if portOk h p then (prpAccept cx.now p src t h).2 else h
    | none => h
  gate (netUp h && (portOf h p).link) (fun h =>
    match why with
    | .oversize src t => (heard src t h).count RG.ETH_CNT_OVERSIZE
    | .notTaken src t => (heard src t h).count RG.ETH_CNT_DISCARD
    | .fcs =>
      let l := cx.now :: h.net.fcs.filter fun t => decide (cx.now ≤ t + tSec 1)
      let full := decide (16 ≤ l.length)
      raiseIf full cx 0xD1 (argNet p 0) 0
        ((h.count RG.ETH_CNT_FCS).modNet fun n => { n with fcs := if full then [] else l })) h

def prpSupervisionF (p : Nat) (src : BitVec 48) (t : PrpTrailer) : Cx → Half → Half := netOn fun cx h =>
  gate (portOk h p) (fun h => (prpAccept cx.now p src t h).2) h

/-- The PRP_Supervision frame on port p: SupVersion 1, its sequence number, and the node's address in a TLV of type 20 (PRESUMED:
IEC 62439-3; log entry 131). -/
def supFrame (me : HalfId) (h : Half) (p : Nat) : List Byte :=
  ethBytes (0x01154E000100#48 ||| BitVec.ofNat 48 (h.bn BK.PRP_SUP_ADDR)) (Config.mac me 0) none 0x88FB
    (beBytes 2 1 ++ beBytes 2 h.net.supSeq.toNat ++ [20, 6] ++ beBytes 6 (Config.mac me 0).toNat ++ [0, 0]) (prpTrailer h p)

def prpSupervisionSendF : Cx → Half → Half := netOn fun cx h =>
  gate (netUp h && h.glb.dev.inService && ethMode h == 1 && decide (h.net.supAt + tMs (h.bn BK.PRP_LIFE_MS) ≤ cx.now)) (fun h =>
    let h := ([0, 1].filter (portOk h)).foldl (fun h p => enqueue cx p 2 (.supervision (supFrame cx.me h p)) h) h
    h.modNet fun n => { n with prpSeq := n.prpSeq + 1, supSeq := n.supSeq + 1, supAt := cx.now }) h

def prpLanF (p : Nat) (cx : Cx) (h : Half) : Half :=
  gate (netUp h && h.glb.dev.inService && ethMode h == 1 && !(portOf h p).lanQuiet && !h.sd.ethFence.getLsbD p &&
      decide ((portOf h p).trailAt + tMs (3 * h.bn BK.PRP_LIFE_MS) ≤ cx.now)) (fun h =>
    raise cx 0xD7 (argNet p 0) 0 (h.modPort p fun x => { x with lanQuiet := true })) h

def nodeTableAgeingF (src : BitVec 48) (cx : Cx) (h : Half) : Half :=
  gate (netUp h) (fun h => h.modNet fun n => { n with
    nodes := n.nodes.filter fun x => !(x.src == src && decide (x.at_ + tSec 60 ≤ cx.now)) }) h

/-! ### GOOSE (R403 to R407) -/

def goOf (h : Half) (b : Nat) : GoBlk := vget h.net.go b
def Half.modGo (h : Half) (b : Nat) (f : GoBlk → GoBlk) : Half := h.modNet fun n => { n with go := vmod n.go b f }

def goAlive (h : Half) (b : Nat) : Bool := (goOf h b).seen && !(goOf h b).expired

/-- The points of block b. -/
def pointsOf (h : Half) (b : Nat) : List Nat := (List.range 64).filter fun j => h.bn (BK.GO_PT_CB j) == b

/-- The value that point j takes from a frame; none: the element is missing or of another type (R406). -/
def pointValue (h : Half) (data : List GooseVal) (j : Nat) : Option Bool :=
  let bit := h.bn (BK.GO_PT_BIT j)
  match data[h.bn (BK.GO_PT_ENTRY j)]? with
  | some (.bool v) => if bit = 0xFF then some v else none
  | some (.bits l) => if bit = 0xFF then none else l[bit]?
  | _ => none

/-- Point j takes value v; a change from false to true acts (R407). -/
def setPoint (cx : Cx) (fail : Bool) (h : Half) (jv : Nat × Bool) : Half :=
  let (j, v) := jv
  let was := h.net.points.getLsbD j
  let h := h.modNet fun n => { n with points := setBit n.points j v }
  if was || !v then h else
  let a := h.bn (BK.GO_PT_ACTION j)
  if 1 ≤ a ∧ a ≤ 4 then raise cx (0xD8 + (a - 1)) (argNet 3 j) (BitVec.ofNat 32 (b2n fail)) h
  else if a = 5 then { h with me := { h.me with trig := h.me.trig ++ [.goose j] } }
  else h

/-- The block that a frame from port p matches. -/
def goMatch (h : Half) (p : Nat) (f : GooseFrame) : Option Nat :=
  (List.range 16).find? fun b => h.bf (BK.GO_CB_EN b) && h.bn (BK.GO_CB_PORTS b) / 2 ^ p % 2 == 1 &&
    h.bn (BK.GO_CB_APPID b) == f.appid.toNat && bankString h.glb.live (BK.GO_CB_GOCBREF b 0) == f.gocbRef

/-- A matched frame that is not ignored (R403 to R405). (DEDUCED, log entry 63.) -/
def goTake (cx : Cx) (b : Nat) (f : GooseFrame) (h : Half) : Half :=
  let vals := (pointsOf h b).map fun j => (j, pointValue h f.data j)
  let rev := h.bw (BK.GO_CB_CONFREV b)
  if f.ndsCom || (rev != 0 && f.confRev != rev) || vals.any (fun v => v.2.isNone) then
    let new := !(goOf h b).badRun
    raiseIf new cx 0xD5 (argNet 3 b) f.confRev ((h.count RG.GO_CNT_MISMATCH).modGo b fun g => { g with badRun := true })
  else
    let g := goOf h b
    let fresh := !goAlive h b || g.st != f.stNum || decide (g.sq.toNat < f.sqNum.toNat)
    let h := h.modGo b fun g => { g with
      seen := true, expired := false, badRun := false, sim := f.sim || (g.sim && goAlive h b)
      expiry := cx.now + tMs (max f.tal (h.bn BK.GO_TAL_MIN))
      st := f.stNum, sq := f.sqNum }
    if fresh then (vals.filterMap fun v => v.2.map fun x => (v.1, x)).foldl (setPoint cx false) h
    else h.count RG.GO_CNT_STALE

/-- A GOOSE frame's last byte arrives. -/
def gooseF (p : Nat) (f : GooseFrame) : Cx → Half → Half := netOn fun cx h =>
  gate (portOk h p) (fun h =>
    let (ok, h) := match f.prp with
      | some t => prpAccept cx.now p f.src t h
      | none => (true, h)
    if !ok then h else
    match goMatch h p f with
    | none => h
    | some b =>
      if f.sim && !h.bf BK.GO_SIM then h.count RG.GO_CNT_SIM
      else if !f.sim && (goOf h b).sim then h
      else goTake cx b f h) h

/-- The time allowed to live of block b is over. -/
def gooseExpiryF (b : Nat) (cx : Cx) (h : Half) : Half :=
  gate (netUp h && goAlive h b && decide ((goOf h b).expiry < cx.now)) (fun h =>
    let h := h.modGo b fun g => { g with expired := true, sim := false }
    let vals := (pointsOf h b).filterMap fun j =>
      match h.bn (BK.GO_PT_FAIL j) with
      | 1 => some (j, false)
      | 2 => some (j, true)
      | _ => none
    let h := vals.foldl (setPoint cx true) h
    raiseIf (h.glb.role == .active) cx 0xD4 (argNet 3 b) 0 h) h

/-! ### A commit at T0 (R383, R401, R403) -/

/-- The network takes a commit; `old` is the bank before it, t the instant of T0 in ns. -/
def netCommit (cx : Cx) (old : Bank) (t : Nat) (h : Half) : Half :=
  let ch := fun (off : Nat) => Bank.word old off != h.bw off
  let h := [0, 1].foldl (fun h p =>
    if ch BK.ETH_MODE || ch (BK.ETH_IF0 + 4 * p) || ch (BK.ETH_AN0 + 4 * p) then portRestart cx p h else h) h
  let h := (List.range 16).foldl (fun h b => if ch (BK.GO_CB_EN b) then h.modGo b fun _ => default else h) h
  -- PTP.NBR_MAX and PTP.PD_AVG as they now are (R386)
  reselect cx (judgePd cx 1 (judgePd cx 0 (svCommit t h)))

end Sys2Proof.Machine
end

