-- ==== Sys2Proof/Machine/Can.lean ====
section
/-! DEFINITION. The CAN FD controllers (13_can.md, R413 to R432). The counts and states of error confinement are those
of ISO 11898-1, as R417 says (PRESUMED: log entry 42). -/
namespace Sys2Proof.Machine

def Half.modCan (h : Half) (i : Nat) (f : Can → Can) : Half := { h with can := vmod h.can i f }
def canOf (h : Half) (i : Nat) : Can := vget h.can i

/-- ARG of R431; object 0xFF where none applies. -/
def argCan (i o : Nat) : Nat := i % 2 + 256 * (o % 256)

def canInit (h : Half) (i : Nat) : Bool := h.getF (RG.CAN_CTRL i) 0 0 == 1
def canFenced (h : Half) (i : Nat) : Bool := h.sd.canFence.getLsbD i
def canListen (h : Half) (i : Nat) : Bool := h.getF (RG.CAN_CFG i) 1 1 == 1

/-- The controller may take part in the bus (R413). -/
def canOn (h : Half) (i : Nat) : Bool :=
  netUp h && !canInit h i && h.glb.dev.inService && h.glb.role != .fenced && !(canOf h i).dead

/-- The controller is on the bus. -/
def joined (h : Half) (i : Nat) : Bool := canOn h i && (canOf h i).st == 1

/-- The nominal bit in units of 12.5 ps (R414). -/
def canBit (h : Half) (i : Nat) : Nat :=
  let n := h.getF (RG.CAN_NBT i) 8 0
  640 * (if n = 0 then 512 else n) * (1 + h.getF (RG.CAN_NBT i) 16 9 + h.getF (RG.CAN_NBT i) 23 17)

/-! ### Objects -/

def objF (h : Half) (i o hi lo : Nat) : Nat := h.getF (RG.CAN_OBJ_CFG i o) hi lo
def objSt (h : Half) (i o bit : Nat) : Bool := h.getF (RG.CAN_OBJ_ST i o) bit bit == 1
def setObjSt (i o bit : Nat) (v : Bool) (h : Half) : Half := h.putF (RG.CAN_OBJ_ST i o) bit bit (b2n v)
def objErr (now i : Nat) (h : Half) : Half := h.setW1c now (RG.CAN_STATUS i) 9
def canCfgErr (now i : Nat) (h : Half) : Half := h.setW1c now (RG.CAN_STATUS i) 8

/-- Payload bytes of a DLC. -/
def dlcBytes (fdf : Bool) (d : Nat) : Nat :=
  if d ≤ 8 then d else if !fdf then 8
  else match d with
    | 9 => 12 | 10 => 16 | 11 => 20 | 12 => 24 | 13 => 32 | 14 => 48 | _ => 64

/-- The identifier in the order of arbitration (R425). -/
def busKey (ide : Bool) (id : Nat) : Nat := id / 2 ^ 18 * 2 ^ 19 + (if ide then 2 ^ 18 + id % 2 ^ 18 else 0)

/-- The frame of transmit object o. -/
def objFrame (h : Half) (i o : Nat) : CanFrame :=
  let dlc := objF h i o 19 16
  let fdf := objF h i o 3 3 == 1
  let ide := objF h i o 2 2 == 1
  let id : BitVec 29 := BitVec.ofNat 29 (h.getF (RG.CAN_OBJ_ID i o) 28 0)
  { id := if ide then id else id &&& 0x1FFC0000#29, ide := ide, fdf := fdf
    brs := objF h i o 4 4 == 1, esi := decide (128 ≤ (canOf h i).tec ∨ 128 ≤ (canOf h i).rec_) && fdf, rtr := false
    dlc := BitVec.ofNat 4 dlc
    data := ((List.range 16).flatMap fun j => leWord (h.reg (RG.CAN_OBJ_DATA i o j))).take (dlcBytes fdf dlc), sof := 0 }

/-- The pending object that is offered first (R425). -/
def bestObj (h : Half) (i : Nat) : Option Nat :=
  ((List.range 128).filter fun o => objSt h i o 2).foldl (fun b o =>
    match b with
    | none => some o
    | some q =>
      let k := fun (o : Nat) => busKey (objF h i o 2 2 == 1) (h.getF (RG.CAN_OBJ_ID i o) 28 0)
      if k o < k q then some o else some q) none

/-- Another node's frame is on the bus, and the controller receives it. -/
def receives (cx : Cx) (h : Half) (i : Nat) : Bool := joined h i && Config.canReceives cx.me i cx.now

/-- A transmission starts as soon as nothing forbids it, with the frame as the object holds it (R421, R422, R424; DESIGN CHOICE,
log entry 43). -/
def startTx (cx : Cx) (i : Nat) (h : Half) : Half :=
  match bestObj h i with
  | none => h
  | some o =>
    if joined h i && (canOf h i).tx.isNone && !(canOf h i).initWait && !canListen h i &&
        (h.getF (RG.CAN_CFG i) 3 3 == 0 || h.glb.role == .active) && !receives cx h i then
      h.modCan i fun c => { c with tx := some o, frame := objFrame h i o, abort := false }
    else h

/-- Object o ends without having been sent. -/
def txFail (cx : Cx) (i o value : Nat) (h : Half) : Half :=
  raise cx 0xE2 (argCan i o) (BitVec.ofNat 32 value) (setObjSt i o 2 false (setObjSt i o 4 true h))

/-- The frame on the bus has ended without having been sent: an abort that waited for it fails the object, a waiting INIT takes
effect (R416, R427). -/
def endFrame (cx : Cx) (i : Nat) (h : Half) : Half :=
  let c := canOf h i
  let h := h.modCan i fun c => { c with tx := none, abort := false, initWait := false, st := if c.initWait then 0 else c.st }
  let h := if c.initWait then h.putF (RG.CAN_CTRL i) 0 0 1 else h
  match c.abort, c.tx with
  | true, some o => txFail cx i o 1 h
  | _, _ => h

/-- What waited for a frame whose controller R413 has taken off the bus is carried out; then a transmission starts where one
may. -/
def kick (cx : Cx) (i : Nat) (h : Half) : Half :=
  startTx cx i (if (canOf h i).dead && ((canOf h i).abort || (canOf h i).initWait) then endFrame cx i h else h)

/-- The effect on controller i, a transmission starting before and after it where one may. -/
def canOp (i : Nat) (f : Cx → Half → Half) (cx : Cx) (h : Half) : Half := kick cx i (f cx (kick cx i h))

/-- New error counts: the entries to error-passive and bus-off are raised (R417). -/
def setCounts (cx : Cx) (i tec rec : Nat) (h : Half) : Half :=
  let was := decide (128 ≤ (canOf h i).tec ∨ 128 ≤ (canOf h i).rec_)
  let h := h.modCan i fun c => { c with tec := tec, rec_ := min rec 255 }
  if 255 < tec then
    raise cx 0xE5 (argCan i 0xFF) 0 ((endFrame cx i h).modCan i fun c => { c with st := 3, at_ := cx.now })
  else raiseIf (!was && decide (128 ≤ tec ∨ 128 ≤ rec)) cx 0xE4 (argCan i 0xFF) 0 h

/-! ### On and off the bus (R415 to R420) -/

/-- The settings that a write of 0 to INIT needs (R415). -/
def canCfgOk (h : Half) (i : Nat) : Bool :=
  let n := fun (hi lo : Nat) => h.getF (RG.CAN_NBT i) hi lo
  let d := fun (hi lo : Nat) => h.getF (RG.CAN_DBT i) hi lo
  let nb := if n 8 0 = 0 then 512 else n 8 0
  decide (2 ≤ n 16 9 ∧ 2 ≤ n 23 17 ∧ 1 ≤ n 30 24 ∧ 1 ≤ d 5 0 ∧ d 5 0 ≤ 32 ∧ 1 ≤ d 10 6 ∧ 1 ≤ d 14 11 ∧ 1 ≤ d 18 15 ∧
    n 30 24 ≤ n 23 17 ∧ d 18 15 ≤ d 14 11) &&
  (h.getF (RG.CAN_CFG i) 0 0 == 0 ||
    decide (d 5 0 * (1 + d 10 6 + d 14 11) ≤ nb * (1 + n 16 9 + n 23 17))) &&
  !(h.getF (RG.CAN_CFG i) 8 8 == 1 && h.getF (RG.CAN_CFG i) 22 16 == 0)

/-- The limit of failed attempts (R426); none: unlimited. -/
def retryLimit (h : Half) (i : Nat) : Option Nat :=
  let n := h.getF (RG.CAN_CFG i) 7 4
  if n = 15 then none else some n

/-- Pending objects whose failed attempts exceed the limit as it now is end (R426). -/
def retireTx (cx : Cx) (i : Nat) (h : Half) : Half :=
  match retryLimit h i with
  | none => h
  | some n => ((List.range 128).filter fun o => objSt h i o 2 && decide (n < h.getF (RG.CAN_OBJ_ST i o) 11 8)).foldl
      (fun h o => txFail cx i o 0 h) h

/-- A write of 1 to INIT; during a frame, sent or received, it takes effect when the frame is complete. -/
def initSetF (i : Nat) : Cx → Half → Half := canOp i fun cx h =>
  gate (netUp h && !canInit h i) (fun h =>
    if (canOf h i).tx.isSome || receives cx h i then h.modCan i fun c => { c with initWait := true }
    else (h.putF (RG.CAN_CTRL i) 0 0 1).modCan i fun c => { c with st := 0, at_ := cx.now }) h

/-- A write of 0 to INIT. -/
def initReleaseF (i : Nat) : Cx → Half → Half := canOp i fun cx h =>
  gate (netUp h && canInit h i) (fun h =>
    if canCfgOk h i then
      retireTx cx i ((h.putF (RG.CAN_CTRL i) 0 0 0).modCan i fun c => { c with
        tec := 0, rec_ := 0, st := if canFenced h i then 3 else 0, at_ := cx.now })
    else canCfgErr cx.now i h) h

/-- 11 consecutive recessive bits: an integrating controller joins the bus. -/
def busIntegrationF (i : Nat) : Cx → Half → Half := canOp i fun cx h =>
  let c := canOf h i
  gate (canOn h i && !canFenced h i && c.st == 0 && decide (c.at_ + 11 * canBit h i ≤ cx.now))
    (fun h => h.modCan i fun c => { c with st := 1 }) h

/-- 128 times 11 recessive bits of a bus-off controller (R418). -/
def busOffRecoveryF (i : Nat) : Cx → Half → Half := canOp i fun cx h =>
  let c := canOf h i
  gate (canOn h i && !canFenced h i && c.st == 3 && h.getF (RG.CAN_CFG i) 2 2 == 1 &&
      decide (c.at_ + 1408 * canBit h i ≤ cx.now))
    (fun h => raise cx 0xE7 (argCan i 0xFF) 0 (h.modCan i fun c => { c with st := 1, tec := 0, rec_ := 0 })) h

/-- The controller goes bus-off at once and abandons its frame (R419, R420). -/
def forceBusOff (cx : Cx) (i : Nat) (h : Half) : Half :=
  let was := (canOf h i).st == 3
  let h := (endFrame cx i h).modCan i fun c => { c with st := 3, at_ := cx.now }
  raiseIf (!was) cx 0xE5 (argCan i 0xFF) 0 h

/-! ### Transmission (R424 to R427) -/

def canTxreqF (i : Nat) (v : Word) : Cx → Half → Half := canOp i fun cx h =>
  let o := wbits v 6 0
  gate (netUp h && !objSt h i o 2) (fun h =>
    let fdf := objF h i o 3 3 == 1
    if (!fdf && objF h i o 4 4 == 1) || (fdf && h.getF (RG.CAN_CFG i) 0 0 == 0) then objErr cx.now i h
    else if objF h i o 0 0 = 0 ∨ objF h i o 1 1 = 0 then h
    else
      let h := h.putF (RG.CAN_OBJ_ST i o) 11 8 0
      setObjSt i o 2 true (setObjSt i o 3 false (setObjSt i o 4 false h))) h

/-- Abort of object o; a frame on the bus is completed first. -/
def abortObj (cx : Cx) (i o : Nat) (h : Half) : Half :=
  if !objSt h i o 2 then h
  else if (canOf h i).tx = some o then h.modCan i fun c => { c with abort := true }
  else txFail cx i o 1 h

def canTxabortF (i : Nat) (v : Word) : Cx → Half → Half := canOp i fun cx h =>
  gate (netUp h) (abortObj cx i (wbits v 6 0)) h

/-- The frame on the bus has been sent; an abort that waited for it is void (R427). -/
def canTxSuccessF (i : Nat) : Cx → Half → Half := canOp i fun cx h =>
  match (canOf h i).tx with
  | none => h
  | some o =>
    gate (joined h i) (fun h =>
      let f := (canOf h i).frame
      let h := setObjSt i o 2 false (setObjSt i o 3 true (h.modCan i fun c => { c with abort := false }))
      let h := (h.put (RG.CAN_OBJ_TIME i o) (BitVec.ofNat 32 h.ns)).send (.can cx.now i f)
      let h := setCounts cx i ((canOf h i).tec - 1) (canOf h i).rec_ h
      endFrame cx i (raiseIf (objF h i o 5 5 == 1) cx 0xE1 (argCan i o) (f.id.setWidth 32) h)) h

/-- What a failed attempt adds to TEC: nothing for a missing acknowledgement in an error-passive controller, nor for a stuff
error in arbitration (ISO 11898-1; PRESUMED, log entry 42). -/
def tecStep (c : Can) : TxErr → Nat
  | .stuff => 0
  | .ack => if 128 ≤ c.tec ∨ 128 ≤ c.rec_ then 0 else 8
  | .other => 8

/-- An attempt has failed. -/
def canTxErrorF (i : Nat) (err : TxErr) : Cx → Half → Half := canOp i fun cx h =>
  match (canOf h i).tx with
  | none => h
  | some o =>
    gate (joined h i) (fun h =>
      let n := h.getF (RG.CAN_OBJ_ST i o) 11 8 + 1
      let spent := !(canOf h i).abort && ((retryLimit h i).map fun l => decide (l < n)).getD false
      let h := h.putF (RG.CAN_OBJ_ST i o) 11 8 (min 15 n)
      let h := if spent then txFail cx i o 0 h else h
      setCounts cx i ((canOf h i).tec + tecStep (canOf h i) err) (canOf h i).rec_ (endFrame cx i h)) h

/-! ### Reception (R428 to R430) -/

/-- The object that takes a frame. -/
def rxObj (h : Half) (i : Nat) (f : CanFrame) : Option Nat :=
  (List.range 128).find? fun o =>
    let m := h.getF (RG.CAN_OBJ_MASK i o) 28 0
    let s := objF h i o 9 8
    objF h i o 0 0 == 1 && objF h i o 1 1 == 0 && (objF h i o 2 2 == 1) == f.ide &&
      (f.id &&& BitVec.ofNat 29 m) == (BitVec.ofNat 29 (h.getF (RG.CAN_OBJ_ID i o) 28 0) &&& BitVec.ofNat 29 m) &&
      (s == 0 || s == 3 || (s == 1 && !f.fdf) || (s == 2 && f.fdf))

/-- The registers of object o that a frame goes into. -/
def rxRegs (i o : Nat) : List Nat :=
  [RG.CAN_OBJ_ST i o, RG.CAN_OBJ_RXID i o, RG.CAN_OBJ_TIME i o] ++ (List.range 16).map (RG.CAN_OBJ_DATA i o)

/-- A frame is stored in object o, with the short stamp of its start-of-frame bit (R369). -/
def storeRx (now i o : Nat) (f : CanFrame) (h : Half) : Half :=
  let n := min f.data.length (dlcBytes f.fdf f.dlc.toNat)
  let bytes := f.data.take n ++ List.replicate (64 - n) 0
  let st := (h.reg (RG.CAN_OBJ_ST i o) &&& 0xFFF#32) ||| 1#32
  let h := h.put (RG.CAN_OBJ_ST i o) (wset (wset (wset (wset st 19 16 f.dlc.toNat) 20 20 (b2n f.fdf)) 21 21 (b2n f.brs)) 22 22 (b2n f.esi))
  let h := h.put (RG.CAN_OBJ_RXID i o) (wset (f.id.setWidth 32) 31 31 (b2n f.ide))
  let h := h.put (RG.CAN_OBJ_TIME i o) (BitVec.ofNat 32 (h.before now f.sof).ns)
  (List.range 16).foldl (fun h j => h.put (RG.CAN_OBJ_DATA i o j) (BitVec.ofNat 32 (ofLe ((bytes.drop (4 * j)).take 4)))) h

def takeRx (cx : Cx) (i : Nat) (f : CanFrame) (h : Half) : Half :=
  match rxObj h i f with
  | none => h.count (RG.CAN_CNT_NOMATCH i)
  | some o =>
    let v : Word := f.id.setWidth 32
    let lost := objSt h i o 0
    let h := h.modCan i fun c => { c with held := some ⟨cx.now, o, f, lost, (rxRegs i o).map h.reg⟩ }
    let h := if lost then raise cx 0xE3 (argCan i o) v (setObjSt i o 1 true h) else h
    if lost && objF h i o 6 6 == 0 then h
    else raiseIf (objF h i o 5 5 == 1) cx 0xE0 (argCan i o) v (storeRx cx.now i o f h)

/-- A received frame becomes valid. A frame of this controller has lost arbitration to it and stays pending. -/
def canRxFrameF (i : Nat) (f : CanFrame) : Cx → Half → Half := canOp i fun cx h =>
  gate (joined h i && (!f.fdf || h.getF (RG.CAN_CFG i) 0 0 == 1)) (fun h =>
    let h := endFrame cx i h
    let r := (canOf h i).rec_
    let r' := if r ≤ 127 then r - 1 else 119 + Config.freeRec cx.me i cx.now % 9
    let h := if canListen h i then h else setCounts cx i (canOf h i).tec r' h
    let h := h.count (RG.CAN_CNT_RXOK i)
    if f.rtr then h.count (RG.CAN_CNT_RTR i) else takeRx cx i f h) h

/-- A bus error while receiving ends the frame; a frame of this controller had lost arbitration to it. Nothing is counted in
listen-only (R421). -/
def canRxErrorF (i inc : Nat) : Cx → Half → Half := canOp i fun cx h =>
  gate (joined h i) (fun h =>
    endFrame cx i (if canListen h i then h else setCounts cx i (canOf h i).tec ((canOf h i).rec_ + inc) h)) h

/-- A recessive res bit in an FD frame. -/
def protocolExceptionF (i : Nat) : Cx → Half → Half := canOp i fun cx h =>
  gate (joined h i && h.getF (RG.CAN_CFG i) 0 0 == 1) (fun h =>
    let h := (endFrame cx i (h.count (RG.CAN_CNT_PEXC i))).modCan i fun c => { c with st := 0, at_ := cx.now }
    raise cx 0xE6 (argCan i 0xFF) 0 h) h

/-- Object o is copied into the snapshot registers; NEW and MSGLST are cleared. -/
def snapshot (i o : Nat) (h : Half) : Half :=
  let h := (List.range 3).foldl (fun h j => h.put (RG.CAN_SNAP i j) (h.reg (RG.CAN_OBJ_ST i o + 4 * j))) h
  let h := (List.range 16).foldl (fun h j => h.put (RG.CAN_SNAP i (13 + j)) (h.reg (RG.CAN_OBJ_DATA i o j))) h
  setObjSt i o 0 false (setObjSt i o 1 false h)

/-- An overrun of this clock that had no cause is taken back: its count, its record and its trigger (DEDUCED, log entry 132). -/
def unlose (cx : Cx) (i o : Nat) (h : Half) : Half :=
  let mine := fun (r : EvRec) => r.source == 0xE3 && r.half == cx.me && r.arg == argCan i o
  let h := h.putF (RG.SD_SRC 0xE3) 15 0 (h.getF (RG.SD_SRC 0xE3) 15 0 - 1)
  let h := { h with me := { h.me with
    evs := h.me.evs.filter fun r => !(mine r && r.cycle == BitVec.ofNat 32 h.glb.cycle), trig := h.me.trig.erase (.source 0xE3) } }
  h.modSd fun s => { s with
    queue := s.queue.filter fun q => !(mine q.2 && sameClock q.1 cx.now), merged := s.merged.erase (0xE3, argCan i o) }

/-- The snapshot of object o. A frame that the object took in the same clock is stored after the copy (R430). -/
def canRxsnapF (i : Nat) (v : Word) : Cx → Half → Half := canOp i fun cx h =>
  let o := wbits v 6 0
  gate (netUp h) (fun h =>
    match (canOf h i).held.filter fun x => x.obj == o && sameClock x.at_ cx.now with
    | none => snapshot i o h
    | some x =>
      let h := (((rxRegs i o).zip x.old).foldl (fun h w => h.put w.1 w.2) h).modCan i fun c => { c with held := none }
      let h := storeRx x.at_ i o x.frame (snapshot i o (if x.lost then unlose cx i o h else h))
      raiseIf (x.lost && objF h i o 6 6 == 0 && objF h i o 5 5 == 1) cx 0xE0 (argCan i o) (x.frame.id.setWidth 32) h) h

/-- A fence takes effect at a port or a controller (R385, R419). -/
def netFence (cx : Cx) (u : FUnit) (h : Half) : Half :=
  match u with
  | .eth p => reselect cx (h.modPort p fun x => { x with egress := [] })
  | .can i => if canFenced h i then forceBusOff cx i h else h
  | _ => h

/-- At T0 a controller whose half has become ACTIVE starts to send (R422). -/
def canT0 (cx : Cx) (h : Half) : Half := startTx cx 1 (startTx cx 0 h)

end Sys2Proof.Machine
end

