-- ==== Sys2Proof/Machine/Clocks.lean ====
section
/-! DEFINITION. Reference, clock monitor, PLLs and gated clocks (11_clocks_timebase.md, R359 to R365, R373). Whether REFIN_10M
is present is the board's: it is free (DESIGN CHOICE, log entry 44). -/
namespace Sys2Proof.Machine

def pllOf (h : Half) (p : Nat) : Pll := vget h.ck.pll p
def Half.modPll (h : Half) (p : Nat) (f : Pll → Pll) : Half := h.modCk fun c => { c with pll := vmod c.pll p f }

/-! ### The crystal (R359) -/

def lullUp (h : Half) : Bool := railGood h .lull

/-- The crystal has been good for 1 ms. -/
def xtalGoodF (cx : Cx) (h : Half) : Half :=
  gate (lullUp h && !h.ck.xtalOk && decide (h.ck.xtalStart + tMs 1 ≤ cx.now)) (fun h =>
    let h := (h.putF RG.CLK_START 0 0 1).putF RG.CLK_START 15 8 (min 255 ((cx.now - h.ck.xtalStart) / tMs 1))
    h.modCk fun c => { c with xtalOk := true, refOk := c.refOk || !c.ref10 }) h

def xtalFailF (cx : Cx) (h : Half) : Half :=
  gate (lullUp h && !h.ck.xtalOk && decide (h.ck.xtalStart + tMs 20 ≤ cx.now)) (fun h => h.putF RG.CLK_START 1 1 1) h

def xtalRestartF (cx : Cx) (h : Half) : Half :=
  gate (lullUp h && !h.ck.xtalOk && decide (h.ck.xtalStart + tMs 100 ≤ cx.now)) (fun h =>
    (h.putF RG.CLK_START 1 1 0).modCk fun c => { c with xtalStart := cx.now }) h

/-! ### PLLs (R361 to R364) -/

/-- The reference in use passes R361: REFIN_10M does again as soon as it is present. -/
def refPasses (cx : Cx) (h : Half) : Bool := h.ck.refOk || (h.ck.ref10 && h.pw.up != 0 && Config.refin10m cx.me cx.now)

/-- What the domains of PLL p lose with it. -/
def pllGone (cx : Cx) (p v : Nat) (h : Half) : Half :=
  match p with
  | 0 => raise cx 0xB1 0 (BitVec.ofNat 32 v) (h.modTb fun t => { t with fallback := true })
  | 1 => raise cx 0xB2 0 (BitVec.ofNat 32 v) ((lanesDown cx h).modTh fun t => { t with lanesTx := 0, lanesRx := 0 })
  | 2 => lvClock cx true v h
  | 3 =>
    let h := portRestart cx 1 (portRestart cx 0 h)
    raise cx 0xB3 0 (BitVec.ofNat 32 v) (forceBusOff cx 1 (forceBusOff cx 0 h))
  | 4 => raise cx 0xB4 0 (BitVec.ofNat 32 v) h
  | _ => raise cx 0xB5 0 (BitVec.ofNat 32 v) ((emptyHistory (fun _ => true) h).modAn fun a => { a with fallback := true })

/-- A loss of lock (R363). With VALUE 1, for a RELOCK or a reference failure, a PLL that has no lock is taken through it too
(R361, R364). -/
def pllLoss (cx : Cx) (p v : Nat) (h : Half) : Half :=
  if !((pllOf h p).on && ((pllOf h p).locked || v == 1)) then h else
  let n := h.getF (RG.CLK_PLL_STAT p) 23 16
  let h := h.putF (RG.CLK_PLL_STAT p) 23 16 (min 255 (n + 1))
  pllGone cx p v (h.modPll p fun x => { x with locked := false, fallback := true, lostAt := cx.now })

def pllUnlockF (p : Nat) (cx : Cx) (h : Half) : Half := pllLoss cx p 0 h

/-- The VCO may lock in this band (R362): at the first lock since its domain powered up in any, later in the stored band and its
two neighbours, and in any other once none of these has locked within 20 µs; four windows of 1 µs confirm the lock. -/
def bandFits (now p band : Nat) (h : Half) : Bool :=
  let x := pllOf h p
  let b := h.getF (RG.CLK_PLL_STAT p) 5 0
  !x.found || h.getF (RG.CLK_PLL_STAT p) 6 6 == 0 || decide (band ≤ b + 1 ∧ b ≤ band + 1) || decide (x.lostAt + tUs 24 ≤ now)

/-- REFMUL as the PLL takes it at a lock (R364). -/
def refMul (h : Half) (p : Nat) : Nat := h.getF (RG.CLK_PLL_CFG p) 1 0 % 3

/-- The lock is confirmed over four windows of 1 µs: the domains change back. The reference in use has passed by then. -/
def pllLockF (p : Nat) (band : BitVec 6) (cx : Cx) (h : Half) : Half :=
  let x := pllOf h p
  gate (x.on && !x.locked && refPasses cx h && decide (x.lostAt + tUs 4 ≤ cx.now) && bandFits cx.now p band.toNat h) (fun h =>
    let h := (h.putF (RG.CLK_PLL_STAT p) 5 0 band.toNat).putF (RG.CLK_PLL_STAT p) 6 6 1
    let h := (h.modPll p fun x => { x with locked := true, fallback := false, found := true, mult := refMul h p }).modCk
      fun c => { c with refOk := true }
    match p with
    | 0 => h.modTb fun t => { t with fallback := false }
    | 1 => laneEpoch cx.now (h.modTh fun t => { t with lanesTx := 3, lanesRx := 3, laneLog := (cx.now, 2) :: t.laneLog })
    | 2 => lvClock cx false 0 h
    | 3 => [0, 1].foldl (fun h i => h.modCan i fun c => { c with at_ := cx.now }) h
    | 4 => h
    | _ => (emptyHistory (fun _ => true) h).modAn fun a => { a with fallback := false }) h

/-- A write to CLK_PLLp_CFG; RELOCK takes the PLL through a loss. -/
def relockF (p : Nat) (v : Word) (cx : Cx) (h : Half) : Half :=
  gate (h.glb.dev != .lullOnly) (fun h =>
    let h := h.putF (RG.CLK_PLL_CFG p) 1 0 (wbits v 1 0)
    if wbit v 8 then pllLoss cx p 1 h else h) h

/-- The reference fails: every PLL is lost; the crystal oscillator is started anew. -/
def clkRefFailF (cx : Cx) (h : Half) : Half :=
  gate (refPasses cx h && h.pw.up != 0) (fun h =>
    let h := h.modCk fun c => if c.ref10 then { c with refOk := false } else
      { c with refOk := false, xtalOk := false, xtalStart := cx.now }
    let h := h.putF RG.CLK_START 0 0 (b2n h.ck.xtalOk)
    raise cx 0xB0 0 0 ((List.range 6).foldl (fun h p => pllLoss cx p 1 h) h)) h

/-! ### Gating (R365) -/

/-- The clock of domain d is to be gated once its accesses are over: its turn to power down has come, or a throttle level
divides the clock of CORE. -/
def gating (h : Half) (d : Nat) : Bool :=
  (h.pw.downs.head? == some d && !h.protecting) || (d == 0 && h.tm.level != 0)

/-- The clocks of domain d are gated or stopped. -/
def gated (h : Half) (d : Nat) : Bool :=
  !domUp h d || h.pw.downs.head? == some d ||
  (d != 0 && d != 4 && (pllsOf d).any fun p => !(pllOf h p).locked)

/-- An access has been under way for CLK_GATE.TIMEOUT_US since the domain stopped accepting others: it gets an error response,
and only then is the clock gated, so that the switches of a domain that powers down open 50 µs later (R365, R441). -/
def clkGateTimeoutF (d since : Nat) (cx : Cx) (h : Half) : Half :=
  gate (h.glb.dev != .lullOnly && gating h d && decide (since + tUs (max 1 (h.getF RG.CLK_GATE 7 0)) ≤ cx.now)) (fun h =>
    let h := (h.send (.abort cx.now d)).count RG.CLK_CNT_GATE_TO
    let h := if h.pw.downs.head? = some d ∧ h.protecting = false then
        h.modPw fun p => { p with downAt := max p.downAt (cx.now + tUs 50) } else h
    raise cx 0xB6 d 0 h) h

end Sys2Proof.Machine
end

