-- ==== Sys2Proof/Machine/Gust.lean ====
section
/-! DEFINITION. What Sheepdog does at T0 and on a write to SD_CLEAR: stage trips, block holds, clears and
degraded marks (08_sheepdog_gust.md, R270, R272, R278, R281 to R283, R531). -/
namespace Sys2Proof.Machine

/-! ### Stage trips at T0 (R272, R531) -/

def trippable (s : Stage) : Bool := s == .precharge || s == .run || s == .test || s == .recovery

/-- Stages that a trip takes to TRIPPED at this T0: a Gust trip at the first T0, the others 200 ns after the raise. -/
def tripsDue (now : Nat) (h : Half) : Nat :=
  (h.sd.trips.filter fun t => t.gust || decide (t.time + tNs 200 ≤ now)).foldl (fun m t => m ||| t.stages) 0

def takeTrips (cx : Cx) (h : Half) : Half :=
  let m := tripsDue cx.now h
  let h := h.modSd fun s => { s with trips := s.trips.filter fun t => !(t.gust || decide (t.time + tNs 200 ≤ cx.now)) }
  let h := if m % 2 = 1 ∧ trippable h.glb.mv then mvEnter cx.now .tripped h else h
  if m / 2 % 2 = 1 ∧ trippable h.glb.lv then lvEnter cx.now .tripped h else h

/-! ### Block holds (R278, R279) -/

/-- Both comparators of a trip input have been unasserted for 10 µs. -/
def tripQuiet (now : Nat) (h : Half) (n : Nat) : Bool :=
  let t := tripOf h n
  !t.softNow && !t.hardNow && decide (t.softOff + tUs 10 ≤ now ∧ t.hardOff + tUs 10 ≤ now)

/-- The hold of cluster x meets every condition of its release. -/
def holdFree (now : Nat) (h : Half) (x : Nat) : Bool :=
  (h.glb.mv == .recovery || (h.glb.mv == .stopped && decide (h.glb.mvSince ≤ vget h.sd.holdAt x))) &&
  ((List.range 16).all fun n => !(vget h.sd.holdTrips x).getLsbD n || tripQuiet now h n) &&
  (!h.sd.holdStage.getLsbD x || h.glb.mv == .recovery)

/-- The ACTIVE half judges the holds and tells the other half; without an ACTIVE half each judges its own. The release acts
at the next T0. (DEDUCED, log entry 89.) -/
def judgeHolds (cx : Cx) (h : Half) : Half :=
  if !(h.glb.role == .active || h.th.oRole != .active) then h else
  let m := (List.range 3).foldl (fun (m : BitVec 3) x =>
    if h.sd.hold.getLsbD x && !h.sd.holdRelease.getLsbD x && holdFree cx.now h x then m ||| BitVec.ofNat 3 (2 ^ x) else m) 0
  if m = 0 then h
  else
    let h := h.modSd fun s => { s with holdRelease := s.holdRelease ||| m }
    if h.glb.role = .active then h.tether cx.now (.relay (.holdRelease m)) else h

/-- At T0 the holds judged releasable are released. -/
def releaseHolds (h : Half) : Half :=
  let m := h.sd.holdRelease
  h.modSd fun s => { s with
    hold := s.hold &&& ~~~m, holdRelease := 0, holdStage := s.holdStage &&& ~~~m
    holdTrips := vmapi s.holdTrips fun i t => if m.getLsbD i then 0 else t }

/-! ### Clears (R281 to R283) -/

/-- A CAN controller whose fence is cleared integrates anew, unless INIT or the loss of its clock keeps it off (R419, R420). -/
def rejoin (now i : Nat) (h : Half) : Half :=
  let off := h.getF (RG.CAN_CTRL i) 0 0 == 1
  let st := if (vget h.ck.pll 3).locked then 0 else 3
  { h with can := vmod h.can i fun c =>
    { c with st := st, at_ := now, tec := if off then c.tec else 0, rec_ := if off then c.rec_ else 0 } }

/-- The fence of the unit of a clear is removed; unit 11 is a pair that the ACTIVE half cleared, 10 a converter
that the other half cleared. -/
def unfence (now unit index : Nat) (h : Half) : Half :=
  let off {w : Nat} (v : BitVec w) : BitVec w := v &&& ~~~(BitVec.ofNat w (2 ^ index))
  let h := if unit = 1 then h.modRing index fun r => { r with freeAt := now } else if unit = 5 then rejoin now index h else h
  h.modSd fun s =>
    match unit with
    | 1 => { s with ringFence := off s.ringFence }
    | 2 => { s with adcFence := off s.adcFence }
    | 3 => { s with pairFence := off s.pairFence, pairLocal := off s.pairLocal }
    | 4 => { s with ethFence := off s.ethFence }
    | 5 => { s with canFence := off s.canFence }
    | 10 => { s with oadcFence := off s.oadcFence }
    | 11 => { s with pairFence := off s.pairFence, pairLocal := off s.pairLocal }
    | _ => s

/-- At T0 a clear at least 200 ns old acts, unless its unit was fenced anew meanwhile. -/
def takeClears (cx : Cx) (h : Half) : Half :=
  let due (q : ClearReq) : Bool := decide (q.time + tNs 200 ≤ cx.now)
  let qs := h.sd.clear.filter due
  let h := h.modSd fun s => { s with clear := s.clear.filter fun q => !due q }
  let h := qs.foldl (fun h q =>
    if q.spoiled then (if q.report then h.put RG.SD_CLEAR_STAT 2 else h)
    else unfence cx.now q.unit q.index (if q.report then h.put RG.SD_CLEAR_STAT 1 else h)) h
  let ds := h.sd.degClear
  let m := ds.foldl (fun m d => m ||| d.2) 0
  let h := if ds.isEmpty then h else
    h.modSd fun s => { s with
      deg := s.deg &&& ~~~(BitVec.ofNat 2 m), degClear := [], clockBase := s.clockBase &&& ~~~(BitVec.ofNat 2 m)
      clockDeg := s.clockDeg.map fun x => (x.1, x.2.1 &&& ~~~(BitVec.ofNat 2 m), x.2.2) }
  if ds.any (fun d => d.1 == 1) ∧ h.reg RG.SD_CLEAR_STAT = 5 then h.put RG.SD_CLEAR_STAT 1 else h

/-- The unit that SD_CLEAR names is fenced. -/
def clearFenced (h : Half) (unit index : Nat) : Bool :=
  match unit with
  | 1 => h.sd.ringFence.getLsbD index
  | 2 => h.sd.adcFence.getLsbD index
  | 3 => (h.sd.pairFence ||| h.sd.pairLocal).getLsbD index
  | 4 => h.sd.ethFence.getLsbD index
  | _ => h.sd.canFence.getLsbD index

/-- UNIT and INDEX name a unit that this half may clear. -/
def clearValid (h : Half) (unit index : Nat) : Bool :=
  match unit with
  | 1 => decide (index < 12)
  | 2 => decide (index < 24)
  | 3 => decide (index < 13) && h.glb.role == .active
  | 4 => decide (index < 2)
  | 5 => decide (index < 2)
  | _ => false

/-- A cause within SD.CLEAR_MS, or a latch that holds a pair (R282). -/
def clearCause (me : HalfId) (now : Nat) (h : Half) (unit index : Nat) : Bool :=
  (h.sd.raisedAt.any fun r => r.1 == clearCode me unit index && decide (now < r.2 + tMs (h.bn BK.SD_CLEAR_MS))) ||
  (unit == 3 && (tripHeld h index || (decide (index < 12) && (pairOf h index).flt)))

/-- Why the UNIT and INDEX of a write to SD_CLEAR are refused: RESULT. -/
def clearRefused (me : HalfId) (now : Nat) (h : Half) (u i : Nat) : Option Nat :=
  if !clearValid h u i then some 4
  else if !clearFenced h u i then some 3
  else if clearCause me now h u i then some 2
  else none

/-- SD_CLEAR_STAT no longer shows what becomes of an earlier write. -/
def newClear (h : Half) : Half :=
  h.modSd fun s => { s with
    clear := s.clear.map fun q => { q with report := false }
    degClear := s.degClear.map fun d => (if d.1 = 1 then 2 else d.1, d.2) }

/-- An accepted clear of a unit. -/
def clearUnit (cx : Cx) (u i : Nat) (h : Half) : Half :=
  let h := h.modSd fun s => { s with clear := s.clear ++ [⟨u, i, cx.now, false, true⟩] }
  if u = 3 then h.tether cx.now (.relay (.clear (BitVec.ofNat 13 (2 ^ i)) 0))
  else if u = 2 then h.tether cx.now (.relay (.clear 0 (BitVec.ofNat 24 (2 ^ i))))
  else h

/-- An accepted clear of the degraded marks of stages m. -/
def clearMarks (cx : Cx) (m : Nat) (h : Half) : Half :=
  (h.modSd fun s => { s with degClear := s.degClear ++ [(1, m)] }).tether cx.now
    (.relay (.degClear (decide (m % 2 = 1)) (decide (m / 2 % 2 = 1))))

/-- A write to SD_CLEAR: its UNIT and INDEX, and its marks (R282, R283). Each part is judged by itself; SD_CLEAR_STAT shows
a refusal before a clear that waits. (DESIGN CHOICE, log entry 110.) -/
def sdClear (v : Word) (cx : Cx) (h : Half) : Half :=
  let u := wbits v 2 0
  let i := wbits v 12 8
  let m := wbits v 17 16
  if u = 0 ∧ m = 0 then h else
  let h := newClear (matureRings cx h)
  let bad : Option Nat := if u = 0 then none else clearRefused cx.me cx.now h u i
  let no := decide (m ≠ 0) && h.glb.role != .active
  let h := if u ≠ 0 ∧ bad.isNone then clearUnit cx u i h else h
  let h := if m ≠ 0 ∧ !no then clearMarks cx m h else h
  h.put RG.SD_CLEAR_STAT (BitVec.ofNat 32 (bad.getD (if no then 4 else 5)))

def sdClearF (v : Word) (cx : Cx) (h : Half) : Half := gate (h.glb.dev != .lullOnly) (sdClear v cx) h

/-- A write of 1 to SD_CLEAR.DEG_MV. -/
def degMvF (cx : Cx) (h : Half) : Half := sdClearF 0x10000#32 cx h
/-- A write of 1 to SD_CLEAR.DEG_LV. -/
def degLvF (cx : Cx) (h : Half) : Half := sdClearF 0x20000#32 cx h

/-- SD_STATUS and the SD_FENCE registers take the fences, marks and holds in force at this T0 (R285). -/
def showSd (h : Half) : Half :=
  let s := h.sd
  let h := (h.put RG.SD_STATUS (BitVec.ofNat 32 (s.deg.toNat + 2 ^ 4 * s.hold.toNat))).put RG.SD_FENCE_RING (s.ringFence.setWidth 32)
  let h := (h.put RG.SD_FENCE_PAIR ((s.pairFence ||| s.pairLocal).setWidth 32)).put RG.SD_FENCE_ADC (s.adcFence.setWidth 32)
  h.put RG.SD_FENCE_NET (BitVec.ofNat 32 (s.ethFence.toNat + 2 ^ 4 * s.canFence.toNat))

/-- The Sheepdog part of T0 before the commands of the cycle: merged raises end, trips, pair fences, holds and
clears act. -/
def sheepdogT0 (cx : Cx) (h : Half) : Half :=
  let h := matureRings cx (h.modSd fun s => { s with merged := [] })
  let h := takeTrips cx h
  let h := matureFences cx.me cx.now isPairUnit h
  lvRefresh cx.now (takeClears cx (releaseHolds h))

end Sys2Proof.Machine
end

