-- ==== Sys2Proof/Machine/Service.lean ====
section
/-! DEFINITION. Received service frames: enumeration, acknowledgements, waveforms, node events, and the
sending of node firmware (03_herd_rings.md, R84, R87, R94, R95, R532; R347, R350; R492). -/
namespace Sys2Proof.Machine

/-! ### Fields of a frame -/

def svcKind (f : SvcFrame) : Nat := bits f.start 27 20
def svcFrom (f : SvcFrame) : Nat := bits f.start 17 13
def svcTo (f : SvcFrame) : Nat := bits f.start 12 8
def svcSeq (f : SvcFrame) : Nat := bits f.start 49 34
def svcPay (f : SvcFrame) (i : Nat) : Block := f.data.getD i 0

/-- R84 for a frame to a half; a frame of any SRCP is accepted. -/
def svcOk (f : SvcFrame) : Bool :=
  bits f.start 7 0 == 0x78 && bits f.fin 7 0 == 0x87 && bits f.start 33 28 == f.data.length &&
  bits f.fin 39 8 == (crc32c (svcBytes f.start f.data)).toNat && svcTo f == 0

/-- The receiver of ring k passes blocks on (R50). -/
def laneHears (h : Half) (k : Nat) : Bool := laneOn h && ((h.ring k).lane == .block || (h.ring k).lane == .up)

/-- The ring logic of this half sees blocks of the lane (R50). -/
def ringHears (h : Half) (k : Nat) : Bool := laneHears h k && onRings h

/-! ### Node firmware (R492) -/

/-- The chunk of an image at an offset: a 4-byte offset and up to 252 bytes, in blocks. -/
def fwBlocks (img : List Byte) (off : Nat) : List Block :=
  let bs := leBytes 4 off ++ (img.drop off).take 252
  (List.range (ceilDiv bs.length 8)).map fun i => BitVec.ofNat 64 (ofLe ((bs.drop (8 * i)).take 8))

def fwBytes (h : Half) : List Byte := match h.tm.updImg with
  | some i => i.head ++ i.payload
  | none => []

/-- Send context c the chunk that is next for it. -/
def fwSend (cx : Cx) (c : Nat) (h : Half) : Half :=
  match h.tm.fwNext.find? fun x => x.1 == c with
  | none => h
  | some (_, off) =>
    let x := h.cell c
    sendActive cx ⟨x.ring % 12, Nat.mod_lt _ (by decide)⟩ x.pos 0x20 (fwBlocks (fwBytes h) off) h

/-- A node drops out of the activation: source 0xF3. -/
def fwFail (cx : Cx) (c : Nat) (h : Half) : Half :=
  let h := { h with tm := { h.tm with
    fwNext := h.tm.fwNext.filter (fun x => x.1 ≠ c), fwFailed := insNat c h.tm.fwFailed } }
  raise cx 0xF3 c 0 h

/-- The stage of node firmware ends when no node has a chunk left: STAGED, source 0xF2 (R492, R496). -/
def fwDone (cx : Cx) (h : Half) : Half :=
  if h.tm.fwNext.isEmpty ∧ h.tm.upd = 2 ∧ h.tm.updImage = 2 then
    raise cx 0xF2 0 0 { h with tm := { h.tm with upd := 4 } }
  else h

/-- A chunk of context c is acknowledged with `status`. -/
def fwAck (cx : Cx) (c status : Nat) (h : Half) : Half :=
  match h.tm.fwNext.find? fun x => x.1 == c with
  | none => h
  | some (_, off) =>
    if status = 2 then fwDone cx (fwFail cx c h)
    else
      let nxt := off + 252
      if (fwBytes h).length ≤ nxt then
        fwDone cx { h with tm := { h.tm with
          fwNext := h.tm.fwNext.filter (fun x => x.1 ≠ c), fwDone := insNat c h.tm.fwDone } }
      else fwSend cx c { h with tm := { h.tm with
          fwNext := h.tm.fwNext.map (fun x => if x.1 = c then (c, nxt) else x) } }

/-- R88's resends, with what R492 adds when a chunk times out. -/
def svcResendF (k : RingNo) (p : Nat) (cx : Cx) (h : Half) : Half :=
  let late := (vget h.svc k).wait.find? fun f => f.pos == p && mayResend h f.kind && decide (f.sent + tUs 100 ≤ cx.now)
  let h := svcResendCore k p cx h
  match late, boundAt h k p with
  | some f, some c => if f.kind = 0x20 ∧ 3 ≤ f.tries then fwDone cx (fwFail cx c h) else h
  | _, _ => h

/-! ### Replies -/

/-- What both halves do with an ENUM_REPLY (R94, R95, R532). One whose PROTO or CONV is refused raises 0x16 alone, even where no
context resolves for its position (DEDUCED, log entry 116). -/
def takeReply (cx : Cx) (k p : Nat) (f : SvcFrame) (h : Half) : Half :=
  let b0 := svcPay f 0
  let b2 := svcPay f 2
  let serial := (svcPay f 1).toNat
  let cut := bits b2 7 0
  let conv := bits b2 15 8
  let h := h.modSvc k fun s => { s with wait := s.wait.filter fun w => !(w.pos == p && w.kind == 0x01) }
  let h := h.modNode k p fun n => { n with
    noReply := false, answered := true, cut := cut, conv := conv, model := bits b0 47 32, fwver := bits b0 63 48
    caps := bits b2 23 16 + 256 * bits b0 31 16 }
  let n := h.node k p
  let arg := argPos k p
  match boundAt h k p with
  | some c =>
    if (h.cell c).serial = serial then h.modNode k p fun n => { n with known := true }
    else
      let h := raise cx 0x1D arg (BitVec.ofNat 32 c) h
      if (h.cell c).st = .faulted then h
      else (leaveRank c h).modCell c fun x => { x with st := .faulted, queued := false, standby := false }
  | none =>
    let h := h.modNode k p fun n => { n with serial := serial }
    if n.fwd || n.binding.isSome then h
    else if bits b0 15 8 ≠ 1 ∨ 80 < conv then
      raise cx 0x16 arg 0xFF (h.modNode k p fun n => { n with fwd := true })
    else match ctxOf h k p with
      | none => raise cx 0x13 arg 0xFF (h.modNode k p fun n => { n with fwd := true })
      | some _ => h.modNode k p fun n => { n with binding := some ⟨cx.now, false, none⟩, abandoned := false }

/-- What both halves do with an ACK (R87, R88, R492, R532). (DEDUCED, log entry 72.) In a half that does not reach the node an
ACK passed on by the other is that of its TIME_SET (DEDUCED, log entry 124). -/
def takeAck (cx : Cx) (k p : Nat) (relayed : Bool) (f : SvcFrame) (h : Half) : Half :=
  let seq := bits (svcPay f 0) 15 0
  let status := bits (svcPay f 0) 23 16
  let w := (vget h.svc k).wait.find? fun w => w.pos == p && w.seq == seq
  let h := h.modSvc k fun s => { s with wait := s.wait.filter fun w => !(w.pos == p && w.seq == seq) }
  let kind := (w.map (·.kind)).getD 0
  let h := if kind = 0x03 then h.modNode k p fun n => { n with
      timeAck := true
      binding := n.binding.map fun b => { b with ackAt := b.ackAt.or (some cx.now) } } else h
  let far := relayed && !reaches cx.me (h.ring k) p
  let h := if far then h.modNode k p fun n => { n with
      binding := n.binding.map fun b => { b with ackAt := b.ackAt.or (some cx.now) } } else h
  match boundAt h k p with
  | some c => if kind = 0x20 ∨ far then fwAck cx c status h else h
  | none => h

/-- A WAVE payload goes to its stream ring in the ACTIVE half (R350). -/
def takeWave (cx : Cx) (k p : Nat) (f : SvcFrame) (h : Half) : Half :=
  match boundAt h k p with
  | none => h
  | some c =>
    match waveRing h c with
    | none => h.count RG.HI_CNT_WAVE_UNROUTED
    | some s => pushUnit cx s ⟨c, h.glb.cycle, f.data.flatMap fun b => leBytes 8 b.toNat, true⟩ h

/-- A NODE_EVENT waits for the event ring (R347). -/
def takeNodeEvent (k p : Nat) (f : SvcFrame) (h : Half) : Half :=
  match boundAt h k p with
  | none => h
  | some c =>
    if f.data.isEmpty ∨ 4 < f.data.length then h
    else h.modSd fun s => { s with nodeEv := s.nodeEv ++ [(c, h.stamp, BitVec.ofNat 32 h.glb.cycle, f)] }

/-- A frame from a node by its KIND; one that names no position has no effect. `relayed`: it came over the Tether. -/
def takeFrame (cx : Cx) (k p : Nat) (relayed : Bool) (f : SvcFrame) (h : Half) : Half :=
  let n := svcKind f
  if p = 0 ∨ 16 < p then h
  else if n = 0x02 then takeReply cx k p f h
  else if n = 0x05 then takeAck cx k p relayed f h
  else if n = 0x10 then (if h.glb.role = .active then takeWave cx k p f h else h)
  else if n = 0x30 then (if h.glb.role = .active then takeNodeEvent k p f h else h)
  else h

/-- A frame received on this half's ring: checked, passed to the other half, and taken (R84, R88). -/
def recvFrame (kind : Nat) (k : RingNo) (f : SvcFrame) (cx : Cx) (h : Half) : Half :=
  gate (laneHears h k) (fun h =>
    if blockError f.start then countBlock k f.start h
    else if !onRings h then countBlock k f.fin h
    else if blockError f.fin then svcError cx k (countBlock k f.fin h)
    else if !svcOk f then svcError cx k h
    else if svcKind f ≠ kind then h
    else
      let pass := kind = 0x02 || kind = 0x05 || h.glb.role != .active
      let h := if pass then h.tether cx.now (.relay (.svc k f)) else h
      takeFrame cx k (svcFrom f) false f h) h

def enumReplyF (k : RingNo) (f : SvcFrame) (cx : Cx) (h : Half) : Half := recvFrame 0x02 k f cx h
def ackF (k : RingNo) (f : SvcFrame) (cx : Cx) (h : Half) : Half := recvFrame 0x05 k f cx h
def waveF (k : RingNo) (f : SvcFrame) (cx : Cx) (h : Half) : Half := recvFrame 0x10 k f cx h
def nodeEventF (k : RingNo) (f : SvcFrame) (cx : Cx) (h : Half) : Half := recvFrame 0x30 k f cx h

def svcFrameDroppedF (k : RingNo) (cx : Cx) (h : Half) : Half := gate (ringHears h k) (svcError cx k) h

/-- A service frame that came over the Tether: one to a node is sent on this half's ring, one from a
node is taken. -/
def relayedFrame (cx : Cx) (k : RingNo) (f : SvcFrame) (h : Half) : Half :=
  if svcFrom f = 0 then
    if laneOn h ∧ onRings h then sendSvc cx k (svcTo f) (svcKind f) false true f.data h else h
  else if onRings h then takeFrame cx k (svcFrom f) true f h
  else h

end Sys2Proof.Machine
end

