-- ==== Sys2Proof/Machine/Redundancy.lean ====
section
/-! DEFINITION. The two halves: heartbeats, role and fence lines, shadowing, Gander and hand-over
(09_redundancy.md, R286 to R318). -/
namespace Sys2Proof.Machine

/-! ### Roles -/

def Role.ofCode : Nat → Role
  | 1 => .syncing | 2 => .standby | 3 => .active | 4 => .fenced | 5 => .updating | _ => .off

/-- A change of role and the cycle that TH_LAST_HO shows for it. -/
def setRole (r : Role) (h : Half) : Half :=
  (h.modGlb fun g => { g with role := r }).modTh fun t => { t with lastCycle := h.glb.cycle % 65536 }

/-- What a half does when it first enters STANDBY or ACTIVE: TRIAL is cleared (R490), and the rollback counters
follow the booted images (R488). -/
def firstService (cx : Cx) (h : Half) : Half :=
  if h.tm.served then h else
  let h : Half := { h with tm := { h.tm with served := true } }
  let h : Half := if h.tm.trialFw || h.tm.trialCfg then
      let tm := { h.tm with
        trialMarkFw := h.tm.trialMarkFw && !h.tm.trialFw, trialMarkCfg := h.tm.trialMarkCfg && !h.tm.trialCfg
        trialFw := false, trialCfg := false }
      { h.send (.slots cx.now tm.markFw tm.markCfg tm.trialMarkFw tm.trialMarkCfg) with tm := tm } else h
  let h := if h.tm.otpFw.getD (Config.otpFwSvn cx.me) < h.tm.fwSvn then
      raise cx 0xF5 0 (BitVec.ofNat 32 h.tm.fwSvn) { h with tm := { h.tm with otpFw := some h.tm.fwSvn } } else h
  if h.tm.otpCfg.getD (Config.otpCfgSvn cx.me) < h.tm.cfgSvn then
    raise cx 0xF5 0 (BitVec.ofNat 32 h.tm.cfgSvn) { h with tm := { h.tm with otpCfg := some h.tm.cfgSvn } } else h

/-- Hand-overs that stay set across a change of role: those of CMD_ROLEs for later cycles (R306). -/
def laterRoles (h : Half) : List (Nat × HalfId × Nat) := h.th.planned.filter fun p => decide (h.glb.cycle < p.1) && p.2.2 == 1

/-- The half becomes ACTIVE (R307, R308, R310, R353, R355). (DEDUCED, log entry 94.) -/
def becomeActive (cx : Cx) (h : Half) : Half :=
  let h := (setRole .active h).modTh fun t => { t with
    activeAt := cx.now, planned := laterRoles h, oFencedMsg := false, lostAt := none, check := none, failAt := none, xferFor := none
    installs := 0 }
  let h := h.modXf fun _ => default
  let h := (h.modOx fun o => { o with installAt := none }).modHi fun i => { i with
    rbAt := some cx.now, rbBusy := false }
  firstService cx h

/-- A STANDBY half takes the active role; the cause is that of TH_LAST_HO. -/
def toActive (cx : Cx) (cause : Nat) (h : Half) : Half :=
  let h := (becomeActive cx h).modTh fun t => { t with lastCause := cause }
  -- what the half before had not written back is lost (R355)
  let h := h.modHi fun i => { i with sr := i.sr.map fun s => { s with gap := true } }
  raise cx 0x97 (argHalf cx.me) (BitVec.ofNat 32 cause) (h.count RG.TH_CNT_HANDOVER)

/-- The half enters STANDBY: what it knows of completion records begins anew (R354). -/
def becomeStandby (cx : Cx) (h : Half) : Half :=
  let h := (setRole .standby h).modTh fun t => { t with cleanFrom := none }
  firstService cx (h.modHi fun i => { i with history := [] })

/-- The half is no longer the ACTIVE one: replicas waited for, reads under way, the read-back and moderation end (R334, R348, R353). -/
def stopHost (h : Half) : Half :=
  let h := h.modHi fun i => { i with
    repl := [], reading := none, readingRec := none, rbAt := none, rbBusy := false
    cq := i.cq.map fun c => { c with irqAt := none, irqWait := false } }
  { h with me := { h.me with frozen := h.me.frozen.map fun x => { x with reading := false } } }

/-- The old ACTIVE half becomes STANDBY at a planned hand-over: what is not carried is dropped (R310, R355); a record
it still owed counts as one it knows of. -/
def leaveActive (cx : Cx) (h : Half) : Half :=
  let h := h.modSd fun s => { s with queue := [], nodeEv := [] }
  let h := (stopHost h).modHi fun i => { i with
    cq := i.cq.map fun c => { c with due := [], prod := (c.prod + c.due.length) % two32 }
    sr := i.sr.map fun s => { s with units := [], first := none, cont := false, dropped := 0, dropRun := false } }
  let h := dropActiveFrames h
  reportDrops cx (becomeStandby cx ((h.modGlb fun g => { g with own := false }).modTh fun t => { t with
    oRole := .active, planned := laterRoles h, leftAt := cx.now }))

/-- An OFF half enters SYNCING (R31, R298). -/
def startSync (h : Half) : Half :=
  (setRole .syncing (h.modXf fun _ => default)).modTh fun t => { t with
    run := 0, notCmp := 0, installs := 0, gotSlow := false, check := none, failAt := none }

/-- A planned hand-over or a revert at T0 of its cycle (R306, R311). (DEDUCED, log entry 90.) -/
def plannedT0 (cx : Cx) (h : Half) : Half :=
  match h.th.planned.find? fun p => p.1 == h.glb.cycle with
  | none => h
  | some (_, who, cause) =>
    let revert (h : Half) : Half := if cause = 2 then h.modTh fun t => { t with lastRevert := some cx.now } else h
    if h.glb.role = .standby ∧ who = cx.me then
      let h := toActive cx cause ((revert h).modTh fun t => { t with oRole := .standby, lineAt := cx.now + tNs 20 })
      raiseIf (cause == 2) cx 0x98 (argHalf cx.me) 0 h
    else if h.glb.role = .active ∧ who ≠ cx.me ∧ h.th.oRole = .standby then
      (leaveActive cx (revert h)).modTh fun t => { t with lastCause := cause }
    else h.modTh fun t => { t with planned := t.planned.filter fun p => decide (h.glb.cycle < p.1) }

/-! ### State transfer: the ACTIVE half's side (R297 to R299) -/

/-- Tc in instants. -/
def tcNow (h : Half) : Nat := tNs (4 * h.bn BK.CYCLE_TC_TICKS)

/-- What the slow state is taken from, as it is now. -/
def slowOf (h : Half) : Slow where
  glb := h.glb
  sd := h.sd
  hi := h.hi
  rings := h.rings
  cells := h.cells
  an := h.an
  ox := h.ox
  tb := h.tb
  svCfg := h.net.svCfg
  nextNum := h.me.nextNum
  armed := h.me.armed
  winMm := h.th.winMm
  winFrom := h.th.winFrom
  bankCrc := h.th.bankCrc
  regs := h.regs

/-- A ring's setup registers and the doorbells (R326). -/
def isRingReg (o : Nat) : Bool := decide (0x60100 ≤ o ∧ o < 0x60400) || decide (0x100000 ≤ o ∧ o < 0x200000)

/-- What a node of the other half's list gives; what belongs to a half's own side stays. -/
def adoptNode (mine theirs : Node) : Node :=
  { theirs with
    missRun := mine.missRun, arrive := mine.arrive, tsNslot := mine.tsNslot, tsAt := mine.tsAt, tsDue := mine.tsDue, tsNow := mine.tsNow
    sideUpSince := mine.sideUpSince, unwrapAt := mine.unwrapAt, grantAt := mine.grantAt, probeAt := mine.probeAt }

/-- The producer count that a completion ring has once its waiting records are written. -/
def cqCount (c : CplRing) : Nat := (c.prod + c.due.length) % two32

/-- The items of the slow state alone (R298): what each cycle changes is left out. -/
def slowItems (x : Slow) : Slow :=
  { x with
    glb := { (default : Glb) with
      started := x.glb.started, ts := x.glb.ts, ta := x.glb.ta, want := x.glb.want, live := x.glb.live, pend := x.glb.pend
      commits := x.glb.commits, reqMv := x.glb.reqMv, reqLv := x.glb.reqLv, mv := x.glb.mv, lv := x.glb.lv }
    sd := { (default : Sd) with
      deg := x.sd.deg, hold := x.sd.hold, holdTrips := x.sd.holdTrips, holdStage := x.sd.holdStage, holdAt := x.sd.holdAt
      gen := x.sd.gen, pairFence := x.sd.pairFence, adcFence := x.sd.adcFence, oadcFence := x.sd.oadcFence }
    hi := { (default : Hi) with
      cr := x.hi.cr, held := x.hi.held, stored := x.hi.stored, repl := x.hi.repl
      cq := x.hi.cq.map fun c => { (default : CplRing) with prod := cqCount c }
      ev := { (default : CplRing) with prod := x.hi.ev.prod }
      sr := x.hi.sr.map fun s => { (default : StrRing) with prod := s.prod } }
    rings := x.rings.map fun r => { (default : Ring) with
      spans := r.spans, cuts := r.cuts, src := r.src, nodes := r.nodes.map (adoptNode default) }
    cells := x.cells.map fun c => { (default : Cell) with
      bound := c.bound, ring := c.ring, pos := c.pos, st := c.st, serial := c.serial, fenced := c.fenced, byCmd := c.byCmd
      barred := c.barred }
    an := { (default : An) with ch := x.an.ch.map fun c => { (default : AnCh) with pcount := c.pcount, dispute := c.dispute } }
    ox := { (default : Ox) with prePhase := x.ox.prePhase, preAt := x.ox.preAt, rampFrom := x.ox.rampFrom }
    tb := { (default : Tb) with
      epoch := x.tb.epoch, st := x.tb.st, disc := x.tb.disc, cal := x.tb.cal, step := x.tb.step
      holdAt := x.tb.holdAt, holdSync := x.tb.holdSync }
    regs := WMap.keep isRingReg x.regs }

/-- The slow state leaves for an install at T0 of cycle x. -/
def sendSlowFor (cx : Cx) (x : Nat) (h : Half) : Half :=
  let h := h.modXf fun x => { x with slowOut := some (slowOf h) }
  h.tether cx.now (.xfer .slow x true)

/-- The slow state is sent to a SYNCING half, for an install at least 4 cycles after its last chunk; it takes
less than 2 ms (DESIGN CHOICE, log entry 33). -/
def sendSlow (cx : Cx) (h : Half) : Half :=
  let x := h.glb.cycle + 4 + ceilDiv (tMs 2) (tcNow h)
  (sendSlowFor cx x h).modTh fun t => { t with xferFor := some x, installs := 0 }

/-- Until T0 of X a slow item that has changed is sent again (R298). -/
def resendSlow (cx : Cx) (h : Half) : Half :=
  match h.th.xferFor, h.xf.slowOut with
  | some x, some s =>
    if h.glb.role = .active ∧ h.th.oRole = .syncing ∧ h.th.installs = 0 ∧ h.glb.cycle < x ∧
        slowItems (slowOf h) ≠ slowItems s then sendSlowFor cx x h
    else h
  | _, _ => h

/-- An install for cycle X is wanted. -/
def wantFast (x : Nat) (h : Half) : Half :=
  h.modTh fun t => { t with xferFor := if (t.xferFor.map fun y => decide (h.glb.cycle < y)).getD false then t.xferFor else some x }

/-- At DISPATCH of cycle X − 1 Ox's state for X leaves (R297). (DEDUCED, log entry 93.) -/
def sendFast (cx : Cx) (h : Half) : Half :=
  let x := h.glb.cycle + 1
  if h.glb.role = .active ∧ h.th.xferFor = some x ∧ hasFollower h then
    let h := h.modXf fun q => { q with oxOut := some (x, h.cells, h.ox), ltOut := none }
    h.tether cx.now (.xfer .ox x (h.th.oRole == .syncing))
  else h

/-- After the pass of cycle X − 1 the Loop Table's state leaves (R297). -/
def sendLt (cx : Cx) (h : Half) : Half :=
  let x := h.glb.cycle + 1
  if h.glb.role = .active ∧ hasFollower h ∧ h.lt.pass.isNone ∧ h.xf.oxOut.map (·.1) = some x ∧ h.xf.ltOut.isNone then
    let h := h.modXf fun q => { q with ltOut := some (x, h.lt) }
    (h.tether cx.now (.xfer .lt x (h.th.oRole == .syncing))).modTh fun t => { t with installs := t.installs + 1 }
  else h

/-- A SYNCING half's run was broken after its install: a new install, or source 0x94 after the fourth. -/
def syncBroken (cx : Cx) (h : Half) : Half :=
  if h.glb.role = .active ∧ h.th.oRole = .syncing ∧ (h.th.xferFor.map fun x => decide (x ≤ h.glb.cycle)).getD false then
    if 4 ≤ h.th.installs then raise cx 0x94 (argHalf cx.me.other) 0 h
    else wantFast (h.glb.cycle + 2) h
  else h

/-! ### State transfer: the receiving side -/

/-- Words of a map taken from another for the keys that p names. -/
def adoptWords (d : Nat → Word) (p : Nat → Bool) (mine theirs : WMap) : WMap :=
  (WMap.keep p theirs).foldl (fun m x => WMap.set d m x.1 x.2) (WMap.keep (fun k => !p k) mine)

/-- The slow state of the ACTIVE half (R298), as it sent it; the cycle count and the epoch are those of the two timebases. -/
def adoptSlow (cx : Cx) (o : Slow) (h : Half) : Half :=
  let g := cx.other.glb
  let h := h.modGlb fun x => { x with cycle := g.cycle, started := g.started, t0 := g.t0, nextT0 := g.nextT0 }
  let h := h.modGlb fun g => { g with
    ts := o.glb.ts, ta := o.glb.ta
    want := o.glb.want, live := o.glb.live, pend := o.glb.pend, commits := o.glb.commits
    reqMv := o.glb.reqMv, reqLv := o.glb.reqLv }
  let h := if o.glb.mv = h.glb.mv then h else mvEnter cx.now o.glb.mv h
  let h := if o.glb.lv = h.glb.lv then h else lvEnter cx.now o.glb.lv h
  let h := markersAnew cx.now (moveEpoch cx.now cx.other.tb.epoch h)
  let h := h.modTb fun t => { t with
    st := o.tb.st, disc := o.tb.disc, cal := o.tb.cal, step := o.tb.step, holdAt := o.tb.holdAt, holdSync := o.tb.holdSync }
  let h := h.modHi fun i => { i with
    cr := vmapi i.cr fun r c => { (vget o.hi.cr r) with err := c.err, seqHi := c.seqHi }
    cq := vmapi i.cq fun q c => { c with prod := cqCount (vget o.hi.cq q) }
    ev := { i.ev with prod := o.hi.ev.prod }
    sr := vmapi i.sr fun s c => { c with prod := (vget o.hi.sr s).prod }
    held := o.hi.held, stored := o.hi.repl.map Repl.key ++ o.hi.stored }
  let h : Half := { h with
    regs := adoptWords regDefault isRingReg h.regs o.regs
    cells := o.cells
    -- a stream goes on with the frames that begin from now on (R399, R400)
    net := { h.net with svCfg := o.svCfg, sv := h.net.sv.map fun s => { s with from_ := max s.from_ h.ns } }
    me := { h.me with nextNum := o.nextNum, armed := o.armed }
    rings := vmapi h.rings fun k r =>
      let q := vget o.rings k
      { r with spans := q.spans, cuts := q.cuts, src := q.src, nodes := vmapi r.nodes fun i n => adoptNode n (vget q.nodes i) } }
  let h := h.modSd fun s => { s with
    deg := o.sd.deg, hold := o.sd.hold, holdTrips := o.sd.holdTrips, holdStage := o.sd.holdStage, holdAt := o.sd.holdAt
    gen := o.sd.gen, pairFence := o.sd.pairFence, adcFence := o.sd.oadcFence, oadcFence := o.sd.adcFence }
  let h := h.modAn fun a => { a with ch := vmapi a.ch fun n c =>
    { c with pcount := (vget o.an.ch n).pcount, dispute := (vget o.an.ch n).dispute } }
  let h := allTimeSets (h.modOx fun x => { x with prePhase := o.ox.prePhase, preAt := o.ox.preAt, rampFrom := o.ox.rampFrom })
  h.modTh fun t => { t with winMm := o.winMm, winFrom := o.winFrom, bankCrc := o.bankCrc, gotSlow := true }

/-- What Ox keeps of a cell from cycle to cycle, from the ACTIVE half; the binding, the fences and the records of the
snapshot stay this half's. -/
def adoptCell (mine theirs : Cell) : Cell :=
  { theirs with
    bound := mine.bound, ring := mine.ring, pos := mine.pos, serial := mine.serial, fenced := mine.fenced, late := mine.late
    byCmd := mine.byCmd, barred := mine.barred, unre := mine.unre }

/-- The fast state of the ACTIVE half (R297, R201). -/
def adoptFast (cells : Vector Cell 144) (ox : Ox) (lt : Lt) (h : Half) : Half :=
  { h with
    cells := vmapi h.cells fun c x => adoptCell x (vget cells c)
    ox := { ox with abstain := false, installAt := none, single := h.ox.single, snapDigest := h.ox.snapDigest, digest := h.ox.digest }
    lt := { lt with
      shown := h.lt.shown, shownBlk := h.lt.shownBlk, pass := none, overrun := h.lt.overrun, residues := h.lt.residues } }

def partIdx : XferPart → Nat
  | .slow => 0 | .ox => 1 | .lt => 2

/-- The replicas that have come to this half, oldest first. -/
def replicasHere (now : Nat) (h : Half) : List Repl :=
  (h.hi.stored.reverse.map fun x => ⟨x.1, x.2.1, x.2.2.1, dStatus x.2.2.1, dApply x.2.2.1, 0, now, now, false, x.2.2.2⟩) ++ h.xf.early

/-- The slow state is adopted: replicas that it holds count as come, with those that the ACTIVE half still waits for among
them, and those judged since it left are entered upon it (R298, R335, R355). -/
def takeSlow (cx : Cx) (o : Slow) (h : Half) : Half :=
  let (late, known) := (replicasHere cx.now h).partition fun x => decide (dist32 x.pos (vget o.hi.cr x.ring).cons < 2 ^ 31)
  let out := o.hi.repl.map Repl.key
  let had := known.map Repl.key
  let h := adoptSlow cx o (h.modXf fun x => { x with early := [] })
  let h := h.modHi fun i => { i with
    stored := (had.filter fun x => !out.contains x).reverse ++ i.stored
    unread := i.unread ++ (out.filter fun x => !had.contains x).map fun x => (x.1, x.2.1, x.2.2.1) }
  let h := o.hi.repl.foldl (fun h x => judgeRec cx { x with single := false } false h) h
  late.foldl (storeReplica cx) h

/-- A part of the state has come whole. The fast parts wait for T0 of their install cycle. -/
def partCame (part : XferPart) (install : Nat) (cx : Cx) (h : Half) : Half :=
  match part with
  | .slow =>
    (takeSlow cx (cx.other.xf.slowOut.getD (slowOf cx.other)) h).modOx fun o => { o with installAt := some install }
  | .ox => h.modXf fun x => { x with oxIn := cx.other.xf.oxOut.filter fun x => x.1 == install }
  | .lt => h.modXf fun x => { x with ltIn := cx.other.xf.ltOut.filter fun x => x.1 == install }

/-- The half takes this part: the slow state while SYNCING, the fast state after it or for an install under R151. -/
def takesPart (part : XferPart) (h : Half) : Bool :=
  match part with
  | .slow => h.glb.role == .syncing
  | _ => (h.glb.role == .syncing && h.th.gotSlow) || (h.glb.role == .standby && h.ox.installAt.isSome)

/-- One chunk of STATE_XFER: a part is whole once its chunks have come without a gap; offset 0 begins it anew. -/
def stateXferF (part : XferPart) (offset len : Nat) (last : Bool) (install : Nat) (cx : Cx) (h : Half) : Half :=
  gate (h.th.lanesRx != 0 && takesPart part h) (fun h =>
    let i := partIdx part
    let fits := offset == 0 || vget h.xf.next i == some offset
    let next := if fits && !last then some (offset + len) else none
    let h := h.modXf fun x => { x with next := vset x.next i next }
    if fits && last then partCame part install cx h else h) h

/-- A STATE_XFER that comes to a SYNCING half whose major version is not that of its sender (R491). -/
def otherVersion (s : State) (e : Evt) (major : Nat) : Bool :=
  decide ((s.half e.half).glb.role = .syncing ∧ (s.half e.half).th.lanesRx ≠ 0 ∧ major ≠ Config.tetherMajor)

/-- STATE_XFER: where a SYNCING half finds another major version, the ACTIVE half raises source 0x94 and nothing is
installed (R491). -/
def stateXferS (e : Evt) (part : XferPart) (offset len : Nat) (last : Bool) (install : Nat) (major : Nat) (s : State) : State :=
  if otherVersion s e major then
    s.on { e with half := e.half.other } fun cx h =>
      gate (h.glb.role == .active) (raise cx 0x94 (argHalf cx.me.other) 0) h
  else s.on e (stateXferF part offset len last install)

/-- No fast state is installed at this T0. A half whose install was due goes on without: a STANDBY half abstains from its
abstention on, a SYNCING half from the X that the slow state named, or a part of the fast state that stayed alone (R297). -/
def missInstall (h : Half) : Half :=
  let here (n : Option Nat) : Bool := n == some h.glb.cycle
  let alone := h.glb.role == .syncing && (here (h.xf.oxIn.map (·.1)) || here (h.xf.ltIn.map (·.1)))
  let at_ := if alone then h.ox.installAt.or (some h.glb.cycle) else h.ox.installAt
  let due := (at_.map fun n => decide (n ≤ h.glb.cycle)).getD false
  h.modOx fun o => { o with
    installAt := at_, abstain := (at_.isSome && h.glb.role == .standby) || (due && h.glb.role == .syncing) }

/-- At T0 of X the fast state is installed, with its staged sinks still to be latched; without it the half goes on
abstaining (R151, R297, R299). -/
def installT0 (h : Half) : Half × Bool :=
  let fresh := h.modXf fun x => { x with oxIn := none, ltIn := none }
  match h.xf.oxIn, h.xf.ltIn with
  | some (n, cells, ox), some (m, lt) =>
    if n = h.glb.cycle ∧ m = h.glb.cycle ∧ takesPart .ox h then
      let h := adoptFast cells ox lt fresh
      (if h.glb.role = .syncing then h.modTh fun t => { t with installs := t.installs + 1, run := 0 } else h, true)
    else (missInstall fresh, false)
  | _, _ => (missInstall h, false)

/-! ### Heartbeat (R289, R290) -/

/-- At each whole microsecond of the timebase. A microsecond without a heartbeat of the other half is counted. -/
def heartbeatSendF (cx : Cx) (h : Half) : Half :=
  gate (h.glb.dev != .lullOnly && decide (h.th.hbSent < h.ns / 1000)) (fun h =>
    let h := h.modTh fun t => { t with hbSent := h.ns / 1000 }
    let h := h.tether cx.now (.heartbeat (ownHeartbeat cx.now h))
    let h := if h.th.oRole ≠ .off ∧ h.th.hbAt + tUs 1 < cx.now then h.count RG.TH_CNT_HB_MISS else h
    resendSlow cx (judgeHolds cx h)) h

/-- The heartbeat was sent before a planned hand-over that this half has taken already. -/
def staleRole (h : Half) (m : Heartbeat) : Bool :=
  (h.th.lastCause == 1 || h.th.lastCause == 2) && h.th.lastCycle == h.glb.cycle % 65536 &&
    (m.cycle.toNat + 1) % 65536 == h.glb.cycle % 65536

/-- The first cycle at or after the present one whose bits 15:0 are n. -/
def cycleOf (h : Half) (n : Nat) : Nat := h.glb.cycle + (n + 65536 - h.glb.cycle % 65536) % 65536

/-- A converter of the other half. -/
def isOtherConv (me : HalfId) : FUnit → Bool
  | .conv i _ => i != me
  | _ => false

/-- What a half notes of a heartbeat. -/
def noteHeartbeat (cx : Cx) (m : Heartbeat) (h : Half) : Half :=
  let r := if staleRole h m then h.th.oRole else Role.ofCode m.role
  let serving := decide (2 ≤ m.dev ∧ m.dev ≤ 4)
  h.modTh fun t => { t with
    oFencedMsg := t.oFencedMsg || (t.oRole == .active && r == .fenced)
    oRole := r, oRoleHb := m.role, oDev := m.dev, hbAt := cx.now, hbOk := true
    oLeaving := m.leaving, oThrottle := m.throttle
    oPlanned := if m.planned then some m.hcycle.toNat else none
    oFencesN := m.fences, oClean := m.clean
    activeHbAt := if r = .active then cx.now else t.activeHbAt
    oConfAt := if !serving then 0 else if t.oConfAt = 0 then cx.now else t.oConfAt
    xferFor := if t.oRole == .syncing && r != .syncing then none else t.xferFor }

/-! ### Gander's verdicts (R304, R305) -/

/-- Mismatches that no check explains are counted in windows of RED.MM_WINDOW cycles. (DEDUCED, log entry 92.) -/
def winRoll (h : Half) : Half :=
  let w := max 1 (h.bn BK.RED_MM_WINDOW)
  let from_ := h.glb.cycle / w * w
  if h.th.winFrom = from_ then h else h.modTh fun t => { t with winFrom := from_, winMm := 0 }

/-- Both verdicts are held: the results are acted on. -/
def actVerdicts (cx : Cx) (h : Half) : Half :=
  match h.th.ownVerdict, h.th.oVerdict with
  | some own, some other =>
    if h.th.check.isNone then h else
    let h := h.modTh fun t => { t with check := none, verdictDone := true }
    if h.glb.role = .active then
      if own ≠ 0 ∧ other ≠ 0 then h.modTh fun t => { t with failAt := some (cx.now + tUs 1) }
      else if own ≠ 0 then raise cx 0x91 (argHalf cx.me) (BitVec.ofNat 32 own) (h.modTh fun t => { t with failAt := none })
      else
        let h := if h.th.oRole = .standby then wantFast (h.glb.cycle + 2) h else h
        if other ≠ 0 then h else
        let h := winRoll h
        let h := h.modTh fun t => { t with winMm := t.winMm + 1 }
        raiseIf (h.th.winMm == h.bn BK.RED_MM_LIMIT) cx 0x92 (argHalf cx.me.other) 0 h
    else if h.glb.role = .standby ∧ own = 0 then
      h.modOx fun o => { o with installAt := o.installAt.or (some (h.glb.cycle + 2)) }
    else h
  | _, _ => h

/-- Residue checks of the loop engine that have failed: its count rises (R304). -/
def noteLoopResidue (n : Nat) (h : Half) : Half :=
  if n = 0 then h else
  (h.modTh fun t => { t with loopCyc := some h.glb.cycle }).modLt fun l => { l with residues := l.residues + n }

/-- The CRC of the live bank as its memory gives it, with the bits of one word wrong. -/
def bankCrcNow (h : Half) (upset : Option (Nat × Word)) : Word :=
  crc32c (bankBytes (match upset with
    | some (o, w) => Bank.write h.glb.live o (Bank.word h.glb.live o ^^^ w)
    | none => h.glb.live))

/-- The checks of R304 that fail in this half, as VERDICT shows them; `loopResidue`: the loop engine's residue count has risen
in the pass under way. -/
def selfVerdict (h : Half) (loopResidue : Bool) (upset : Option (Nat × Word)) : Nat :=
  let c := h.th.check.getD 0
  let within (x : Option Nat) : Bool := (x.map fun n => decide (n ≤ c ∧ c ≤ n + 16)).getD false
  b2n (within h.th.resCyc || within h.th.loopCyc || (loopResidue && within (some h.glb.cycle))) + 2 * b2n (within h.th.eccCyc) + 4 * b2n (bankCrcNow h upset != h.th.bankCrc)

/-- A check that has waited this long for the other half's verdict is over: 20 µs and one heartbeat (R304). -/
def verdictWait : Nat := tUs 21

/-- The self-check ends. A STANDBY or SYNCING half that fails raises its source at once, and so does an ACTIVE half with no
such half beside it; with one, it waits for that half's result, as long as one can come (R305). (DEDUCED, log entry 91.) -/
def selfCheckF (loopResidue : Bool) (upset : Option (Nat × Word)) (cx : Cx) (h : Half) : Half :=
  gate (h.th.check.isSome && h.th.ownVerdict.isNone && h.glb.dev.inService) (fun h =>
    let v := selfVerdict h loopResidue upset
    let h := if loopResidue then noteLoopResidue 1 h else h
    let h := h.modTh fun t => { t with ownVerdict := some v }
    let wait := h.glb.role == .active && hasFollower h
    let h := if v ≠ 0 ∧ wait = true then h.modTh fun t => { t with failAt := some (t.checkAt + verdictWait) } else h
    let h := if v ≠ 0 ∧ h.glb.role = .active ∧ wait = false then h.modTh fun t => { t with check := none } else h
    let h := raiseIf (v != 0 && !wait && (h.glb.role == .standby || h.glb.role == .syncing || h.glb.role == .active)) cx 0x91
      (argHalf cx.me) (BitVec.ofNat 32 v) h
    actVerdicts cx h) h

/-- The ACTIVE half's source: 1 µs later where both halves failed, or once no result of the other half can come. -/
def activeSelfCheckFailF (cx : Cx) (h : Half) : Half :=
  match h.th.failAt with
  | none => h
  | some t => gate (h.glb.role == .active && decide (t ≤ cx.now)) (fun h =>
      raise cx 0x91 (argHalf cx.me) (BitVec.ofNat 32 (h.th.ownVerdict.getD 0)) (h.modTh fun t => { t with failAt := none, check := none })) h

/-- The other half's VERDICT, from 100 ns after this half's check began on: an earlier one belongs to the mismatch
before. -/
def takeVerdict (cx : Cx) (m : Heartbeat) (h : Half) : Half :=
  if h.th.check.isSome ∧ h.th.oVerdict.isNone ∧ h.th.checkAt + tNs 100 ≤ cx.now ∧ m.verdict.getLsbD 3 then
    actVerdicts cx (h.modTh fun t => { t with oVerdict := some (m.verdict.toNat % 8) })
  else h

/-- A hand-over that the ACTIVE half announces and this half has not set itself: a revert, or one whose CMD_ROLE it holds
from its synchronisation (R289, R306). -/
def hearPlanned (cx : Cx) (h : Half) : Half :=
  match h.th.oPlanned with
  | none => h
  | some n =>
    let c := cycleOf h n
    if h.th.planned.any fun p => p.1 == c then h else
    let cause := if h.hi.held.any fun x => x.cycle == c && dOp x.d == 0x0B then 1 else 2
    h.modTh fun t => { t with planned := t.planned ++ [(c, cx.me, cause)] }

def heartbeatF (m : Heartbeat) (cx : Cx) (h : Half) : Half :=
  gate (h.glb.dev != .lullOnly) (fun h =>
    let h := noteHeartbeat cx m h
    -- the other half's reset has ended its converters' fences (R130)
    let h := if m.dev = 1 then h.modSd fun s => { s with
        oadcFence := 0, fences := s.fences.filter fun f => !isOtherConv cx.me f.unit } else h
    let h := if h.glb.role = .off ∧ h.glb.dev.inService ∧ !h.th.stayOff ∧ h.th.oRole = .active then startSync h else h
    let h := if h.glb.role = .standby ∧ h.th.oRole = .active then hearPlanned cx h else h
    let h := if h.glb.role = .active ∧ h.th.oRole = .syncing ∧ h.th.xferFor.isNone then sendSlow cx h else h
    takeVerdict cx m h) h

/-! ### Loss of the other half (R290, R307, R313) -/

/-- 3 µs without a heartbeat. The ACTIVE half acts at once (R307, case 1; R314). -/
def heartbeatLostF (cx : Cx) (h : Half) : Half :=
  gate (h.glb.dev != .lullOnly && h.th.hbOk && decide (h.th.hbAt + tUs 3 ≤ cx.now)) (fun h =>
    let o := h.th.oRole
    let h := h.modTh fun t => { t with hbOk := false, oConfAt := 0 }
    if h.glb.role = .active then
      if o = .standby ∨ o = .syncing then
        if h.th.oLeaving then h.modTh fun t => { t with oRole := .off, xferFor := none }
        else (raise cx 0x93 (argHalf cx.me.other) 0 h).modTh fun t => { t with oRole := .fenced, xferFor := none }
      else h.modTh fun t => { t with oRole := .off }
    else if o = .active ∧ (h.glb.role = .standby ∨ h.glb.role = .syncing) then
      h.modTh fun t => { t with lostAt := some cx.now }
    else h) h

/-- 200 ns later, unless this half is fenced by then, a STANDBY half takes the role and a SYNCING half restarts
(R307, case 2; R313). -/
def otherLostF (cx : Cx) (h : Half) : Half :=
  match h.th.lostAt with
  | none => h
  | some t =>
    gate (!h.th.fenced && (h.glb.role == .standby || h.glb.role == .syncing) && decide (t + tNs 200 ≤ cx.now)) (fun h =>
      let standby := h.glb.role == .standby
      let h := raise cx 0x93 (argHalf cx.me.other) 0 (h.modTh fun t => { t with lostAt := none })
      let h := h.modTh fun t => { t with oRole := .fenced }
      if standby then toActive cx 4 h else wholeDown cx.now 2 h) h

/-- A planned hand-over explains the drop of the other half's ROLE line. -/
def dropAnnounced (cx : Cx) (h : Half) : Bool :=
  (h.th.planned.any fun p => p.1 == h.glb.cycle + 1) && decide (h.glb.t0 + tcNow h ≤ cx.other.th.roleLow + tNs 100)

/-- The ACTIVE half's ROLE line has been low for 200 ns (R307, cases 3 and 4). -/
def roleLineDropF (cx : Cx) (h : Half) : Half :=
  gate (h.glb.role == .standby && !h.th.fenced && !roleOn cx.now cx.other.th && (h.th.oRole == .active || h.th.oFencedMsg) &&
      decide (cx.other.th.roleLow + tNs 200 ≤ cx.now) && !dropAnnounced cx h) (fun h =>
    let told := h.th.oFencedMsg
    let h := if told then h else raise cx 0x93 (argHalf cx.me.other) 1 h
    toActive cx (if told then 3 else 5) (h.modTh fun t => { t with oRole := .fenced })) h

/-- Both ROLE lines asserted for more than 50 ns (R295). -/
def roleConflictF (cx : Cx) (h : Half) : Half :=
  gate (h.glb.preferred && h.th.roleLine && cx.other.th.roleLine && (liveReq h.th.fenceReq cx.other.pk.rstAt).isNone &&
      decide (max h.th.roleHigh cx.other.th.roleHigh + tNs 50 < cx.now)) (fun h =>
    raise cx 0x96 (argHalf cx.me.other) 0 (h.modTh fun t => { t with lastCause := 6 })) h

/-- The arbiter lets the other half's request through (R294). -/
def arbiter (cx : Cx) (h : Half) : Bool :=
  match liveReq cx.other.th.fenceReq h.pk.rstAt with
  | none => false
  | some r => decide (r + tNs 10 ≤ cx.now) && !cx.other.th.fenced &&
    (match liveReq h.th.fenceReq cx.other.pk.rstAt with
     | none => true
     | some q => if q < r + tNs 10 ∧ r < q + tNs 10 then !h.glb.preferred else decide (r < q))

/-- The fence line on this half rises, and the half takes the HANDOVER reaction (R262, R293, R294, R296). -/
def fenceLineF (cx : Cx) (h : Half) : Half :=
  gate (arbiter cx h && !h.th.fenced && h.glb.dev != .lullOnly) (fun h =>
    let h := (h.modTh fun t => { t with fenced := true, fenceReq := none, lostAt := none }).modGlb fun g => { g with own := false }
    -- the HANDOVER reaction, and FENCED in every case (R293, R296)
    let h := handover cx h
    if h.glb.role = .active then reportDrops cx (enterFenced cx h) else reportDrops cx h) h

/-- The ownership gap has passed (R11, R250, R292). -/
def ownershipGrantF (cx : Cx) (h : Half) : Half :=
  gate (roleOn cx.now h.th && h.glb.role == .active && !h.th.fenced && !h.protecting && !h.glb.own &&
      !roleOn cx.now cx.other.th && !cx.other.glb.own && decide (cx.other.th.roleHigh ≤ cx.now) &&
      decide (cx.other.th.roleLow + tNs (10 * h.bn BK.RED_GAP_NS) ≤ cx.now))
    (gainBalls cx.now) h

/-- The other half reached CONFIGURED together with this one: within one heartbeat. -/
def together (h : Half) : Bool :=
  h.th.hbOk && h.th.oRole == .off && h.th.oConfAt != 0 &&
    decide (h.th.oConfAt ≤ h.th.confAt + tUs 1 ∧ h.th.confAt ≤ h.th.oConfAt + tUs 1)

/-- 3 µs in CONFIGURED without a heartbeat from an ACTIVE half (R31). -/
def noActiveHeartbeatF (cx : Cx) (h : Half) : Half :=
  gate (h.glb.role == .off && h.glb.dev.inService && !h.th.stayOff && !h.th.fenced &&
      decide (max h.th.activeHbAt h.th.confAt + tUs 3 ≤ cx.now) && (h.glb.preferred || !together h))
    (becomeActive cx) h

/-- A SYNCING half with 1,024 matching cycles becomes STANDBY at T0 of the next (R299); a barred preferred half says
so once (R312). -/
def standbyEntryF (cx : Cx) (h : Half) : Half :=
  gate (h.glb.role == .syncing && decide (1024 ≤ h.th.run) && !h.th.compared && h.glb.sealedAt.isNone) (fun h =>
    let h := becomeStandby cx h
    if isBarred cx.now h then
      raiseIf (!h.th.barRaised) cx 0x99 (argHalf cx.me) 0 (h.modTh fun t => { t with barRaised := true })
    else h) h

/-! ### Gander (R302 to R304) -/

/-- A cycle is not compared. -/
def notCompared (cx : Cx) (missing : Bool) (h : Half) : Half :=
  let h := h.modTh fun t => { t with
    compared := true, outcome := 2, run := 0, cleanFrom := none, oStatus := if missing then 3 else t.oStatus
    notCmp := if t.oRole = .standby then (if t.notCmp < 999 then t.notCmp + 1 else t.notCmp) else 0 }
  syncBroken cx h

/-- Digests that differ: source 0x90, and a self-check unless one is running. -/
def mismatched (cx : Cx) (h : Half) : Half :=
  let h := h.modTh fun t => { t with compared := true, outcome := 1, run := 0, cleanFrom := none, notCmp := 0 }
  let h := raise cx 0x90 (argHalf cx.me.other) 0 (h.count RG.TH_CNT_MISMATCH)
  let h := if (h.th.check.isSome ∧ cx.now < h.th.checkAt + verdictWait) ∨ h.th.failAt.isSome then h else
    h.modTh fun t => { t with
      check := some h.glb.cycle, checkAt := cx.now, ownVerdict := none, oVerdict := none, verdictDone := false }
  syncBroken cx h

def matched (cx : Cx) (h : Half) : Half :=
  h.modTh fun t => { t with
    compared := true, outcome := 0, run := min 0xFFFF (t.run + 1), notCmp := 0
    cleanFrom := if h.glb.role = .standby then t.cleanFrom.or (some cx.now) else t.cleanFrom }

/-- The two digests of the cycle are compared as soon as both are held (R302). -/
def compareDigests (cx : Cx) (h : Half) : Half :=
  if h.th.compared then h else
  match h.th.ownDigest, h.th.oDigest with
  | some (n, s, d), some (n', s', d') =>
    if n = h.glb.cycle ∧ n' = h.glb.cycle then
      if s ≠ .normal ∨ s' ≠ .normal then notCompared cx false h
      else if d = d' then matched cx h else mismatched cx h
    else h
  | _, _ => h

def statusCode : DigStatus → Nat
  | .normal => 0 | .abstained => 1 | .residue => 2

/-- The other half's DIGEST arrives. An ABSTAINED one calls for an install in the second cycle after (R151). -/
def digestF (cycle : BitVec 16) (st : DigStatus) (d : BitVec 64) (cx : Cx) (h : Half) : Half :=
  gate (h.glb.dev.inService && h.glb.started && cycle.toNat == h.glb.cycle % 65536) (fun h =>
    let h := h.modTh fun t => { t with oDigest := some (h.glb.cycle, st, d), oStatus := statusCode st }
    let h := if h.glb.role = .active ∧ h.th.oRole = .standby ∧ st = .abstained then wantFast (h.glb.cycle + 2) h else h
    compareDigests cx h) h

/-- T0 + T_S + 400 ns, or + 460 ns in a wrapped cycle. -/
def digestDeadlineF (cx : Cx) (h : Half) : Half :=
  gate (h.glb.dev.inService && h.glb.started && h.th.ownDigest.isSome && !h.th.compared &&
      decide (h.glb.t0 + tNs (h.glb.ts + 400 + wrapNs h.glb) ≤ cx.now))
    (notCompared cx (!((h.th.oDigest.map fun x => x.1 == h.glb.cycle).getD false))) h

/-- 16 consecutive cycles not compared while the other half is STANDBY (R303). -/
def ganderBlindF (cx : Cx) (h : Half) : Half :=
  gate (h.glb.role == .active && h.th.oRole == .standby && decide (16 ≤ h.th.notCmp ∧ h.th.notCmp < 1000)) (fun h =>
    raise cx 0x9A (argHalf cx.me.other) 0 (h.modTh fun t => { t with notCmp := 1000 })) h

/-! ### Revert, leaving and restart (R311 to R314) -/

/-- Every condition of R311 holds. -/
def revertReady (now : Nat) (h : Half) : Bool :=
  let st (s : Stage) : Bool := s != .precharge && s != .recovery && s != .tripped
  h.glb.role == .active && h.th.oRole == .standby && h.bf BK.RED_REVERT_EN && !h.glb.preferred &&
  decide (h.bn BK.RED_REVERT_S ≤ h.th.oClean) &&
  (match h.th.lastRevert with
   | none => true
   | some t => decide (t + tSec (h.bn BK.RED_HOLDOFF_S) ≤ now)) &&
  decide (h.th.oFencesN < h.bn BK.RED_FENCE_LIMIT) && st h.glb.mv && st h.glb.lv

/-- The ACTIVE half sets a revert for the first cycle at least 1 ms ahead. -/
def revertF (cx : Cx) (h : Half) : Half :=
  gate (revertReady cx.now h && (announced h).isNone && h.glb.started) (fun h =>
    h.modTh fun t => { t with
      planned := t.planned ++ [(h.glb.cycle + ceilDiv (cx.now + tMs 1 - h.glb.t0) (tcNow h), cx.me.other, 2)] }) h

def ctrlResult (ok : Bool) (h : Half) : Half := h.put RG.TH_CTRL_STAT (if ok then 1 else 2)

/-- A half that leaves: SYNCING, STANDBY or FENCED (R31). -/
def mayLeave (h : Half) : Bool := h.glb.role == .standby || h.glb.role == .syncing || h.glb.role == .fenced

def leaveF (v : Word) (cx : Cx) (h : Half) : Half :=
  gate (h.glb.dev != .lullOnly && wbit v 0) (fun h =>
    if mayLeave h then
      ctrlResult true (h.modTh fun t => { t with leaving := t.leaving.or (some cx.now) })
    else ctrlResult false h) h

/-- 10 µs later the half is OFF and stays so until it is next reset; one that has left those roles since does not leave. -/
def leaveOffF (cx : Cx) (h : Half) : Half :=
  match h.th.leaving with
  | none => h
  | some t => gate (decide (t + tUs 10 ≤ cx.now)) (fun h =>
      if mayLeave h then (setRole .off h).modTh fun t => { t with stayOff := true, leaving := none, lostAt := none }
      else h.modTh fun t => { t with leaving := none }) h

def restartF (v : Word) (cx : Cx) (h : Half) : Half :=
  gate (h.glb.dev != .lullOnly && wbit v 1) (fun h =>
    if h.glb.role = .standby ∨ h.glb.role = .active then ctrlResult false h
    else wholeDown cx.now 2 (ctrlResult true h)) h

def clrHistF (v : Word) (_cx : Cx) (h : Half) : Half :=
  gate (h.glb.dev != .lullOnly && wbit v 2) (fun h =>
    ctrlResult true (h.modTh fun t => { t with fenceHist := [], barRaised := false })) h

/-! ### The Tether itself (R286, R288) -/

/-- A message whose CRC fails; 16 within 1 ms raise source 0x9B. -/
def tetherMessageCrcF (cx : Cx) (h : Half) : Half :=
  gate (h.th.lanesRx != 0) (fun h =>
    let l := cx.now :: h.th.crcHist.filter fun a => decide (cx.now < a + tMs 1)
    let h := h.count RG.TH_CNT_MSG_CRC
    if 16 ≤ l.length then raise cx 0x9B (argHalf cx.me) 0 (h.modTh fun t => { t with crcHist := [] })
    else h.modTh fun t => { t with crcHist := l }) h

def laneCount (m : BitVec 2) : Nat := b2n (m.getLsbD 0) + b2n (m.getLsbD 1)

/-- A receive lane of the Tether is lost or comes back. -/
def tetherLaneF (up : BitVec 2) (cx : Cx) (h : Half) : Half :=
  gate (laneOn h) (fun h =>
    let was := laneCount h.th.lanesRx
    let h := h.modTh fun t => { t with lanesRx := up, laneLog := (cx.now, laneCount up) :: t.laneLog }
    raiseIf (decide (laneCount up < was)) cx 0x95 (argHalf cx.me) (BitVec.ofNat 32 (laneCount up)) h) h

/-! ### What the Tether carries and when (R286, R287)

`Half.out` logs a message as it is handed over; when it starts on the Tether follows from the log. -/

/-- The payload of a message in bytes: its fields, each rounded up to whole bytes; a RELAY as an event record of 32 bytes
at most but for frames (DESIGN CHOICE, log entry 118). -/
def TMsg.bytes : TMsg → Nat
  | .heartbeat _ => 12
  | .snap (.header ..) => 41
  | .snap (.digest _) => 8
  | .slotMap .. => 3
  | .slotRec _ => 12
  | .anWords _ => 96
  | .digest .. => 11
  | .replica .. => 81
  | .replicaAck .. => 9
  | .relay (.svc _ f) => 16 + 8 * f.data.length
  | .relay _ => 32
  | .xfer p _ _ => Config.xferBytes p
  | .xferBlk t _ _ _ => min (Config.xferBlkBytes t) (2 * ltCost t)
  | .timeAlign .. => 40

/-- The place of a message in the order of R287, 1 first. An urgent RELAY carries a stage trip, a fence, a block hold or a
clear. -/
def TMsg.prio : TMsg → Nat
  | .heartbeat _ => 1
  | .relay (.trip ..) | .relay (.fence _) | .relay (.hold ..) | .relay (.holdRelease _) | .relay (.clear ..) => 2
  | .snap _ | .slotMap .. | .slotRec _ | .anWords _ => 3
  | .digest .. => 4
  | .xfer _ _ sync | .xferBlk _ _ _ sync => if sync then 8 else 5
  | .replica .. | .replicaAck .. => 6
  | .relay _ | .timeAlign .. => 7

/-- A message that may start between T0 and SEAL. -/
def TMsg.inWindow (m : TMsg) : Bool := decide (m.prio ≤ 4)

/-- How long a message of n payload bytes occupies the direction: a start block, its data blocks and an end block, at
3.2 ns a block over two lanes and twice that over one (R286, R288). -/
def tetherTime (lanes n : Nat) : Nat := (ceilDiv n 8 + 2) * (if lanes = 1 then 512 else 256)

/-- The schedule of one direction: when it is free, the end of the window of R287, what waits with the bytes still to be
sent, oldest first, and what has started: its start, its end, the message and the bytes of this piece, newest first; the
lanes of the direction that are up. -/
structure TSched where
  lanes : Nat
  free : Nat
  stop : Nat
  wait : List (TMsg × Nat)
  sent : List (Nat × Nat × TMsg × Nat)
  deriving DecidableEq, Repr, Inhabited

/-- The message that starts next at t: of those that may, the first of the lowest number. -/
def TSched.pick (s : TSched) (t : Nat) : Option (TMsg × Nat) :=
  let may := s.wait.filter fun x => x.1.inWindow || decide (s.stop ≤ t)
  (List.range 9).findSome? fun p => may.find? fun x => x.1.prio == p

/-- Start one message of at most 128 bytes; what is longer goes on in further ones (R286). -/
def TSched.start (t : Nat) (x : TMsg × Nat) (s : TSched) : TSched :=
  let n := min 128 x.2
  let stop := t + tetherTime s.lanes n
  let left := if x.2 ≤ 128 then s.wait.erase x else s.wait.map fun y => if y = x then (x.1, x.2 - 128) else y
  { s with free := stop, wait := left, sent := (t, stop, x.1, n) :: s.sent }

/-- Messages start, one after the other, up to but not at the instant `till`. -/
def TSched.run (till : Nat) : Nat → Nat → TSched → TSched
  | 0, _, s => s
  | n + 1, now, s =>
    let t := max now s.free
    if till ≤ t then s else
    match s.pick t with
    | some x => TSched.run till n t (s.start t x)
    | none => if s.wait.isEmpty ∨ till ≤ s.stop ∨ s.stop ≤ t then s else TSched.run till n s.stop s

/-- What happens to a direction: a message is handed over, a window begins and ends at an instant, lanes are up. -/
inductive TEntry where
  | msg (m : TMsg)
  | window (stop : Nat)
  | lanes (n : Nat)
  deriving DecidableEq, Repr

/-- One more entry of a log in order of time, after those of the same instant. -/
def logIn (x : Nat × TEntry) : List (Nat × TEntry) → List (Nat × TEntry)
  | [] => [x]
  | y :: l => if y.1 ≤ x.1 then y :: logIn x l else x :: y :: l

/-- The log of one direction in order of time: messages handed over (a perturbed one later than its neighbours, R495),
windows, and the changes of the receiving half's lanes. -/
def tetherLog (o : List Out) (lanes : List (Nat × Nat)) : List (Nat × TEntry) :=
  let entry : Out → Option (Nat × TEntry)
    | .tether t m => some (t, .msg m)
    | .window t e => some (t, .window e)
    | _ => none
  ((lanes.reverse.map fun x => (x.1, TEntry.lanes x.2)) ++ o.reverse.filterMap entry).foldl (fun l x => logIn x l) []

/-- One entry of the log joins the schedule, which has run up to it. -/
def TSched.take (p : Nat × TSched) (x : Nat × TEntry) : Nat × TSched :=
  let s := TSched.run x.1 4096 p.1 p.2
  (x.1, match x.2 with
    | .msg m => { s with wait := s.wait ++ [(m, m.bytes)] }
    | .window e => { s with stop := e }
    | .lanes n => { s with lanes := n })

/-- The messages that this half's direction of the Tether has started before `till`, newest first (R286, R287); the other
half's receive lanes give its capacity (R288). -/
def tetherSent (till : Nat) (other h : Half) : List (Nat × Nat × TMsg × Nat) :=
  let p := (tetherLog h.out other.th.laneLog).foldl TSched.take (0, ⟨2, 0, 0, [], []⟩)
  (TSched.run till 4096 p.1 p.2).sent

end Sys2Proof.Machine
end

