-- ==== Sys2Proof/Machine/Thermal.lean ====
section
/-! DEFINITION. The thermal monitor, throttle requests, bands and thermal shutdown, and test perturbation
(16_thermal_security_update.md, R478 to R483, R494; 04_analog_sampling.md, R135). Temperatures are in 0.1 °C. -/
namespace Sys2Proof.Machine

def Half.modTm (h : Half) (f : Tm → Tm) : Half := { h with tm := f h.tm }

/-- The half is powered and out of LULL_ONLY. -/
def coreUp (h : Half) : Bool := h.glb.dev != .lullOnly

/-- THERM_STATUS shows the monitor. -/
def showTherm (h : Half) : Half :=
  let t := h.tm
  let w := h.reg RG.THERM_STATUS &&& 0x1000000#32
  h.put RG.THERM_STATUS (w ||| BitVec.ofNat 32 (enc 16 t.temp + t.band * 0x10000 + t.level * 0x40000 + b2n t.warn * 0x100000 +
    b2n t.failed * 0x200000 + b2n t.cmp * 0x400000))

/-- The level requested: the highest called for by R478 and R479. -/
def setLevel (h : Half) : Half :=
  showTherm (h.modTm fun t => { t with level := if t.thr2 || t.failed then 2 else b2n t.thr1 })

/-- The shutdown threshold is reached (R480, R483). -/
def shutdown (cx : Cx) (h : Half) : Half :=
  if h.tm.shut.isSome || !coreUp h then h else
  let h := raise cx 0xEA 0 0 (h.modTm fun t => { t with shut := some cx.now })
  h.modPw fun p => { p with orderly := some (1, cx.now + tUs 20) }

/-- The band for temperature t (R482). -/
def bandOf (h : Half) (t : Int) : Nat :=
  let b1 := 10 * sgn 8 (h.getF RG.THERM_BAND 7 0)
  let b2 := 10 * sgn 8 (h.getF RG.THERM_BAND 15 8)
  let hy : Int := 10 * (max 1 (h.getF RG.THERM_BAND 19 16) : Nat)
  if b2 ≤ t then 2
  else if h.tm.band = 2 ∧ b2 - hy ≤ t then 2
  else if b1 ≤ t then 1
  else if h.tm.band ≠ 0 ∧ b1 - hy ≤ t then 1
  else 0

/-- A band change: the calibration set from the next T0, and a fast re-adaptation of every lane in UP (R48). -/
def setBand (cx : Cx) (b : Nat) (h : Half) : Half :=
  if b = h.tm.band then h else
  { (h.modTm fun t => { t with band := b }).modAn (fun a => { a with calNext := some b }) with
    rings := h.rings.map fun r => if r.lane = .up then { r with readapt := some (cx.now + tUs 100) } else r }

/-- A plausible result is judged against the thresholds (R478). (DEDUCED, log entry 68.) -/
def judgeTemp (cx : Cx) (t : Int) (h : Half) : Half :=
  let o := h.tm
  let hyst := fun (was : Bool) (on off : Int) => decide (on ≤ t) || (was && decide (off ≤ t))
  let w := hyst o.warn 1050 1000
  let t1 := hyst o.thr1 1120 1070
  let t2 := hyst o.thr2 1160 1110
  let h := setLevel (h.modTm fun m => { m with
    failed := false, temp := t, maxTemp := max m.maxTemp t, warn := w, thr1 := t1, thr2 := t2 })
  let h := h.put RG.THERM_MAX (BitVec.ofNat 32 (enc 16 h.tm.maxTemp))
  let h := raiseIf (w && !o.warn) cx 0xE8 0 0 h
  let h := raiseIf (t1 && !o.thr1) cx 0xE9 0 1 h
  let h := raiseIf (t2 && !o.thr2) cx 0xE9 0 2 h
  let h := showTherm (setBand cx (bandOf h t) h)
  if 1200 ≤ t then shutdown cx h else h

/-- The sensor has failed (R479). -/
def sensorFail (cx : Cx) (h : Half) : Half :=
  if h.tm.failed then h else raise cx 0xEB 0 0 (setLevel (h.modTm fun t => { t with failed := true }))

/-- A result of channel 29. -/
def thermalResult (cx : Cx) (t : Int) (h : Half) : Half :=
  let h := h.modTm fun m => { m with tempAt := cx.now }
  if -550 ≤ t ∧ t ≤ 1500 then judgeTemp cx t h else sensorFail cx h

/-- An internal conversion completes: `v` in mV, of channel 29 in 0.1 °C. -/
def anConversionF (v : Int) (cx : Cx) (h : Half) : Half :=
  let h := seqClock cx.now h
  match h.an.seq with
  | [] => h
  | i :: _ =>
    gate (anaUp h && decide (h.an.seqEnd ≤ cx.now)) (fun h =>
      let h := checkResult cx i v h
      nextConversion cx (if i = 5 then thermalResult cx v h else h)) h

/-- 2 ms without a result of channel 29. -/
def thermSeqRequestF (cx : Cx) (h : Half) : Half :=
  gate (coreUp h && decide (h.tm.tempAt + tMs 2 ≤ cx.now)) (seqTrigger cx 2) h

/-- 5 ms without a result of channel 29. -/
def sensorTimeoutF (cx : Cx) (h : Half) : Half :=
  gate (coreUp h && decide (h.tm.tempAt + tMs 5 ≤ cx.now)) (sensorFail cx) h

/-- The comparator of the LULL domain asserts (R480). -/
def lullComparatorF (cx : Cx) (h : Half) : Half :=
  gate (railGood h .lull) (fun h =>
    let h := h.modTm fun t => { t with cmp := true }
    if coreUp h then shutdown cx (showTherm h) else h) h

def lullComparatorReleaseF (_cx : Cx) (h : Half) : Half :=
  gate (railGood h .lull) (fun h =>
    let h := h.modTm fun t => { t with cmp := false }
    if coreUp h then showTherm h else h) h

/-- A write to THERM_BAND; one with B2 not above B1 + HYST is refused. -/
def thermBandWrite (v : Word) (cx : Cx) (h : Half) : Half :=
  let b1 := sgn 8 (wbits v 7 0)
  let b2 := sgn 8 (wbits v 15 8)
  if b2 ≤ b1 + (max 1 (wbits v 19 16) : Nat) then h.setW1c cx.now RG.THERM_STATUS 24
  else h.put RG.THERM_BAND (v &&& 0xFFFFF#32)

/-! ### Test perturbation (R494) -/

/-- The condition under which a perturbation acts. -/
def pertMay (h : Half) : Bool :=
  let ok := fun (s : Stage) => s == .stopped || s == .test
  ok h.glb.mv && ok h.glb.lv && (h.glb.mv == .test || h.glb.lv == .test)

/-- A write to PERT_CTRL. -/
def pertArmF (v : Word) (cx : Cx) (h : Half) : Half :=
  gate (coreUp h) (fun h =>
    let h := if wbit v 1 && !(h.w1cKept cx.now RG.PERT_CTRL).getLsbD 1 then h.putF RG.PERT_CTRL 1 1 0 else h
    if !wbit v 0 then h.putF RG.PERT_CTRL 0 0 0
    else if !pertMay h then h.setW1c cx.now RG.PERT_CTRL 1
    else raise cx 0xF4 0 0 (h.putF RG.PERT_CTRL 0 0 1)) h

/-- When the condition has ceased, ARM returns to 0 at T0. -/
def pertT0 (h : Half) : Half := if pertMay h then h else h.putF RG.PERT_CTRL 0 0 0

end Sys2Proof.Machine
end

