-- ==== Sys2Proof/Machine/Access.lean ====
section
/-! DEFINITION. Accesses through a BAR: what a write to each register does, and what becomes of an access that is not
taken (00_scope.md, R3 to R5; 19_address_map.md, R525 to R529; R44, R137, R322, R356, R358, R364, R415, R421,
R423, R432, R448, R456). -/
namespace Sys2Proof.Machine

/-! ### Plain writes and counters -/

/-- RW bits take the value; a 1 clears a W1C bit but for one that the hardware has set in the same clock; other bits
stay (R4, R5). -/
def plainWrite (now off : Nat) (v : Word) (h : Half) : Half :=
  match regRow off with
  | none => h
  | some r =>
    let old := h.reg off
    h.put off (((old &&& ~~~r.rw) ||| (v &&& r.rw)) &&& ~~~(v &&& r.w1c &&& ~~~h.w1cKept now off))

/-- A counter-clear register: bit i clears the i-th of n counters from `base`. -/
def clrCnt (base n : Nat) (v : Word) (h : Half) : Half :=
  (List.range n).foldl (fun h i => if wbit v i then h.put (base + 4 * i) 0 else h) h

/-- The counters that a clear register names. -/
def lvCntClr (v : Word) (h : Half) : Half :=
  let h := (List.range 12).foldl (fun h n =>
    let h := if wbit v n then h.put (RG.LV_PAIR_SHORT n) 0 else h
    if wbit v (16 + n) then h.put (RG.LV_PAIR_DEFER n) 0 else h) h
  if wbit v 28 then (List.range 16).foldl (fun h n => h.putF (RG.LV_TRIP_ST n) 31 16 0) h else h

def sdCntClr (v : Word) (h : Half) : Half :=
  let h := if wbit v 0 then h.put RG.SD_CNT_DROP 0 else h
  if wbit v 1 then (List.range 256).foldl (fun h s => h.putF (RG.SD_SRC s) 15 0 0) h else h

def ltCntClr (v : Word) (h : Half) : Half :=
  let h := clrCnt RG.LT_CNT_OVERRUN 2 v h
  if wbit v 2 then h.put RG.LT_PASS_MAX 0 else h

def thermClr (v : Word) (h : Half) : Half :=
  if wbit v 0 then (h.modTm fun t => { t with maxTemp := -32768 }).put RG.THERM_MAX 0x8000#32 else h

/-- THERM_CLR, AN_SEQ_CLR and the counter-clear registers; none: the offset is no such register. -/
def counterWrite (off : Nat) (v : Word) (h : Half) : Option Half :=
  if 0x10000 ≤ off ∧ off < 0x1C000 then
    let k := (off - 0x10000) / 0x1000
    if off = RG.HL_CNT_CLR k then some (clrCnt (RG.HL_CNT_SH k) 5 v h)
    else if off = RG.HR_CNT_CLR k then some (clrCnt (RG.HR_CNT_SLOT_CRC k) 5 v h)
    else none
  else if off = RG.OX_CNT_CLR then some (clrCnt RG.OX_CNT_RESIDUE 2 v h)
  else if off = RG.LT_CNT_CLR then some (ltCntClr v h)
  else if off = RG.LV_CNT_CLR then some (lvCntClr v h)
  else if off = RG.AN_SEQ_CLR then some (if wbit v 0 then h.modAn fun a => { a with dropped := 0 } else h)
  else if off = RG.SD_CNT_CLR then some (sdCntClr v h)
  else if off = RG.TH_CNT_CLR then some (clrCnt RG.TH_CNT_MISMATCH 5 v h)
  else if off = RG.HI_CNT_CLR then some (clrCnt RG.HI_CNT_JUDGED 8 v h)
  else if off = RG.CLK_CNT_CLR then some (clrCnt RG.CLK_CNT_GATE_TO 2 v h)
  else if off = RG.ETH_CNT_CLR then some (clrCnt RG.ETH_CNT_FCS 6 v h)
  else if off = RG.PTP_CNT_CLR then some (clrCnt RG.PTP_CNT_SYNC 4 v h)
  else if off = RG.SV_CNT_CLR then some (clrCnt RG.SV_CNT_LATE 5 v h)
  else if off = RG.CAN_CNT_CLR 0 then some (clrCnt (RG.CAN_CNT_NOMATCH 0) 4 v h)
  else if off = RG.CAN_CNT_CLR 1 then some (clrCnt (RG.CAN_CNT_NOMATCH 1) 4 v h)
  else if off = RG.PWR_CNT_CLR then some (clrCnt RG.PWR_CNT_FASTLIM 1 v h)
  else if off = RG.MEM_CNT_CLR then some (clrCnt RG.MEM_CNT_SRAM_CE1 7 v h)
  else if off = RG.THERM_CLR then some (thermClr v h)
  else none

/-! ### Registers with rules of their own -/

/-- HL_CTRL: the polarities change only while the MV stage is STOPPED (R44). -/
def hlCtrlWrite (now off : Nat) (v : Word) (h : Half) : Half :=
  let keep := h.getF off 13 12
  plainWrite now off (if h.glb.mv = .stopped then v else wset v 13 12 keep) h

/-- A 64-bit value with its upper or lower word replaced. -/
def setHiLo (hi : Bool) (n : Nat) (v : Word) : Nat :=
  if hi then v.toNat * 2 ^ 32 + n % 2 ^ 32 else n / 2 ^ 32 * 2 ^ 32 + v.toNat

/-- The ring windows (R322, R356, R358). -/
def ringWrite (off : Nat) (v : Word) (cx : Cx) (h : Half) : Half :=
  let r := (off - 0x60100) / 0x20
  let q := (off - 0x60200) / 0x10
  let s := (off - 0x60300) / 0x20
  if off < 0x60200 then
    match off % 0x20 with
    | 0x00 => baseWrite cx.now off (crSize h r) (v &&& 0xFFFFF000#32) h
    | 0x04 => baseWrite cx.now off (crSize h r) v h
    | 0x08 => ringSizeWriteF .cr r v cx h
    | 0x0C => if crSize h r = 0 then h.modCr r fun c => { c with next := setHiLo false c.next v } else h
    | 0x10 => if crSize h r = 0 then h.modCr r fun c => { c with next := setHiLo true c.next v } else h
    | _ => h
  else if off < 0x60280 then
    match off % 0x10 with
    | 0x00 => baseWrite cx.now off (cqSize h q) (v &&& 0xFFFFF000#32) h
    | 0x04 => baseWrite cx.now off (cqSize h q) v h
    | 0x08 => ringSizeWriteF .cq q v cx h
    | _ => h
  else if off < 0x60300 then
    match off % 0x10 with
    | 0x00 => baseWrite cx.now off (evSize h) (v &&& 0xFFFFF000#32) h
    | 0x04 => baseWrite cx.now off (evSize h) v h
    | 0x08 => ringSizeWriteF .ev 0 v cx h
    | _ => h
  else
    match off % 0x20 with
    | 0x00 => baseWrite cx.now off (srSize h s) (v &&& 0xFFFFF000#32) h
    | 0x04 => baseWrite cx.now off (srSize h s) v h
    | 0x08 => ringSizeWriteF .sr s v cx h
    | 0x0C => plainWrite cx.now off v h
    | _ => h

/-- The registers of message object o of controller i (R423, R432). -/
def objWrite (i o off : Nat) (v : Word) (cx : Cx) (h : Half) : Half :=
  let en := objF h i o 0 0 == 1
  let busy := en && objSt h i o 2
  let f := off % 0x80
  if f = 0 then
    let old := h.reg off
    let new := v &&& 0xF037F#32
    if en ∧ (old ^^^ new) &&& 0xF037E#32 ≠ 0 then objErr cx.now i h
    else
      let h := if en ∧ !wbit v 0 ∧ objF h i o 1 1 = 1 then abortObj cx i o h else h
      h.put off new
  else if busy ∧ (f = 4 ∨ f = 8 ∨ 0x40 ≤ f) then objErr cx.now i h
  else if 0x40 ≤ f ∧ objF h i o 1 1 = 0 then h
  else plainWrite cx.now off v h

/-- The registers of CAN controller i (R415, R416, R421 to R432). -/
def canWriteReg (i off : Nat) (v : Word) : Cx → Half → Half := canOp i fun cx h =>
  let a := off - (0x80000 + 0x8000 * i)
  if 0x1000 ≤ a then objWrite i ((a - 0x1000) / 0x80) off v cx h
  else match a with
    | 0x00 => if wbit v 0 then initSetF i cx h else initReleaseF i cx h
    | 0x04 => if canInit h i then plainWrite cx.now off v h else canCfgErr cx.now i h
    | 0x08 => if canInit h i then plainWrite cx.now off v h else canCfgErr cx.now i h
    | 0x0C => if canInit h i then plainWrite cx.now off v h else canCfgErr cx.now i h
    | 0x18 => canTxreqF i v cx h
    | 0x1C => canTxabortF i v cx h
    | 0x20 => canRxsnapF i v cx h
    | _ => plainWrite cx.now off v h

/-- TH_CTRL. -/
def thCtrlWrite (v : Word) (cx : Cx) (h : Half) : Half :=
  restartF v cx (leaveF v cx (clrHistF v cx h))

/-- GLB_ACC_ERR: with its bits 2:0 all clear GLB_ACC_ADDR is free again. A write that clears bits in the clock of a
flagged access leaves that access's bit set and the access captured, without OVERFLOW (R5, R528). -/
def accErrWrite (v : Word) (cx : Cx) (h : Half) : Half :=
  let old := h.reg RG.GLB_ACC_ERR
  let h := plainWrite cx.now RG.GLB_ACC_ERR v h
  let h := if wbits (old &&& v) 3 0 = 0 then h else { h with acc := { h.acc with clr := some cx.now } }
  match h.acc.last.filter fun x => sameClock x.1 cx.now && decide (wbits (old &&& v) 3 0 ≠ 0) with
  | some (_, addr, ov) => (h.putF RG.GLB_ACC_ERR 3 3 (b2n (ov && !wbit v 3))).put RG.GLB_ACC_ADDR addr
  | none => if h.getF RG.GLB_ACC_ERR 2 0 = 0 then h.put RG.GLB_ACC_ADDR 0 else h

/-- A write to a doorbell of BAR2, whose key is 0x100000 + its offset (R325). -/
def doorbellWrite (off : Nat) (v : Word) (cx : Cx) (h : Half) : Half :=
  let i := off % 0x20 / 4
  if off < 0x100020 then crTailF i v cx h
  else if off < 0x100040 then cqHeadF i v cx h
  else if off < 0x100060 then srTailF i v cx h
  else if off = RG.DB_EV_HEAD then evHeadF v cx h
  else h

/-- A write of v to the register at `off`, whose domain is up. -/
def writeReg (off : Nat) (v : Word) (cx : Cx) (h : Half) : Half :=
  match counterWrite off v h with
  | some h => h
  | none =>
    if 0x100000 ≤ off then doorbellWrite off v cx h
    else if off = RG.GLB_ACC_ERR then accErrWrite v cx h
    else if off = RG.PWR_REQ then pwrReq cx.now v h
    else if off = RG.PWR_VCFG then pwrVcfgF v cx h
    else if 0x1010 ≤ off ∧ off < 0x1020 then pwrVtabF ((off - 0x1010) / 4) v cx h
    else if 0x2040 ≤ off ∧ off < 0x2070 ∧ off % 8 = 0 then relockF ((off - 0x2040) / 8) v cx h
    else if 0x10000 ≤ off ∧ off < 0x1C000 ∧ off % 0x1000 = 0 then hlCtrlWrite cx.now off v h
    -- a new HL_CFG.ASYM_NS (R58)
    else if 0x10000 ≤ off ∧ off < 0x1C000 ∧ off % 0x1000 = 4 then checkAsym cx ((off - 0x10000) / 0x1000) (plainWrite cx.now off v h)
    else if off = RG.AN_SEQ_CFG then plainWrite cx.now off v (seqClock cx.now h)
    else if off = RG.AN_SEQ_TRIG then anSeqTrigF v cx h
    else if off = RG.SD_CLEAR then sdClearF v cx h
    else if off = RG.TH_CTRL then thCtrlWrite v cx h
    else if 0x60100 ≤ off ∧ off < 0x60400 then ringWrite off v cx h
    else if 0x80000 ≤ off ∧ off < 0x88000 then canWriteReg 0 off v cx h
    else if 0x88000 ≤ off ∧ off < 0x90000 then canWriteReg 1 off v cx h
    else if off = RG.THERM_BAND then thermBandWrite v cx h
    else if 0xA0140 ≤ off ∧ off < 0xA0170 then (if h.tm.waitKey.isSome then plainWrite cx.now off v h else h)
    else if off = RG.PERT_CTRL then pertArmF v cx h
    else plainWrite cx.now off v h

/-! ### Flagged accesses (R526 to R529) -/

/-- An access is flagged: bit 0 MISALIGNED, 1 UNMAPPED, 2 DOMAIN_OFF (R528). -/
def flagAccess (bit : Nat) (x : Access) (cx : Cx) (h : Half) : Half :=
  let free := h.getF RG.GLB_ACC_ERR 2 0 == 0 || (h.acc.clr.map (sameClock cx.now)).getD false
  let ov := h.getF RG.GLB_ACC_ERR 3 3 == 1
  let addr : Word := BitVec.ofNat 32 (x.offset % 2 ^ 20 + 2 ^ 24 * b2n x.write + 2 ^ 25 * x.be.toNat + 2 ^ 31)
  let h := h.setW1c cx.now RG.GLB_ACC_ERR bit
  let h := if free then h.put RG.GLB_ACC_ADDR addr else h.setW1c cx.now RG.GLB_ACC_ERR 3
  let h := h.putF RG.GLB_ACC_ERR 31 16 (min 0xFFFF (h.getF RG.GLB_ACC_ERR 31 16 + 1))
  { h with acc := { h.acc with last := some (cx.now, addr, ov) } }

/-- The power domain that serves a register: LULL registers are reached through CORE (R319, R527). -/
def accDomain (off : Nat) : Nat :=
  match regDomain off with
  | .lane => 2
  | .net => 3
  | .ana => 4
  | _ => 0

/-- The register or word that an access addresses (R529). -/
def accKey (x : Access) : Nat :=
  if x.bar = 2 then 0x100000 + x.offset else if x.bar = 4 then 0x200000 + x.offset else x.offset

/-- A naturally aligned 32-bit access: one doubleword, all of its bytes enabled (R3, R526). -/
def accAligned (x : Access) : Bool := decide (x.offset % 4 = 0) && x.be == 0xF#4 && x.dwords == 1

/-- A naturally aligned 64-bit access, as BAR4 takes it (R529). -/
def accAligned64 (x : Access) : Bool := decide (x.offset % 8 = 0) && x.be == 0xF#4 && x.dwords == 2

/-- BAR4's MSI-X table and pending-bit array (10_host_interface.md, PCI Express endpoint). -/
def inBar4 (off : Nat) : Bool := decide (off < 0x200 ∨ (0x800 ≤ off ∧ off < 0x808))

/-- An access that is no naturally aligned 32-bit access; BAR4 takes 64-bit ones too (R526, R529). -/
def misalignedF (x : Access) (cx : Cx) (h : Half) : Half :=
  gate (coreUp h && x.bar != 4 && !accAligned x) (flagAccess 0 x cx) h

/-- The access is to no register; one to BAR4 lies outside its structures. -/
def unmappedF (x : Access) (cx : Cx) (h : Half) : Half :=
  gate (coreUp h && if x.bar = 4 then !inBar4 x.offset else (regRow (accKey x)).isNone) (flagAccess 1 x cx) h

def offAccess (x : Access) (cx : Cx) (h : Half) : Half := flagAccess 2 x cx (h.count RG.CLK_CNT_GATE_ERR)

/-- The register's domain is off or its clock is gated (R365, R437, R527). -/
def domainOffF (x : Access) (cx : Cx) (h : Half) : Half :=
  gate (coreUp h && x.bar == 0 && gated h (accDomain x.offset)) (offAccess x cx) h

end Sys2Proof.Machine
end

