-- ==== Sys2Proof/Machine/Memory.lean ====
section
/-! DEFINITION. The error code of the memories, scrubbing, row repair and refresh (15_memory_recorder.md, R457 to R465). -/
namespace Sys2Proof.Machine

def Half.modMe (h : Half) (f : Me → Me) : Half := { h with me := f h.me }

/-! ### The code (R457)

A word's codeword as a polynomial over GF(2): the 64 data bits from bit 63 down, the 40 address bits from bit 39 down, then
check bits 14 to 0, the highest power first (DEDUCED, log entry 45). -/

/-- m₁(x)·m₃(x)·(x + 1). -/
def eccG : Nat := 0xC599

/-- One further coefficient, modulo the generator. -/
def eccStep (r : Nat) (b : Bool) : Nat :=
  let r := 2 * r + b2n b
  if 2 ^ 15 ≤ r then r ^^^ eccG else r

/-- The bits of a number from bit n − 1 down. -/
def bitsDown (v n : Nat) : List Bool := (List.range n).map fun i => v.testBit (n - 1 - i)

/-- The 15 check bits of a word at an address. -/
def eccCheck (data addr : Nat) : Nat :=
  (bitsDown data 64 ++ bitsDown addr 40 ++ List.replicate 15 false).foldl eccStep 0

/-- x^j modulo the generator for j = 0 to n − 1, from the power r on. -/
def eccPowers : Nat → Nat → List Nat
  | 0, _ => []
  | n + 1, r => r :: eccPowers n (eccStep r false)

/-- The syndromes of one wrong bit in what is stored: check bits 0 to 14, then data bits 0 to 63. -/
def eccOnes : List Nat :=
  let p := eccPowers 119 1
  p.take 15 ++ p.drop 55

/-- The number of errors found in an 80-bit row: data in bits 63:0, check bits above; 3 stands for three or more. -/
def eccErrors (row : BitVec 80) (addr : Nat) : Nat :=
  let s := eccCheck (row.toNat % 2 ^ 64) addr ^^^ (row.toNat / 2 ^ 64 % 2 ^ 15)
  if s = 0 then b2n (row.getLsbD 79)
  else if eccOnes.contains s then 1
  else if eccOnes.any fun e => eccOnes.contains (s ^^^ e) then 2
  else 3

/-! ### Outcomes (R458) -/

/-- A one-bit correction in memory m (0 SRAM, 1 LPDDR4X). -/
def corrected1 (cx : Cx) (m : Nat) (h : Half) : Half :=
  let day (t : Nat) : Bool := decide (cx.now < t + tSec 86400)
  let l := cx.now :: (vget h.me.ce1 m).filter day
  let h := (h.count (if m = 0 then RG.MEM_CNT_SRAM_CE1 else RG.MEM_CNT_DDR_CE1)).modMe fun e => { e with ce1 := vset e.ce1 m l }
  let quiet := ((vget h.me.ceAt m).map fun t => !day t).getD true
  if decide (h.getF RG.MEM_CFG 15 0 < l.length) && quiet then
    raise cx 0xA7 0 (BitVec.ofNat 32 m) (h.modMe fun e => { e with ceAt := vset e.ceAt m (some cx.now) })
  else h

/-- MEM_ERR_ADDR and MEM_ERR_INFO. -/
def noteErr (m kind addr : Nat) (h : Half) : Half :=
  (h.put RG.MEM_ERR_ADDR (BitVec.ofNat 32 addr)).put RG.MEM_ERR_INFO (BitVec.ofNat 32 (m + 2 * kind))

/-- One word of the SRAM has been read (R458, R459). -/
def sramRead (cx : Cx) (addr n : Nat) (h : Half) : Half :=
  match n with
  | 0 => h
  | 1 => corrected1 cx 0 h
  | 2 =>
    let h := (noteErr 0 2 addr (h.count RG.MEM_CNT_SRAM_CE2)).modTh fun t => { t with eccCyc := some h.glb.cycle }
    raise cx 0xA0 0 (BitVec.ofNat 32 addr) h
  | _ =>
    let was := h.glb.role
    let h := (noteErr 0 3 addr (h.count RG.MEM_CNT_SRAM_UE)).modTh fun t => { t with eccCyc := some h.glb.cycle }
    let h := raise cx 0xA1 0 (BitVec.ofNat 32 addr) h
    if h.glb.role = .fenced ∧ was ≠ .fenced then h.modMe fun e => { e with ueAt := some cx.now } else h

/-- The SRAM scrubber reads its next word (R461). -/
def sramScrubF (row : BitVec 80) (cx : Cx) (h : Half) : Half :=
  gate (h.glb.dev != .lullOnly) (fun h =>
    let a := h.me.sramPos
    let h := sramRead cx a (eccErrors row a) h
    h.modMe fun e =>
      if a + 1 < 524288 then { e with sramPos := a + 1 } else { e with sramPos := 0, sramFrom := cx.now, sramLate := false }) h

/-- A half that source 0xA1 has fenced restarts itself (R459). -/
def sramUeRestartF (cx : Cx) (h : Half) : Half :=
  gate (h.glb.role == .fenced && (h.me.ueAt.map fun t => decide (t + tUs 10 ≤ cx.now)).getD false)
    (fun h => restartF 2 cx (h.modMe fun e => { e with ueAt := none })) h

/-! ### LPDDR4X (R460 to R465) -/

/-- The LPDDR4X has power and its clock. -/
def ddrUp (h : Half) : Bool := domUp h 1 && (pllOf h 4).on && (pllOf h 4).locked

/-- One word of the LPDDR4X has been read; a row that has failed is marked for repair. -/
def ddrRead (cx : Cx) (addr n : Nat) (h : Half) : Half :=
  let row := addr / 256
  let bad := fun (e : Me) => { e with ueRows := insNat row e.ueRows }
  match n with
  | 0 => h
  | 1 => corrected1 cx 1 h
  | 2 =>
    let h := (noteErr 1 2 addr (h.count RG.MEM_CNT_DDR_CE2)).modMe fun e =>
      match e.ce2Rows.find? fun x => x.1 == row with
      | some x => if x.2 = e.ddrPass then e else bad e
      | none => { e with ce2Rows := (row, e.ddrPass) :: e.ce2Rows }
    raise cx 0xA2 0 (BitVec.ofNat 32 addr) h
  | _ => raise cx 0xA3 0 (BitVec.ofNat 32 addr) ((noteErr 1 3 addr (h.count RG.MEM_CNT_DDR_UE)).modMe bad)

def sparesLeft (h : Half) : Nat := Config.spareRows - h.me.spareUsed

/-- A row marked earlier is remapped at its next scrub (R464). -/
def remapRow (cx : Cx) (row : Nat) (h : Half) : Half :=
  if !h.me.ueRows.contains row || sparesLeft h == 0 then h else
  let h := (h.count RG.MEM_CNT_REMAP).modMe fun e => { e with
    ueRows := e.ueRows.erase row, ce2Rows := e.ce2Rows.filter fun x => x.1 != row, mapped := insNat row e.mapped
    spareUsed := e.spareUsed + 1 }
  let h := raise cx 0xA4 0 0 h
  raiseIf (decide (sparesLeft h < 16) && !h.me.spareLow) cx 0xA5 0 0
    (h.modMe fun e => { e with spareLow := e.spareLow || decide (sparesLeft h < 16) })

/-- The LPDDR4X scrubber reads its next line of eight words with their check group. A row of the die is 2 KiB
(PRESUMED: log entry 46). (DEDUCED, log entry 67.) -/
def ddrScrubF (rows : List (BitVec 80)) (cx : Cx) (h : Half) : Half :=
  gate (h.glb.dev != .lullOnly && ddrUp h) (fun h =>
    let a := h.me.ddrPos
    let h := remapRow cx (8 * a / 256) h
    let h := ((rows.take 8).zipIdx).foldl (fun h r => ddrRead cx (8 * a + r.2) (eccErrors r.1 (8 * a + r.2)) h) h
    h.modMe fun e =>
      if a + 1 < 12582912 then { e with ddrPos := a + 1 }
      else { e with ddrPos := 0, ddrFrom := cx.now, ddrLate := false, ddrPass := e.ddrPass + 1 }) h

/-- A pass has taken 1.5 times its nominal length (R463). -/
def memScrubLateF (ddr : Bool) (cx : Cx) (h : Half) : Half :=
  if ddr then
    gate (h.glb.dev != .lullOnly && !h.me.ddrLate && decide (h.me.ddrFrom + tUs 6800 * 12582912 * 3 / 2 ≤ cx.now))
      (fun h => raise cx 0xA6 0 0 (h.modMe fun e => { e with ddrLate := true })) h
  else
    gate (h.glb.dev != .lullOnly && !h.me.sramLate && decide (h.me.sramFrom + tUs 19 * 524288 * 3 / 2 ≤ cx.now))
      (fun h => raise cx 0xA6 0 0 (h.modMe fun e => { e with sramLate := true })) h

/-- A refresh takes the larger multiplier (R465). -/
def refreshF (_cx : Cx) (h : Half) : Half :=
  gate (ddrUp h) (fun h => h.modMe fun e => { e with refMult := max (if h.tm.failed then 4 else 2 ^ h.tm.band) (max 1 e.mr4) }) h

/-- The die's refresh-rate field is read. -/
def mr4PollF (mult : Nat) (_cx : Cx) (h : Half) : Half := gate (ddrUp h) (fun h => h.modMe fun e => { e with mr4 := mult }) h

end Sys2Proof.Machine
end

