-- ==== Sys2Proof/Machine/Recorder.lean ====
section
/-! DEFINITION. The disturbance recorder: frames, triggers, records and the recorder's commands (15_memory_recorder.md,
R466 to R477). -/
namespace Sys2Proof.Machine

/-- The bank whose RCD fields are in force (R469). -/
def rcdBank (h : Half) : Bank := h.me.hold.getD h.glb.live
def rcdN (h : Half) (off : Nat) : Nat := Bank.nat (rcdBank h) off

/-- Channels recorded. -/
def rcdChans (b : Bank) : List Nat := (List.range 24).filter fun n => (Bank.word b BK.RCD_AIN_MASK).getLsbD n
/-- Contexts recorded. -/
def rcdCells (b : Bank) : List Nat :=
  (List.range 144).filter fun c => (Bank.word b (BK.RCD_CELL_MASK (c / 32))).getLsbD (c % 32)

/-! ### Frames (R467) -/

/-- The frame of the cycle that ends. -/
def frameOf (h : Half) : Frame :=
  let b := rcdBank h
  let n := h.glb.cycle
  let dec := Bank.nat b BK.RCD_CELL_DEC
  let cells := if dec != 0 && n % dec == 0 then rcdCells b else []
  let evs := if Bank.flag b BK.RCD_EVENTS then h.me.evs.take 255 else []
  let body :=
    (cells.flatMap fun c => (List.range 4).flatMap fun i => leWord (WMap.get zeroW h.glb.snap (8 + 4 * c + i))) ++
    ((List.range (Bank.nat b BK.RCD_NSIG)).flatMap fun j => leWord (sigRead h (Bank.nat b (BK.RCD_SIG j)))) ++
    ((rcdChans b).flatMap fun c =>
      let ws := (h.me.words.filter fun w => w.1 == c).map (·.2)
      leBytes 4 (ws.length % 256 + 256 * c) ++ ws.flatMap leWord) ++
    evs.flatMap fun r => evBytes r 0
  let stamp := (h.tb.epoch + n * h.tc) / 2 ^ 32
  { cycle := n, gap := h.me.gap
    bytes := leBytes 8 n ++ leBytes 4 stamp ++ leBytes 2 (16 + body.length) ++
      leBytes 1 (b2n (!cells.isEmpty) + 4 * b2n h.me.gap) ++ leBytes 1 evs.length ++ body }

/-- B of R469: the mean frame length without events, rounded up. -/
def rcdRate (b : Bank) : Nat :=
  let ch := (rcdChans b).foldl (fun s n =>
    s + 4 + 4 * ceilDiv (4 * Bank.nat b BK.CYCLE_TC_TICKS) (50 * Bank.nat b (BK.AN_CH_DECIM n))) 0
  let dec := Bank.nat b BK.RCD_CELL_DEC
  16 + 4 * Bank.nat b BK.RCD_NSIG + ch + (if dec = 0 then 0 else ceilDiv (16 * (rcdCells b).length) dec)

/-! ### Pages (R466, R473) -/

def rcdPages : Nat := 196608
def framesLen (l : List Frame) : Nat := l.foldl (fun s f => s + f.bytes.length) 0
/-- Pages that a run of frames takes. -/
def pagesOf (l : List Frame) : Nat := ceilDiv (framesLen l) 4096

/-- Pages that belong to no frozen record and not to the open one. -/
def freePages (h : Half) : Nat :=
  rcdPages - h.me.frozen.foldl (fun s r => s + pagesOf r.frames) 0 - ((h.me.opened.map fun r => pagesOf r.frames).getD 0)

/-- The lowest free catalogue slot. -/
def freeSlot (h : Half) : Nat := ((List.range 16).find? fun s => h.me.frozen.all fun r => r.slot != s).getD 0

/-- The open record closes and is frozen (R472). -/
def closeRec (truncated : Bool) (h : Half) : Half :=
  match h.me.opened with
  | none => h
  | some r => h.modMe fun e => { e with
      opened := none, hold := none, frozen := e.frozen ++ [{ r with truncated := truncated, slot := freeSlot h }] }

/-- The oldest frames leave the ring until it fits in p pages. -/
def fitRing (p : Nat) (l : List Frame) : List Frame :=
  (l.foldl (fun (a : Nat × List Frame × Bool) f =>
    let n := a.1 + f.bytes.length
    if a.2.2 || p * 4096 < n then (a.1, a.2.1, true) else (n, f :: a.2.1, false)) (0, [], false)).2.1.reverse

/-- A page is needed and none is free: with OVERWRITE the oldest frozen record is released (R473). -/
def makeRoom (cx : Cx) (need : Half → Bool) : Nat → Half → Half
  | 0, h => h
  | n + 1, h =>
    if !need h || h.me.frozen.isEmpty || !h.bf BK.RCD_OVERWRITE then h
    else makeRoom cx need n (raise cx 0xA9 0 0 (h.modMe fun e => { e with frozen := e.frozen.tail }))

/-- The frame of the past cycle is written (R466, R473). -/
def writeFrame (cx : Cx) (h : Half) : Half :=
  if !ddrUp h then h.modMe fun e => { e with gap := true } else
  let f := frameOf h
  let need := fun (h : Half) => match h.me.opened with
    | some r => decide (freePages h + pagesOf r.frames < pagesOf (f :: r.frames))
    | none => freePages h == 0
  let h := makeRoom cx need 16 h
  if need h then
    let h := if h.me.opened.isSome then raise cx 0xA9 0 1 (closeRec true h) else h
    h.modMe fun e => { e with gap := true }
  else
    match h.me.opened with
    | some r => h.modMe fun e => { e with opened := some { r with frames := f :: r.frames }, gap := false }
    | none => h.modMe fun e => { e with ring := fitRing (freePages h) (f :: e.ring), gap := false }

/-! ### Triggers and records (R470 to R473) -/

/-- The first cycle that a record holds. -/
def firstCycle (r : Rcd) : Nat := (r.frames.getLast?.map (·.cycle)).getD r.trig

/-- Record `num` opens for trigger cycle T. -/
def openRec (num T : Nat) (causes : List (RcdCause × Nat × Nat)) (h : Half) : Half :=
  let top := rcdN h BK.RCD_MAX_CYC
  let fs := (h.me.ring.filter fun f => decide (T ≤ f.cycle + rcdN h BK.RCD_PRE_CYC)).take top
  let r : Rcd := { num := num, trig := T, stamp := time64 h.tb.cal ((h.tb.epoch + T * h.tc) / 2 ^ 32)
                   pre := (fs.filter fun f => decide (f.cycle < T)).length, stop := 0, causes := causes.take 8
                   commits := h.glb.commits, frames := fs, truncated := false, retrig := false, reading := false, slot := 0 }
  let r := { r with stop := min (T + rcdN h BK.RCD_POST_CYC) (firstCycle r + top) }
  h.modMe fun e => { e with opened := some r, ring := [], nextNum := (num + 1) % 65536 }

/-- A trigger within the post window of the open record joins it (R472). (DEDUCED, log entry 35.) -/
def joinRec (t : RcdCause × Nat × Nat) (r : Rcd) (h : Half) : Half :=
  let r := { r with causes := if r.causes.length < 8 then r.causes ++ [t] else r.causes }
  let r := if rcdN h BK.RCD_RETRIG = 1 then
      { r with retrig := true, stop := max r.stop (min (t.2.2 + rcdN h BK.RCD_POST_CYC) (firstCycle r + rcdN h BK.RCD_MAX_CYC)) }
    else r
  h.modMe fun e => { e with opened := some r }

/-- A trigger in the half that decides: it joins, opens a record or is refused. -/
def takeTrigger (cx : Cx) (t : RcdCause × Nat × Nat) (h : Half) : Half :=
  match h.me.opened with
  | some r => joinRec t r h
  | none =>
    if 16 ≤ h.me.frozen.length then raise cx 0xA9 0 2 h
    else
      let n := h.me.nextNum
      let h := openRec n t.2.2 [t] h
      if h.glb.role ≠ .active then h else
      raise cx 0xA8 0 (BitVec.ofNat 32 n) (h.tether cx.now (.relay (.recOpen n (BitVec.ofNat 64 t.2.2))))

/-- OPEN of the ACTIVE half arrives (R471). -/
def recOpenF (cx : Cx) (num T : Nat) (h : Half) : Half :=
  if !h.me.armed || h.me.opened.any (fun r => r.num == num) || h.glb.role != .standby then h
  else if 16 ≤ h.me.frozen.length then raise cx 0xA9 0 2 h
  else openRec num T (h.me.trigs.filter fun t => decide (T ≤ t.2.2)) (closeRec false h)

/-- TRIG_SIG at the end of the cycle's pass (R470). -/
def sigTrigger (cx : Cx) (h : Half) : Half :=
  let s := h.bn BK.RCD_TRIG_SIG
  let c := s != 0xFFF && cond (sigRead h s)
  let h := if c && !h.me.sigCond then settleTrig cx (h.modMe fun e => { e with trig := e.trig ++ [.signal s] }) else h
  h.modMe fun e => { e with sigCond := c }

/-- The triggers that wait are taken by the half that decides; a STANDBY half joins its own to its open record. -/
def takeTriggers (cx : Cx) (h : Half) : Half :=
  let ts := h.me.trigs
  if h.glb.role = .active then
    ts.foldl (fun h t => takeTrigger cx t h) (h.modMe fun e => { e with trigs := [] })
  else if h.glb.role = .standby then
    let h := ts.foldl (fun h t => match h.me.opened with
      | some r => if r.causes.contains t then h else joinRec t r h
      | none => h) h
    h.modMe fun e => { e with trigs := if e.opened.isSome then [] else ts.filter fun t => decide (h.glb.cycle < t.2.2 + 2) }
  else h.modMe fun e => { e with trigs := [] }

/-- The recorder at T0 of the next cycle: the frame of the past one, the triggers, the end of the open record. (DEDUCED, log entry 66.) -/
def recorderT0 (cx : Cx) (h : Half) : Half :=
  let h := if h.glb.role = .syncing then h.modMe fun e => { e with frozen := [], opened := none, hold := none } else h
  let h := if h.me.armed && h.glb.dispAt.isSome then takeTriggers cx (writeFrame cx (sigTrigger cx h)) else
    h.modMe fun e => { e with trigs := [] }
  let h := if (h.me.opened.map fun r => decide (r.stop ≤ h.glb.cycle + 1)).getD false then closeRec false h else h
  h.modMe fun e => { e with words := [], evs := [] }

/-- A commit while a record is open: changed RCD fields wait until it closes (R469). -/
def rcdCommit (old : Bank) (h : Half) : Half :=
  if h.me.opened.isSome then h.modMe fun e => { e with hold := some (e.hold.getD old) } else h

/-! ### CMD_RECORDER (R474) -/

/-- TRIGGER, RELEASE, ARM and DISARM at T0: status, RESULT and the half after it. -/
def recorderCmd (cx : Cx) (d : Desc) (h : Half) : Nat × Word × Half :=
  match dByte d 24 with
  | 0 =>
    if !h.me.armed then (5, 0, h) else
    let h := takeTrigger cx (.command, cx.me.bit, h.glb.cycle) h
    match h.me.opened with
    | some r => (2, BitVec.ofNat 32 r.num, h)
    | none => (5, 0, h)
  | 2 =>
    match recordOf h (dHalf d 28) with
    | some r => if r.reading then (5, 0, h) else
        (2, BitVec.ofNat 32 (pagesOf r.frames), h.modMe fun e => { e with frozen := e.frozen.filter fun x => x.num != r.num })
    | none => (5, 0, h)
  | 3 => (2, 0, h.modMe fun e => { e with armed := true })
  | _ => (2, 0, (closeRec false h).modMe fun e => { e with armed := false, ring := [] })

end Sys2Proof.Machine
end

