-- ==== Sys2Proof/Machine/Commit.lean ====
section
/-! DEFINITION. CMD_COMMIT: the rules by which a commit is judged, the status and RESULT that follow (R535), and
what an applied commit does (R344; R17, R23 to R26, R33 to R39, R93, R115, R187, R209 to R212, R224, R254, R259, R270,
R316, R410, R469). -/
namespace Sys2Proof.Machine

/-! ### Words involved in the failed rules of REJECT_ARG -/

/-- An SD field of a reserved source (R259). -/
def reservedSd (off : Nat) : Bool := decide (0x400 ≤ off ∧ off < 0xC00) && reservedSrc (off % 0x400 / 4)

/-- Fields whose range is judged by their own rule: those of an instance (R194, R209) and LV.BRK.I2T_MAX (R253). -/
def ownRange (off : Nat) : Bool := decide (BK.LT_BLK_TYPE 0 ≤ off ∧ off < BK.LT_BLK_TYPE 512) || off == BK.LV_BRK_I2T_MAX

/-- A field of an instance that is off (R194): only its TYPE is checked. -/
def offWord (b : Bank) (off : Nat) : Bool :=
  decide (BK.LT_BLK_TYPE 0 ≤ off ∧ off < BK.LT_BLK_TYPE 512) && off % 0x80 != 0 && Bank.nat b (off / 0x80 * 0x80) == 0

/-- Words whose upper bits are no extension of the field (R343), or whose value lies outside the range of its row. -/
def rangeWords (b : Bank) : List Nat :=
  b.filterMap fun x => match bankField x.1 with
    | none => none
    | some r =>
      if offWord b x.1 || (r.extOk x.2 && (reservedSd x.1 || ownRange x.1 || r.rangeOk x.2)) then none else some x.1

def b1 (b : Bool) (l : List Nat) : List Nat := if b then l else []

/-- R39. -/
def applyWords (b : Bank) : List Nat := b1 (Bank.nat b BK.CYCLE_APPLY_NS % 4 != 0) [BK.CYCLE_APPLY_NS]

/-- R259. -/
def sdWords (b : Bank) : List Nat :=
  (List.range 256).flatMap fun s =>
    if reservedSrc s then [] else
    let v := Bank.nat b (BK.SD_SEV s)
    b1 (v == 7 || decide (v < sevMin s) || (sharedSrc s && v == 4)) [BK.SD_SEV s] ++
    b1 (Bank.nat b (BK.SD_STAGE s) == 0) [BK.SD_STAGE s]

/-- Ring and position (less 1) of every entry of HERD.CTX. -/
def positions : List (Nat × Nat) := (List.range 12).flatMap fun k => (List.range 16).map fun i => (k, i)

/-- The context that an entry of a bank gives its position; `named`: the contexts that entries name (R92). -/
def bankCtx (b : Bank) (named : List Nat) (k i : Nat) : Option Nat :=
  let e := Bank.nat b (BK.HERD_CTX k i)
  if e < 144 then some e
  else if i < 12 ∧ !named.contains (12 * k + i) then some (12 * k + i)
  else none

def namedCtx (b : Bank) : List Nat :=
  positions.filterMap fun q => let e := Bank.nat b (BK.HERD_CTX q.1 q.2); if e < 144 then some e else none

/-- Two positions resolve to one context (R93). -/
def ctxWords (b : Bank) : List Nat :=
  let named := namedCtx b
  let cs := positions.filterMap fun q => (bankCtx b named q.1 q.2).map fun c => (q, c)
  (cs.filter fun x => decide (1 < (cs.filter fun y => y.2 == x.2).length)).map fun x => BK.HERD_CTX x.1.1 x.1.2

/-- R115: the trios. -/
def trioWords (b : Bank) : List Nat :=
  let holders (t : Nat) : List Nat := (List.range 24).filter fun n => Bank.nat b (BK.AN_CH_TRIO n) == t
  ((List.range 8).flatMap fun t =>
    let n := ((holders t).filter fun c => Bank.flag b (BK.AN_CH_EN c)).length
    b1 (n != 0 && n != 3) ((holders t).map BK.AN_CH_TRIO)) ++
  ((List.range 24).filter fun n => !Bank.flag b (BK.AN_CH_EN n) && decide (Bank.nat b (BK.AN_CH_TRIO n) < 8)).map BK.AN_CH_TRIO

/-- R254, one pair. -/
def pairWords (b : Bank) (n : Nat) : List Nat :=
  let w (o : Nat) : Nat := Bank.nat b o
  let mode := w (BK.LV_PAIR_MODE n)
  if mode ≠ 1 ∧ mode ≠ 2 then [] else
  let f := (if mode = 1 then 2 else 1) * w (BK.LV_PAIR_PERIOD n)
  let minp := w (BK.LV_PAIR_MINP n)
  let bs := w (BK.LV_PAIR_BS_N n)
  let tmin := w (BK.LV_PAIR_BS_TMIN n)
  b1 (decide (f ≤ w (BK.LV_PAIR_PHASE n))) [BK.LV_PAIR_PHASE n] ++
  b1 (decide (8 * f < 2 * w (BK.LV_PAIR_DT n) + minp + max minp (if bs = 0 then 0 else tmin)))
    [BK.LV_PAIR_MODE n, BK.LV_PAIR_PERIOD n, BK.LV_PAIR_DT n, BK.LV_PAIR_MINP n, BK.LV_PAIR_BS_N n, BK.LV_PAIR_BS_TMIN n] ++
  b1 (bs != 0 && decide (tmin < minp)) [BK.LV_PAIR_BS_N n, BK.LV_PAIR_BS_TMIN n, BK.LV_PAIR_MINP n]

/-- R254: pairs, comparators and brake. -/
def lvWords (b : Bank) : List Nat :=
  (List.range 12).flatMap (pairWords b) ++
  ((List.range 16).filter fun n => Bank.flag b (BK.LV_TRIP_SOFT_EN n) && Bank.flag b (BK.LV_TRIP_HARD_EN n) &&
    decide (Bank.nat b (BK.LV_TRIP_HARD n) < Bank.nat b (BK.LV_TRIP_SOFT n))).flatMap (fun n =>
      [BK.LV_TRIP_SOFT_EN n, BK.LV_TRIP_HARD_EN n, BK.LV_TRIP_SOFT n, BK.LV_TRIP_HARD n]) ++
  b1 (!F32.finite (Bank.word b BK.LV_BRK_I2T_MAX)) [BK.LV_BRK_I2T_MAX] ++
  (if Bank.nat b BK.LV_BRK_MODE = 0 then [] else
    b1 (!F32.lt (Bank.word b BK.LV_BRK_V_OFF) (Bank.word b BK.LV_BRK_V_ON)) [BK.LV_BRK_V_ON, BK.LV_BRK_V_OFF] ++
    b1 (!F32.gt (Bank.word b BK.LV_BRK_I2T_MAX) F32.zero) [BK.LV_BRK_I2T_MAX])

/-- R187: clusters. -/
def oxWords (b : Bank) : List Nat :=
  [0, 1, 2].flatMap fun x =>
    let cs := (List.range 144).filter fun c => Bank.nat b (BK.OX_CLUSTER c) == x
    let nrun := Bank.nat b (BK.OX_NRUN x)
    b1 (decide (48 < cs.length)) (cs.map BK.OX_CLUSTER) ++
    (if Bank.nat b (BK.OX_RED_MODE x) = 1 then
      b1 (decide (cs.length < nrun ∨ nrun + 4 < cs.length)) [BK.OX_NRUN x] ++
      b1 (decide (nrun < Bank.nat b (BK.OX_NMIN x))) [BK.OX_NMIN x, BK.OX_NRUN x]
    else [])

/-- The bytes of a string field; printable before its first 0, which nothing but 0 follows, and not empty (R410). -/
def stringOk (l : List Byte) : Bool :=
  let s := l.takeWhile (· != 0)
  !s.isEmpty && (s.all fun c => decide (0x20 ≤ c.toNat ∧ c.toNat ≤ 0x7E)) && (l.drop s.length).all (· == 0)

def strBytes (b : Bank) (off : Nat) : List Byte := (List.range 16).flatMap fun w => leWord (Bank.word b (off + 4 * w))
def strWords (off : Nat) : List Nat := (List.range 16).map fun w => off + 4 * w

/-- R410, one enabled stream. -/
def svWords (b : Bank) (i : Nat) : List Nat :=
  let nch := Bank.nat b (BK.SV_NCH i)
  b1 (!stringOk (strBytes b (BK.SV_SVID i 0))) (strWords (BK.SV_SVID i 0)) ++
  b1 (nch == 0) [BK.SV_NCH i] ++
  b1 (svRateOf b i % max 1 (Bank.nat b (BK.SV_NOASDU i)) != 0) [BK.SV_RATE i, BK.SV_NOASDU i] ++
  b1 (Bank.nat b (BK.SV_PORTS i) == 0 && Bank.nat b BK.ETH_MODE != 1) [BK.SV_PORTS i] ++
  (List.range (min nch 16)).flatMap fun e =>
    let s := Bank.nat b (BK.SV_CH_SRC i e)
    if s < 24 then b1 (!Bank.flag b (BK.AN_CH_EN s)) [BK.SV_CH_SRC i e, BK.AN_CH_EN s]
    else if 0x80 ≤ s ∧ s < 0x88 then
      b1 ((List.range 24).all fun n => !(Bank.flag b (BK.AN_CH_EN n) && Bank.nat b (BK.AN_CH_TRIO n) == s - 0x80)) [BK.SV_CH_SRC i e]
    else []

/-- R409's ranges that no single word shows, and R410. -/
def netWords (b : Bank) : List Nat :=
  let svs := (List.range 8).filter fun i => Bank.flag b (BK.SV_EN i)
  let gos := (List.range 16).filter fun g => Bank.flag b (BK.GO_CB_EN g)
  let sid (i : Nat) : List Byte := strBytes b (BK.SV_SVID i 0)
  let gid (g : Nat) : Nat × List Byte := (Bank.nat b (BK.GO_CB_APPID g), strBytes b (BK.GO_CB_GOCBREF g 0))
  ((List.range 8).flatMap fun i =>
    b1 (!(Bank.word b (BK.SV_DMAC_HI i)).getLsbD 8) [BK.SV_DMAC_HI i] ++
    ((List.range 16).filter fun e => let s := Bank.nat b (BK.SV_CH_SRC i e)
      decide (24 ≤ s ∧ s < 0x80) || decide (0x88 ≤ s)).map fun e => BK.SV_CH_SRC i e) ++
  svs.flatMap (svWords b) ++
  (svs.filter fun i => svs.any fun j => j != i && sid i == sid j).flatMap (fun i => strWords (BK.SV_SVID i 0)) ++
  gos.flatMap (fun g => b1 (!stringOk (gid g).2) (strWords (BK.GO_CB_GOCBREF g 0))) ++
  (gos.filter fun g => gos.any fun j => j != g && gid g == gid j).flatMap (fun g =>
    BK.GO_CB_APPID g :: strWords (BK.GO_CB_GOCBREF g 0)) ++
  ((List.range 64).filter fun j => Bank.nat b (BK.GO_PT_ACTION j) != 0 &&
    !Bank.flag b (BK.GO_CB_EN (Bank.nat b (BK.GO_PT_CB j)))).flatMap fun j => [BK.GO_PT_CB j, BK.GO_PT_ACTION j]

/-- R469: CELL_MASK. -/
def rcdWords (b : Bank) : List Nat :=
  b1 (decide (2 ^ 16 ≤ Bank.nat b (BK.RCD_CELL_MASK 4))) [BK.RCD_CELL_MASK 4]

/-- Every word involved in a failed rule of REJECT_ARG. -/
def argWords (b : Bank) : List Nat :=
  rangeWords b ++ applyWords b ++ sdWords b ++ ctxWords b ++ trioWords b ++ lvWords b ++ oxWords b ++ netWords b ++
  rcdWords b ++ ltArgWords b

/-! ### REJECT_STATE -/

/-- A request that the stage's state permits (R33); `free`: every latch of the stage is released. -/
def permits (s : Stage) (req : Nat) (free : Bool) : Bool :=
  match s with
  | .stopped => decide (req ≤ 2)
  | .precharge | .run | .test => req == 0
  | .tripped => req == 3 || (req == 0 && free)
  | .recovery => req == 0 && free

/-- The device state of the ACTIVE half (R28), which lets a stage leave STOPPED (DEDUCED, log entry 47). -/
def mayStart (h : Half) : Bool :=
  let d := if h.glb.role = .active then h.glb.dev.code else h.th.oDev
  d == 3 || d == 4

def changed (old new : Bank) (o : Nat) : Bool := Bank.word old o != Bank.word new o

/-- The stage request that a commit carries (R36): REQ where it has been written since the last applied commit, or where the
commit changes it (DEDUCED, log entry 69). -/
def request (asked : Bool) (old new : Bank) (o : Nat) : Option Nat :=
  if asked || changed old new o then some (Bank.nat new o) else none

/-- A stage's request against R33, R17, R270. -/
def requestBad (h : Half) (s : Stage) (free : Bool) (m : Nat) (req : Option Nat) : Bool :=
  match req with
  | none => false
  | some r => !permits s r free || (s == .stopped && (r == 1 || r == 2) && (h.sd.deg.getLsbD m || !mayStart h)) ||
      (s == .stopped && m == 0 && (r == 1 || r == 2) && h.glb.budget)

/-- Every word involved in a failed rule of REJECT_STATE. -/
def stateWords (h : Half) (b : Bank) : List Nat :=
  let old := h.glb.live
  let ch := changed old b
  let mvOut := h.glb.mv != .stopped
  let held (c : Nat) : Bool := (h.cell c).bound && (h.cell c).st.slot
  b1 (ch BK.CYCLE_TC_TICKS && (mvOut || h.glb.lv != .stopped)) [BK.CYCLE_TC_TICKS] ++
  b1 (requestBad h h.glb.mv (h.sd.hold == 0) 0 (request h.glb.reqMv old b BK.STAGE_MV_REQ)) [BK.STAGE_MV_REQ] ++
  b1 (requestBad h h.glb.lv (lvLatchFree h) 1 (request h.glb.reqLv old b BK.STAGE_LV_REQ)) [BK.STAGE_LV_REQ] ++
  (if !mvOut then [] else
    let on := namedCtx old
    let nn := namedCtx b
    ((positions.filter fun q => match bankCtx old on q.1 q.2 with
      | some c => held c && (h.cell c).ring == q.1 && (h.cell c).pos == q.2 + 1 && bankCtx b nn q.1 q.2 != some c
      | none => false).map fun q => BK.HERD_CTX q.1 q.2) ++
    ((List.range 12).filter fun k => Bank.flag old (BK.HERD_RING_EN k) && !Bank.flag b (BK.HERD_RING_EN k) &&
      (List.range 144).any fun c => held c && (h.cell c).ring == k).map BK.HERD_RING_EN ++
    ([BK.OX_CONN, BK.OX_DAB_FSW, BK.OX_CAR_INC, BK.OX_MV_DT, BK.OX_RED_MODE 0, BK.OX_RED_MODE 1, BK.OX_RED_MODE 2].filter ch) ++
    ((List.range 144).filter fun c => held c && ch (BK.OX_CLUSTER c)).map BK.OX_CLUSTER) ++
  (if h.glb.lv = .stopped then [] else
    (List.range 12).flatMap fun n => [BK.LV_PAIR_MODE n, BK.LV_PAIR_PERIOD n, BK.LV_PAIR_PHASE n].filter ch)

/-! ### REJECT_CAPACITY -/

/-- Words involved in a failed rule of REJECT_CAPACITY (R210, R469). -/
def capWords (b : Bank) : List Nat :=
  let n (o : Nat) : Nat := Bank.nat b o
  b1 (decide (ltBudget b < (ltBankCost b).1)) (ltCostWords b) ++
  b1 (decide (768 * 2 ^ 20 < rcdRate b * max (n BK.RCD_PRE_CYC + n BK.RCD_POST_CYC) (n BK.RCD_MAX_CYC)))
    [BK.RCD_PRE_CYC, BK.RCD_POST_CYC, BK.RCD_MAX_CYC]

/-! ### The judgement (R535) -/

/-- CHECK_COUNT and CHECK_CRC (R344). -/
def checksFail (h : Half) (d : Desc) : Bool :=
  (dFlags d / 4 % 2 == 1 && dWord d 6 != h.glb.commits) ||
  (dFlags d / 8 % 2 == 1 && dWord d 7 != crc32c (bankBytes h.glb.pend))

def lowest (l : List Nat) : Word := match l with
  | [] => 0xFFFFFFFF#32
  | o :: l => BitVec.ofNat 32 (l.foldl min o)

/-- Status and RESULT of a commit that is not applied; none: it is applied. -/
def judgeCommit (h : Half) (d : Desc) : Option (Nat × Word) :=
  let b := h.glb.pend
  let arg := argWords b
  if checksFail h d || !arg.isEmpty then some (4, lowest arg)
  else
    let st := stateWords h b
    if !st.isEmpty then some (5, lowest st)
    else
      let cap := capWords b
      if !cap.isEmpty then some (6, lowest cap) else none

/-- A configuration image's bank passes (R484): judged with both stages STOPPED. -/
def bankOk (b : Bank) : Bool := (argWords b).isEmpty && (capWords b).isEmpty

/-! ### An applied commit (R344) -/

/-- The stage requests act at T0 (R33, R178, R233). -/
def mvRequest (now : Nat) (r : Nat) (h : Half) : Half :=
  match h.glb.mv, r with
  | .stopped, 1 => mvEnter now .precharge h
  | .stopped, 2 => mvEnter now .test h
  | .run, 0 => if ramping h then h else rampDown h
  | .stopped, _ => h
  | .tripped, 3 => mvEnter now .recovery h
  | _, 0 => mvEnter now .stopped h
  | _, _ => h

def lvRequest (now : Nat) (r : Nat) (h : Half) : Half :=
  match h.glb.lv, r with
  | .stopped, 1 => lvEnter now .precharge h
  | .stopped, 2 => lvEnter now .test h
  | .run, 0 => lvStop h
  | .test, 0 => lvStop h
  | .stopped, _ => h
  | .tripped, 3 => lvEnter now .recovery h
  | _, 0 => lvEnter now .stopped h
  | _, _ => h

/-- Bindings, parameters and TIME_SETs of the nodes after a change of the bank (R89, R95, R184). -/
def herdCommit (old : Bank) (h : Half) : Half :=
  let new := h.glb.live
  let on := namedCtx old
  let nn := namedCtx new
  let ch := changed old new
  -- the positions are unbound while the old bank still says which context they had
  let h := positions.foldl (fun h q =>
    let was := bankCtx old on q.1 q.2
    let gone := bankCtx new nn q.1 q.2 != was || (Bank.flag old (BK.HERD_RING_EN q.1) && !Bank.flag new (BK.HERD_RING_EN q.1))
    let n := h.node q.1 (q.2 + 1)
    let bound := match was with
      | some c => (h.cell c).bound && (h.cell c).ring == q.1 && (h.cell c).pos == q.2 + 1
      | none => false
    if (gone && (bound || n.binding.isSome)) || (ch (BK.HERD_CTX q.1 q.2) && n.fwd) then
      { unbind q.1 (q.2 + 1) { h with glb := { h.glb with live := old } } with glb := h.glb }
    else h) h
  let cfg := [(1, BK.OX_CAR_INC), (2, BK.OX_DAB_FSW), (3, BK.OX_SS_RATE), (4, BK.OX_VDC_TRIP), (5, BK.OX_TEMP_TRIP),
    (6, BK.OX_MV_DT)].filterMap fun x => if ch x.2 then some x.1 else none
  let tc := ch BK.CYCLE_TC_TICKS
  let h := positions.foldl (fun h q =>
    if tc && (h.node q.1 (q.2 + 1)).fwd then h.modNode q.1 (q.2 + 1) fun n => { n with tsDue := true } else
    match bankCtx new nn q.1 q.2 with
    | none => h
    | some c =>
      if !((h.cell c).bound && (h.cell c).ring == q.1 && (h.cell c).pos == q.2 + 1) then h else
      h.modNode q.1 (q.2 + 1) fun n => { n with
        cfgDue := if h.glb.role = .active then cfg.foldl (fun l i => insNat i l) n.cfgDue else n.cfgDue
        tsDue := n.tsDue || tc, tsNow := n.tsNow || ch (BK.OX_CLUSTER c) }) h
  h

/-- A ring whose span table changed and that has no reports looks at its delays again (R57, R60). -/
def spanCommit (cx : Cx) (old : Bank) (h : Half) : Half :=
  (List.range 12).foldl (fun h k =>
    if (List.range 17).any (fun i => changed old h.glb.live (BK.HERD_SPAN k i)) ∧ (h.ring k).src ≠ 3 then
      updateDelays cx k false h else h) h

/-- A new Tc: cycle 0 begins at the first whole second of the timebase to come, and what is held for later cycles
is withdrawn (R25, R341). What is counted in cycles goes on, so that LAST_CYCLE of an instance is the number that its last
run has in the new count, modulo 2^16 (R214; DESIGN CHOICE, log entry 127). -/
def newEpoch (now : Nat) (h : Half) : Half :=
  -- what is counted in cycles goes on across the new beginning of the count
  let n : Int := h.glb.cycle + 1
  let h := h.modLt fun l => { l with blk := l.blk.map fun x => (x.1, { x.2 with last := x.2.last - n }) }
  let h := h.modOx fun o => { o with lastGroup := o.lastGroup.map fun g => g - n }
  let h := h.modSd fun s => { s with sharedRecs := [], decided := [] }
  let h : Half := { h with svc := h.svc.map fun s => { s with crcHist := s.crcHist.map (· - n) } }
  let e := (h.tb.now / (1000000000 * 2 ^ 32) + 1) * (1000000000 * 2 ^ 32)
  let h := (h.modTb fun t => { t with step := none, rephase := none }).modGlb fun g => { g with nextT0 := e, started := false }
  withdraw (markersAnew now (moveEpoch now e h))

/-- RCD fields that wait for the end of an open record (R469). -/
def rcdChanged (old new : Bank) : Bool :=
  (List.range 77).any fun i => changed old new (0xC000 + 4 * i)

/-- The commit is applied; answers the new commit count. (DEDUCED, log entry 69.) -/
def applyCommit (cx : Cx) (h : Half) : Half :=
  let old := h.glb.live
  let new := h.glb.pend
  let ch := changed old new
  let h := h.modGlb fun g => { g with live := new, commits := g.commits + 1 }
  let h := if ch BK.CYCLE_TC_TICKS then newEpoch cx.now h else
    (List.range 12).foldl (fun h n =>
      if ch (BK.LV_PAIR_MODE n) || ch (BK.LV_PAIR_PERIOD n) || ch (BK.LV_PAIR_PHASE n) then newCounter cx.now n h else h) h
  let h := if ch BK.LV_BRK_PERIOD then newBrake cx.now h else h
  let h := lvRefresh cx.now (tripsCompare cx.now h)
  let h := herdCommit old h
  let h := ltCommit old new h
  let h := if rcdChanged old new then rcdCommit old h else h
  let h := emptyHistory (fun n => ch (BK.AN_CH_EN n) && Bank.flag new (BK.AN_CH_EN n)) h
  let h := discT0 (netCommit cx old h.ns h)
  let h := recompute cx (spanCommit cx old h)
  let mv := request h.glb.reqMv old new BK.STAGE_MV_REQ
  let lv := request h.glb.reqLv old new BK.STAGE_LV_REQ
  let h := h.modGlb fun g => { g with reqMv := false, reqLv := false }
  let h := match mv with
    | some r => mvRequest cx.now r h
    | none => h
  let h := match lv with
    | some r => lvRequest cx.now r h
    | none => h
  h.modTh fun t => { t with bankCrc := crc32c (bankBytes new) }

/-- CMD_COMMIT at T0 of its cycle: status and RESULT, and the half after it. -/
def commitCmd (cx : Cx) (d : Desc) (h : Half) : Nat × Word × Half :=
  let h := ltReport h.glb.pend h
  match judgeCommit h d with
  | some (s, r) => (s, r, h)
  | none =>
    let h := applyCommit cx h
    (2, h.glb.commits, h)

end Sys2Proof.Machine
end

