-- ==== Sys2Proof/Machine/Package.lean ====
section
/-! DEFINITION. Straps, reset balls and boundary scan (17_package.md, R503 to R508; R252). -/
namespace Sys2Proof.Machine

def Half.modPk (h : Half) (f : Pk → Pk) : Half := { h with pk := f h.pk }

/-! ### Core reset through the balls (R504, R505) -/

/-- Core reset is released: the half enters BOOTING, with BOOTSEL latched; from LULL_ONLY the sequencer does it. -/
def releaseReset (now : Nat) (bootsel : Bool) (h : Half) : Half :=
  if h.glb.dev = .lullOnly then h else
  let h := h.holdReset now
  { h with tm := { h.tm with bootSel := bootsel, tempAt := now } }

/-- RESET_x_N has been low for 1 µs: the balls are released and core reset is held. -/
def resetF (cx : Cx) (h : Half) : Half :=
  let h := h.modPk fun p => { p with low := true }
  if h.glb.dev = .lullOnly then h else h.holdReset cx.now

/-- 20 µs after RESET_x_N has returned high. -/
def resetReleaseF (bootsel : Bool) (cx : Cx) (h : Half) : Half :=
  gate h.pk.low (fun h =>
    let h := h.modPk fun p => { p with low := false }
    if h.glb.dev = .lullOnly then h
    else let h := h.endReset cx.now; { h with tm := { h.tm with bootSel := bootsel, tempAt := cx.now } }) h

/-- PCIE_x_PERST_N: the link goes down and the configuration space, which is not modelled, returns to its reset values; no
register of BAR0, BAR2 or BAR4 is reset (R505, R530). (DEDUCED, log entry 61.) -/
def pciePerstF (cx : Cx) (h : Half) : Half := linkDownF false cx h

/-! ### The TAP (R506 to R508) -/

/-- The half's TAP is in the chain (R506). -/
def tapOk (h : Half) : Bool := railGood h .lull && railGood h .io

/-- EXTEST, CLAMP and HIGHZ take the balls from the half. -/
def takesBalls (ir : BitVec 8) : Bool := ir == 0x00 || ir == 0x04 || ir == 0x05

/-- An instruction is loaded; leaving EXTEST, CLAMP or HIGHZ resets the half (R508). -/
def loadIr (code : BitVec 8) (cx : Cx) (h : Half) : Half :=
  let was := h.pk.ir
  let h := h.modPk fun p => { p with ir := code }
  if takesBalls was && was != code then releaseReset cx.now h.tm.bootSel (h.modPk fun p => { p with halt := false }) else h

/-- The half halts: it gives up the shared balls as on a loss of ownership (R252). Its role stays what R31's table makes it:
the other half takes the active role when the heartbeats stop. (DEDUCED, log entry 48.) -/
def haltHalf (h : Half) : Half :=
  (h.modPk fun p => { p with halt := true }).modGlb fun g => { g with own := false }

def haltF (cx : Cx) (h : Half) : Half := gate (tapOk h) (fun h => haltHalf (loadIr 0x20 cx h)) h
def extestF (cx : Cx) (h : Half) : Half := gate (tapOk h) (fun h => haltHalf (loadIr 0x00 cx h)) h
def clampF (cx : Cx) (h : Half) : Half := gate (tapOk h) (fun h => haltHalf (loadIr 0x04 cx h)) h
def highzF (cx : Cx) (h : Half) : Half := gate (tapOk h) (fun h => haltHalf (loadIr 0x05 cx h)) h

/-- RESUME ends a halt begun by HALT; the half then resets. -/
def resumeF (bootsel : Bool) (cx : Cx) (h : Half) : Half :=
  gate (tapOk h) (fun h =>
    let h := loadIr 0x21 cx h
    if h.pk.halt then releaseReset cx.now bootsel (h.modPk fun p => { p with halt := false }) else h) h

/-- SAMPLE/PRELOAD captures the balls. -/
def samplePreloadF (balls : List Bool) (cx : Cx) (h : Half) : Half :=
  gate (tapOk h) (fun h => (loadIr 0x01 cx h).modPk fun p => { p with bsr := balls }) h

/-- The identification register of a half (R507). -/
def idWord (me : HalfId) : Word :=
  BitVec.ofNat 32 (0x20000001 + (0x614A + me.bit) * 2 ^ 12 + Config.jedec.toNat * 2)

def idcodeF (cx : Cx) (h : Half) : Half :=
  gate (tapOk h) (fun h => (loadIr 0x02 cx h).send (.jtag cx.now (idWord cx.me))) h

def bypassF (cx : Cx) (h : Half) : Half := gate (tapOk h) (loadIr 0xFF cx) h

/-- Under EXTEST or CLAMP the half drives a shared ball from its boundary register (R508). -/
def scanDrives (now : Nat) (other h : Half) : Bool :=
  (h.pk.ir == 0x00 || h.pk.ir == 0x04) && !roleOn now other.th &&
    decide (other.th.roleLow + tNs (10 * h.bn BK.RED_GAP_NS) ≤ now)

/-! ### GPIO (R509) -/

/-- The level that the half drives on GPIO_xi; none: the ball is an input. -/
def gpioDrive (h : Half) (i : Nat) : Option Bool :=
  if h.glb.dev = .lullOnly ∨ h.glb.dev = .safe ∨ h.pk.low then none
  else if wbit (h.reg 0x100) i then some (wbit (h.reg 0x104) i) else none

end Sys2Proof.Machine
end

