-- ==== Sys2Proof/Machine/Boot.lean ====
section
/-! DEFINITION. Secure boot, live update and node firmware (16_thermal_security_update.md, R484 to R493; R29, R443). -/
namespace Sys2Proof.Machine

/-! ### Images (R484, R486) -/

/-- ASCII "TVKI" in bytes 0 to 3. -/
def imageMagic : Nat := 0x494B5654

def imgMagic (i : Image) : Nat := headLe i.head 0 4
def imgType (i : Image) : Nat := headLe i.head 4 1
def imgKey (i : Image) : Nat := headLe i.head 5 1
def imgSvn (i : Image) : Nat := headLe i.head 6 1
def imgVersion (i : Image) : Word := BitVec.ofNat 32 (headLe i.head 8 4)
def imgLength (i : Image) : Nat := headLe i.head 12 4
def imgPubkey (i : Image) : BitVec 768 := BitVec.ofNat 768 (headBe i.head 80 96)
def imgSig (i : Image) : BitVec 768 := BitVec.ofNat 768 (headBe i.head 176 96)
def imgDigest (i : Image) : BitVec 384 := BitVec.ofNat 384 (headLe i.head 32 48)
/-- The bytes that the header table gives as 0. -/
def imgReservedZero (i : Image) : Bool :=
  ((headBytes i.head 7 1) ++ (headBytes i.head 20 12) ++ (headBytes i.head 272 240)).all (· == 0)
/-- The payload: LENGTH bytes after the header. -/
def imgPayload (i : Image) : List Byte := i.payload.take (imgLength i)

def ckeySet (me : HalfId) (h : Half) : Bool := h.tm.ckey.isSome || Config.otpCkeySet me

/-- The OTP hash of KEY for an image type. -/
def keyHash (me : HalfId) (h : Half) (ty : Nat) : BitVec 384 :=
  if ty = 0 then Config.makerKeyHash else h.tm.ckey.getD (Config.otpCkeyHash me)

/-- The rollback counter of an image type. -/
def otpSvn (me : HalfId) (h : Half) (ty : Nat) : Nat :=
  if ty = 0 then h.tm.otpFw.getD (Config.otpFwSvn me)
  else if ty = 1 then h.tm.otpCfg.getD (Config.otpCfgSvn me) else 0

/-- The first n words of a run of bytes; bytes that are missing read 0 (DESIGN CHOICE, log entry 49). -/
def imageWords : Nat → List Byte → List Word
  | 0, _ => []
  | n + 1, l => BitVec.ofNat 32 (ofLe (l.take 4)) :: imageWords n (l.drop 4)

/-- The bank image of a configuration payload. -/
def imageBank (payload : List Byte) : Bank :=
  (imageWords 32768 payload).zipIdx.foldl (fun b x => Bank.write b (4 * x.2) x.1) []

/-- The register presets: BAR0 offset and value, at most 1,024. -/
def imagePresets (payload : List Byte) : List (Nat × Word) :=
  let ps := payload.drop 0x20000
  (List.range (min 1024 (ps.length / 8))).map fun i =>
    (ofLe ((ps.drop (8 * i)).take 4), BitVec.ofNat 32 (ofLe ((ps.drop (8 * i + 4)).take 4)))

/-- An image verifies as TYPE `ty` in half `me`. -/
def verifies (me : HalfId) (h : Half) (ty : Nat) (i : Image) : Bool :=
  decide (i.head.length = 512 ∧ imgLength i ≤ i.payload.length) &&
  imgMagic i == imageMagic && imgType i == ty && imgKey i == (if ty = 0 then 0 else 1) && imgReservedZero i &&
  Config.sha384 (headBytes i.head 80 96) == keyHash me h ty &&
  Config.ecdsaValid (imgPubkey i) (imgSig i) (Config.sha384 (i.head.take 176)) &&
  imgDigest i == Config.sha384 (imgPayload i) && decide (imgLength i + 512 ≤ slotBytes ty) &&
  decide (otpSvn me h ty ≤ imgSvn i) && (ty != 1 || bankOk (imageBank (imgPayload i)))

def fwImage (f : Flash) (s : Bool) : Image := if s then f.fw1 else f.fw0
def cfgImage (f : Flash) (s : Bool) : Image := if s then f.cfg1 else f.cfg0

/-! ### Boot (R485 to R487) -/

/-- The slots in the order of trial. -/
def bootOrder (h : Half) (active : Bool) : List Bool :=
  let s := active != h.tm.bootSel
  [s, !s]

/-- No image verifies: the half powers its domains down; PWR_LAST names no cause for it (DEDUCED, log entry 50). -/
def bootFail (cx : Cx) (h : Half) : Half :=
  let p := h.pw
  (startWhole cx.now 0 h).modPw fun q => { q with cause := p.cause, causeDom := p.causeDom }

/-- One preset; a register that is not RW is skipped. -/
def preset (cx : Cx) (h : Half) (x : Nat × Word) : Half :=
  match regRow x.1 with
  | some r => if r.rw = 0 then h.modTm fun t => { t with presetSkip := true } else writeReg x.1 x.2 cx h
  | none => h.modTm fun t => { t with presetSkip := true }

/-- What waits for the next entry to CONFIGURED is reported (R443, R485, R490). -/
def bootReports (cx : Cx) (h : Half) : Half :=
  let h := h.tm.report.foldl (fun h v => raise cx 0xF0 0 (BitVec.ofNat 32 v) h) (h.modTm fun t => { t with report := [] })
  match h.pw.report with
  | none => h
  | some c =>
    let h := h.modPw fun p => { p with report := none }
    if c ≤ 7 then record cx 0xBE (h.sev 0xBE) 0 (BitVec.ofNat 32 c) h
    else if c ≤ 10 then record cx 0xBA (h.sev 0xBA) h.pw.causeDom (BitVec.ofNat 32 c) h
    else raise cx 0xBF h.pw.causeDom 0 h

/-- The configuration is loaded: the half enters CONFIGURED and its cycle schedule starts (R25, R29, R486). -/
def enterConfigured (cx : Cx) (img : Image) (h : Half) : Half :=
  let b := imageBank (imgPayload img)
  let h := h.modGlb fun g => { g with live := b, pend := b, commits := 0, dev := .configured }
  let h := (imagePresets (imgPayload img)).foldl (preset cx) h
  let e := (h.tb.now / (1000000000 * 2 ^ 32) + 1) * (1000000000 * 2 ^ 32)
  let h := (h.modTb fun t => { t with step := none, rephase := none }).modGlb fun g =>
    { g with nextT0 := e, started := false, cycle := 0 }
  let h := markersAnew cx.now (moveEpoch cx.now e h)
  let h := recompute cx (discT0 (lvBoot h))
  let h := (h.modGlb takeOffsets).modTh fun t => { t with confAt := cx.now, bankCrc := crc32c (bankBytes b) }
  bootReports cx (h.modTm fun t => { t with bootEnd := cx.now, waitKey := none })

/-- The configuration slots are tried. -/
def bootCfg (cx : Cx) (f : Flash) (h : Half) : Half :=
  let order := bootOrder h f.cfgActive
  match order.find? fun s => verifies cx.me h 1 (cfgImage f s) with
  | none => bootFail cx h
  | some s =>
    let i := cfgImage f s
    let fb := order.head? != some s
    let h := h.modTm fun t => { t with
      cfgSlot := s, cfgSvn := imgSvn i, cfgVer := imgVersion i, trialCfg := f.cfgTrial && s == f.cfgActive
      fallback := t.fallback || fb }
    enterConfigured cx i (h.modTm fun t => { t with report := if t.fallback then t.report ++ [0] else t.report })

/-- The firmware slots are tried; without a customer key hash the half waits for one (R487). -/
def bootWith (cx : Cx) (f : Flash) (h : Half) : Half :=
  let order := bootOrder h f.fwActive
  match order.find? fun s => verifies cx.me h 0 (fwImage f s) with
  | none => bootFail cx h
  | some s =>
    let i := fwImage f s
    let h := h.modTm fun t => { t with
      fwSlot := s, fwSvn := imgSvn i, fwVer := imgVersion i, trialFw := f.fwTrial && s == f.fwActive
      fallback := order.head? != some s
      markFw := f.fwActive, markCfg := f.cfgActive, trialMarkFw := f.fwTrial, trialMarkCfg := f.cfgTrial }
    if ckeySet cx.me h then bootCfg cx f h else h.modTm fun t => { t with waitKey := some f }

/-- Verification and loading end; the CORE PLL is locked. -/
def bootCompleteF (f : Flash) (cx : Cx) (h : Half) : Half :=
  gate (h.glb.dev == .booting && h.tm.waitKey.isNone && (pllOf h 0).locked && h.pw.whole.isNone) (bootWith cx f) h

/-- The hash that SEC_CKEY_HASHw hold: byte 4·w + i is byte i of word w, byte 0 the first. -/
def ckeyRegs (h : Half) : BitVec 384 :=
  BitVec.ofNat 384 (ofLe (((List.range 12).flatMap fun w => leWord (h.reg (RG.SEC_CKEY_HASH w))).reverse))

/-- A write to SEC_OTP_PROG (R487). -/
def secOtpProgF (v : Word) (cx : Cx) (h : Half) : Half :=
  match h.tm.waitKey with
  | none => h
  | some f => gate (h.glb.dev == .booting && wbits v 15 8 == 0xA5)
      (fun h => bootCfg cx f (h.modTm fun t => { t with ckey := some (ckeyRegs h), waitKey := none })) h

/-! ### Trial (R490) -/

/-- 60 s after BOOTING with a booted slot still on trial: the previous slots are marked active and the half resets. -/
def trialTimeoutF (cx : Cx) (h : Half) : Half :=
  gate ((h.tm.trialFw || h.tm.trialCfg) && h.glb.dev != .lullOnly && h.glb.dev != .booting && decide (h.tm.bootEnd + tSec 60 ≤ cx.now)) (fun h =>
    let t := h.tm
    let h := h.send (.slots cx.now (t.markFw != t.trialFw) (t.markCfg != t.trialCfg)
      (t.trialMarkFw && !t.trialFw) (t.trialMarkCfg && !t.trialCfg))
    releaseReset cx.now t.bootSel (h.modTm fun t => { t with report := t.report ++ [1] })) h

/-! ### CMD_UPDATE_STAGE and CMD_UPDATE_ACTIVATE at T0 (R489, R492, R493) -/

/-- The half is named and is STANDBY, as this half knows. -/
def namedIs (me : HalfId) (h : Half) (n : Nat) (r : Role) : Bool :=
  if halfOf n = me then h.glb.role == r else h.th.oRole == r

/-- A named context is bound to a node that takes firmware of this VENDOR and MODEL. -/
def fwFits (h : Half) (vm : BitVec 16 × BitVec 16) (c : Nat) : Bool :=
  let x := h.cell c
  let n := h.node x.ring x.pos
  x.bound && n.caps / 2 % 2 == 1 && n.caps / 256 == vm.1.toNat && n.model == vm.2.toNat

/-- VENDOR and MODEL that the ACTIVE half has read for a stage. -/
def stageHdr (cx : Cx) (h : Half) (x : Held) : BitVec 16 × BitVec 16 :=
  let l := if h.glb.role = .active then h.hi.updHdr else cx.other.hi.updHdr
  ((l.find? fun y => y.1 == x.ring && y.2.1 == dSeq x.d).map (·.2.2)).getD (0, 0)

/-- CMD_UPDATE_STAGE: status, and the half that reads the image. -/
def stageCmd (cx : Cx) (x : Held) (h : Half) : Nat × Half :=
  let d := x.d
  let img := dByte d 25
  let begin_ (h : Half) : Half := h.modTm fun t => { t with
    upd := 1, updImage := img, updBlocks := 0, updDesc := some d, updImg := none
    fwNodes := if img = 2 then dCtxs d else [], fwDone := [], fwFailed := [], fwNext := [] }
  if img ≤ 1 then
    if !namedIs cx.me h (dByte d 24) .standby then (5, h)
    else if halfOf (dByte d 24) = cx.me then
      (2, ((begin_ h).modGlb fun g => { g with role := .updating }).modTh fun t => { t with lastCycle := h.glb.cycle % 65536 })
    else (2, h)
  else if (dCtxs d).all (fwFits h (stageHdr cx h x)) then
    (2, if h.glb.role = .active then begin_ h else h)
  else (5, h)

/-- The image has been read and written: it verifies or fails. -/
def stageCompleteF (img : Image) (cx : Cx) (h : Half) : Half :=
  let n := h.tm.updImage
  gate (h.tm.upd == 1 && h.tm.updDesc.isSome && h.glb.dev.inService) (fun h =>
    let d := h.tm.updDesc.getD (Vector.replicate 16 0)
    let h := h.modTm fun t => { t with updBlocks := ceilDiv (dWord d 10).toNat 4096, updImg := some img }
    let h := h.send (.flash cx.now n (if n = 0 then !h.tm.markFw else !h.tm.markCfg) img)
    if !verifies cx.me h n img then raise cx 0xF1 0 (BitVec.ofNat 32 n) (h.modTm fun t => { t with upd := 5 })
    else if n ≤ 1 then raise cx 0xF2 0 0 (h.modTm fun t => { t with upd := 4 })
    else
      let cs := h.tm.fwNodes
      let h := h.modTm fun t => { t with upd := 2, fwNext := cs.map fun c => (c, 0) }
      fwDone cx (cs.foldl (fun h c => fwSend cx c h) h)) h

/-- The half named takes the staged slot as active, on trial, and resets. -/
def activateSelf (cx : Cx) (img : Nat) (h : Half) : Half :=
  let t := h.tm
  let h := if img = 0 then h.send (.slots cx.now (!t.markFw) t.markCfg true t.trialMarkCfg)
    else h.send (.slots cx.now t.markFw (!t.markCfg) t.trialMarkFw true)
  releaseReset cx.now t.bootSel (h.modTm fun t => { t with actCyc := some h.glb.cycle })

/-- CMD_UPDATE_ACTIVATE in a half that holds commands. -/
def activateCmd (cx : Cx) (x : Held) (h : Half) : Nat × Half :=
  let d := x.d
  let img := dByte d 25
  if img ≤ 1 then
    let ok := halfOf (dByte d 24) ≠ cx.me ∧ h.th.oRole = .updating ∧
      (cx.other.tm.upd = 4 ∧ cx.other.tm.updImage = img ∨ cx.other.tm.actCyc = some h.glb.cycle)
    (if ok then 2 else 5, h)
  else if (dCtxs d).any (fun c => (h.cell c).st == .charging || (h.cell c).st == .active) then (5, h)
  else
    let at_ := h.glb.cycle + ceilDiv 250000 (h.bn BK.CYCLE_TC_TICKS)
    let cs := (dCtxs d).filter fun c => h.tm.fwDone.contains c
    (2, if h.glb.role ≠ .active then h else cs.foldl (fun h c =>
      let y := h.cell c
      sendActive cx ⟨y.ring % 12, Nat.mod_lt _ (by decide)⟩ y.pos 0x21 [BitVec.ofNat 64 at_] h) h)

/-- At T0 an UPDATING half whose image is STAGED takes the ACTIVE half's CMD_UPDATE_ACTIVATE of the cycle; it holds no
commands of its own (R335; DEDUCED, log entry 51). -/
def activateT0 (cx : Cx) (h : Half) : Half :=
  if h.glb.role ≠ .updating ∨ h.tm.upd ≠ 4 then h else
  match cx.other.hi.held.find? fun x => x.cycle == h.glb.cycle && dOp x.d == 0x0D && dByte x.d 25 == h.tm.updImage &&
      halfOf (dByte x.d 24) == cx.me with
  | some x => activateSelf cx (dByte x.d 25) h
  | none => h

end Sys2Proof.Machine
end

