-- ==== Sys2Proof/Machine/Bus.lean ====
section
/-! DEFINITION. Whole bus writes of 4 bytes to BAR0 (00_scope.md, R3 to R5; 19_address_map.md, R525 to R528). -/
namespace Sys2Proof.Machine

/-- A 4-byte write of v at a BAR0 offset, or at 0x200000 and an offset of BAR4, with what becomes of one that no register takes (DESIGN CHOICE, log entry 52). -/
def busWrite (off : Nat) (v : Word) (cx : Cx) (h : Half) : Half :=
  let x : Access := ⟨0, off, true, 0xF#4, 1⟩
  if 0x200000 ≤ off then gate (coreUp h && decide (off % 4 = 0) && inBar4 (off - 0x200000)) (bar4Write cx.now off v) h else
  gate (coreUp h && decide (off < 0x100000)) (fun h =>
    if off % 4 ≠ 0 then flagAccess 0 x cx h
    else if (regRow off).isNone then flagAccess 1 x cx h
    else if gated h (accDomain off) then offAccess x cx h
    else if off = RG.SEC_OTP_PROG then secOtpProgF v cx h
    else writeReg off v cx h) h

def w1cClearF (offset : Nat) (v : Word) (cx : Cx) (h : Half) : Half := busWrite offset v cx h
def counterClearF (offset : Nat) (v : Word) (cx : Cx) (h : Half) : Half := busWrite offset v cx h
def registerWriteF (offset : Nat) (v : Word) (cx : Cx) (h : Half) : Half := busWrite offset v cx h

end Sys2Proof.Machine
end

