-- ==== Sys2Proof/Machine/ExecAccess.lean ====
section
/-! DEFINITION. The meanings of the Access commands: one definition per row of the table, each over the shared
operation that its rule describes. -/
namespace Sys2Proof.Machine

/-- A misaligned or multi-doubleword access is ignored and flagged. (R526, 19_address_map.md) -/
def execMisaligned (e : Evt) (x : Access) (σ : State) : Host.Outcome State Fault Refusal :=
  runOn σ e (misalignedF x)

/-- An access to an unmapped offset is ignored and flagged. (R526, 19_address_map.md) -/
def execUnmapped (e : Evt) (x : Access) (σ : State) : Host.Outcome State Fault Refusal :=
  runOn σ e (unmappedF x)

/-- An access to an off or gated domain receives an error response and is flagged. (R527, 19_address_map.md) -/
def execDomainOff (e : Evt) (x : Access) (σ : State) : Host.Outcome State Fault Refusal :=
  runOn σ e (domainOffF x)

/-- A write of 1 clears W1C bits such as GLB_ACC_ERR and the CFG_ERR flags. (R5, 00_scope.md) -/
def execW1cClear (e : Evt) (offset : Nat) (v : Word) (σ : State) : Host.Outcome State Fault Refusal :=
  runOn σ e (w1cClearF offset v)

/-- A write to a counter-clear register clears the counters named. (R3, 00_scope.md) -/
def execCounterClear (e : Evt) (offset : Nat) (v : Word) (σ : State) : Host.Outcome State Fault Refusal :=
  runOn σ e (counterClearF offset v)

/-- A write to a register with no row of its own stores or ignores the value. (R3, 00_scope.md) -/
def execRegisterWrite (e : Evt) (offset : Nat) (v : Word) (σ : State) : Host.Outcome State Fault Refusal :=
  runOn σ e (registerWriteF offset v)

end Sys2Proof.Machine
end

