-- ==== Sys2Proof/Machine/ExecAnalog.lean ====
section
/-! DEFINITION. The meanings of the Analog commands: one definition per row of the table, each over the shared
operation that its rule describes. -/
namespace Sys2Proof.Machine

/-- A channel's mismatch count reaches PCNT and the channel enters dispute. (R127, 04_analog_sampling.md) -/
def execDisputeOpen (e : Evt) (n : ChNo) (σ : State) : Host.Outcome State Fault Refusal :=
  runOn σ e (disputeOpenF n)

/-- At T0 + 60 ns the half's words of the cycle are ready and sent over the Tether. (R118, 04_analog_sampling.md) -/
def execAnWordsSend (e : Evt) (bits : List (List Bool)) (ovl : BitVec 24) (σ : State) : Host.Outcome State Fault Refusal :=
  runOn σ e (anWordsSendF bits ovl)

/-- An intermediate filter word is formed for the recorder and sampled values. (R119, 04_analog_sampling.md) -/
def execAnWord (e : Evt) (n : ChNo) (bits : List Bool) (ovl : Bool) (σ : State) : Host.Outcome State Fault Refusal :=
  runOn σ e (anWordF n bits ovl)

/-- A write of 1 triggers an internal-channel sequence or holds it pending. (R132, 04_analog_sampling.md) -/
def execAnSeqTrig (e : Evt) (v : Word) (σ : State) : Host.Outcome State Fault Refusal :=
  runOn σ e (anSeqTrigF v)

/-- The periodic timer triggers an internal-channel sequence. (R132, 04_analog_sampling.md) -/
def execAnSeqPeriod (e : Evt) (σ : State) : Host.Outcome State Fault Refusal :=
  runOn σ e (anSeqPeriodF)

/-- An internal-channel conversion completes and is checked; a pending sequence may start. (R135, 04_analog_sampling.md) -/
def execAnConversion (e : Evt) (result : Int) (σ : State) : Host.Outcome State Fault Refusal :=
  runOn σ e (anConversionF result)

/-- The other half's analog words are received. (R125, 04_analog_sampling.md) -/
def execAnWords (e : Evt) (words : List (BitVec 24 × BitVec 7)) (σ : State) : Host.Outcome State Fault Refusal :=
  runTether σ e (anWordsF words)

/-- The housekeeping processor requests an internal-channel sequence, starting it or holding it pending with PEND_SRC 3. (R132, 04_analog_sampling.md) -/
def execHousekeepingSequenceRequest (e : Evt) (σ : State) : Host.Outcome State Fault Refusal :=
  runOn σ e (housekeepingSequenceRequestF)

end Sys2Proof.Machine
end

