-- ==== Sys2Proof/Machine/Relay.lean ====
section
/-! DEFINITION. What a RELAY message does in the half that receives it (09_redundancy.md, R286, R287; R57, R88, R103,
R145, R265, R268, R270, R272, R273, R278, R282, R471), and the compound instants SEAL, DISPATCH and of a fence. -/
namespace Sys2Proof.Machine

/-! ### Fences, trips and clears of the other half -/

/-- When the other half asked for this fence: the message says so (R267, R268). -/
def relayFenceAt (cx : Cx) (u : FUnit) : Nat :=
  (((cx.other.sd.fences.filter fun f => f.unit == u).getLast?).map (·.time)).getD cx.now

/-- A fence of the other half is held from the same T0 or SEAL as there; its raise counts for a clear here too (R282). -/
def relayFence (cx : Cx) (u : FUnit) (h : Half) : Half :=
  let h := noteRaise cx.me cx.now u true h
  if isFenced cx.me h u then h else h.modSd fun s => { s with fences := s.fences ++ [⟨u, relayFenceAt cx u⟩] }

/-- A stage trip of the other half (R272, R531); a half that has decided for the same trip does not decide again (R273). -/
def relayTrip (cx : Cx) (mv lv gust : Bool) (src cycle : Nat) (h : Half) : Half :=
  let m := b2n mv + 2 * b2n lv
  let at_ := (((cx.other.sd.trips.filter fun t => t.gust == gust && t.stages == m).getLast?).map (·.time)).getD cx.now
  let h := h.modSd fun s => { s with trips := s.trips ++ [⟨m, at_, gust⟩] }
  if mv then decideTrip cx src cycle false h else h

def bitsOf {w : Nat} (m : BitVec w) : List Nat := (List.range w).filter fun i => m.getLsbD i

/-- A clear of the other half: pairs, and its own converters; a raise here since the write has spoiled it (R282). -/
def relayClear (cx : Cx) (pairs : BitVec 13) (convs : BitVec 24) (h : Half) : Half :=
  let at_ (unit i : Nat) : Nat :=
    (((cx.other.sd.clear.filter fun q => q.unit == unit && q.index == i).getLast?).map (·.time)).getD cx.now
  let bad (unit i t : Nat) : Bool := h.sd.fencedAt.any fun r => r.1 == clearCode cx.me unit i && decide (t ≤ r.2)
  let ps : List ClearReq := (bitsOf pairs).map fun i => let t := at_ 3 i; ⟨11, i, t, bad 11 i t, false⟩
  let cs : List ClearReq := (bitsOf convs).map fun i => let t := at_ 2 i; ⟨10, i, t, bad 10 i t, false⟩
  h.modSd fun s => { s with clear := s.clear ++ ps ++ cs }

/-! ### The other messages -/

/-- When a record that the other half passes on was raised. -/
def raisedWhen (cx : Cx) (r : EvRec) : Nat := ((cx.other.sd.passed.find? fun q => q.2 == r).map (·.1)).getD cx.now

/-- A record of the other half is queued by the ACTIVE half; a shared one that it has recorded already is not (R265). -/
def relayRecord (cx : Cx) (r : EvRec) (h : Half) : Half :=
  if h.glb.role ≠ .active ∨ (r.shared && h.sd.sharedRecs.contains (recKey r)) then h else pushRec (raisedWhen cx r) r h

/-- Delays that the ACTIVE half has taken, and the cycle from which both use them (R57). -/
def relayHops (cx : Cx) (k n src : Nat) (spans cuts : List Nat) (h : Half) : Half :=
  adoptDelays cx k (h.modRing k fun r => { r with newDelays := some (n, src, spans, cuts) })

/-- The ACTIVE half has locked out of FREE: its step is added in both halves at T0 of K (R377). -/
def relayStep (k : Nat) (d : Int) (h : Half) : Half :=
  if h.glb.role = .active ∨ h.tb.step.isSome then h
  else (allTimeSets h).modTb fun t => { t with st := if t.st = 0 then 1 else t.st, step := some (k, d), slewLeft := 0, slew := 0 }

def relayF (m : RelayMsg) (cx : Cx) (h : Half) : Half :=
  gate (h.glb.dev != .lullOnly) (fun h =>
    match m with
    | .wrap k pos sideB => if h.glb.dev.inService then noteWrap k pos sideB h else h
    | .svc k f => relayedFrame cx k f h
    | .record r => relayRecord cx r h
    | .fence u => relayFence cx u h
    | .trip mv lv gust src cyc => relayTrip cx mv lv gust src.toNat cyc.toNat h
    | .hold cl tr st => setHolds cx.now cl tr st h
    | .holdRelease cl => h.modSd fun s => { s with holdRelease := s.holdRelease ||| (cl &&& s.hold) }
    | .hops k n src sp cu => relayHops cx k n.toNat src.val sp cu h
    | .loop k t => checkAsym cx k (h.modRing k fun r => { r with otherLoop := some t })
    | .clear p c => relayClear cx p c h
    | .degClear mv lv => h.modSd fun s => { s with degClear := s.degClear ++ [(0, b2n mv + 2 * b2n lv)] }
    | .timeStep k d => relayStep k d h
    | .degrade mv lv =>
      let m := BitVec.ofNat 2 (b2n mv + 2 * b2n lv)
      h.modSd fun s => { s with deg := s.deg ||| m, clockBase := s.clockBase ||| m }
    | .degBack mv lv =>
      let m := BitVec.ofNat 2 (b2n mv + 2 * b2n lv)
      h.modSd fun s => { s with deg := s.deg &&& ~~~m, clockBase := s.clockBase &&& ~~~m }
    | .trigger c =>
      if h.glb.role = .active then
        { h with me := { h.me with trigs := h.me.trigs ++ [(c, cx.me.other.bit, h.glb.cycle)] } }
      else h
    | .recOpen n c => recOpenF cx n c.toNat h
    | .dispute cyc n lost => relayDispute cx cyc.toNat n.val lost h) h

/-! ### SEAL, DISPATCH and the instant of a fence -/

/-- SEAL; a half that is not ACTIVE takes the LV stage state of the header (R149). -/
def sealAllF (cx : Cx) (h : Half) : Half :=
  gate (sealDue cx.now h) (fun h =>
    let h := sealF cx h
    let h := resendSlow cx h
    match h.lv.hdrLv with
    | some s => if h.glb.role ≠ .active ∧ s ≠ h.glb.lv then lvEnter cx.now s h else h
    | none => h) h

/-- The DISPATCH instant of a cycle in which a commit began a new epoch, so that the cycle is not sealed: its final records fall
due all the same (R340, R341). (DEDUCED, log entry 130.) -/
def outcomesDue (now : Nat) (h : Half) : Bool :=
  h.glb.dev.inService && !h.glb.started && decide (h.glb.t0 + tNs (h.glb.ts + 160 + wrapNs h.glb) ≤ now)

/-- DISPATCH (R179, R185, R196, R297, R302, R340). -/
def dispatchF (residue : Nat) (cx : Cx) (h : Half) : Half :=
  if dispatchDue cx.now h then
    let h := passBegin cx (dueOutcomes cx (oxDispatch cx (noteResidue residue h)))
    let h := judgeHolds cx (sendFast cx (compareDigests cx h))
    raises residue cx 0x80 (argHalf cx.me) 0 h
  else gate (outcomesDue cx.now h) (dueOutcomes cx) h

/-- The pass ends, and the Loop Table's part of an install leaves (R197, R297). -/
def passCompleteF (residue : Nat) (cx : Cx) (h : Half) : Half :=
  gate h.glb.dev.inService (fun h =>
    let was := h.lt.pass.isSome
    let h := passComplete cx h
    sendLt cx (if was && h.lt.pass.isNone then noteLoopResidue residue h else h)) h

/-- What this half sends of its slow state goes again as soon as it has changed (R298). -/
def withSlow (f : Cx → Half → Half) (cx : Cx) (h : Half) : Half := resendSlow cx (f cx h)

/-- A fence request takes effect at its unit (R267): at a port or a CAN controller; those of the other units act at a train
window, a SEAL or a T0. (DEDUCED, log entry 65.) -/
def fenceEffectF (u : FUnit) (cx : Cx) (h : Half) : Half :=
  gate (h.glb.dev != .lullOnly && isNetUnit u) (fun h =>
    netFence cx u (matureFences cx.me cx.now (· == u) (drainAll cx h))) h

end Sys2Proof.Machine
end

