-- ==== Sys2Proof/Machine/T0.lean ====
section
/-! DEFINITION. T0: the start of a control cycle, and every action that is taken at it (01_architecture.md, R25 to R27,
R33 to R39; R178, R200, R229, R233, R272, R278, R282, R297, R306, R339, R340, R376, R377, R400, R466). -/
namespace Sys2Proof.Machine

/-! ### Commands of the cycle (R339; opcode table of 10_host_interface.md) -/

def stCode (h : Half) (c : Nat) : Word := BitVec.ofNat 32 (h.cell c).st.code

/-- CMD_CELL_BYPASS (R174). (DEDUCED, log entry 98.) -/
def cellBypass (d : Desc) (h : Half) : Nat × Word × Half :=
  let c := dByte d 24
  let s := (h.cell c).st
  if s = .blocked ∨ s = .charging ∨ s = .active then
    let h := (leaveRank c h).modCell c fun x => { x with st := .bypassed, aft := false, queued := false, byCmd := true }
    (2, stCode h c, h)
  else if s = .bypassed then
    (2, stCode h c, h.modCell c fun x => { x with byCmd := true, queued := false })
  else (5, stCode h c, h)

/-- A FLAGS bit with a source of fixed minimum FENCE was set in the last snapshot (R281). -/
def flagsFence (x : Cell) : Bool := flagSources.any fun q => x.rcd.flags / 2 ^ q.1 % 2 == 1 && decide (2 ≤ sevMin q.2)

/-- CMD_CELL_RESTORE (R281). -/
def cellRestore (d : Desc) (h : Half) : Nat × Word × Half :=
  let c := dByte d 24
  let x := h.cell c
  if flagsFence x ∨ (!x.fenced ∧ !x.byCmd) then (5, stCode h c, h)
  else
    let h := (h.modCell c fun x => { x with fenced := false, byCmd := false }).modSd fun s => { s with
      fences := s.fences.filter fun f => f.unit != .ctx c }
    (2, stCode h c, h)

/-- CMD_RING_CONTROL (R59, R105). -/
def ringControl (cx : Cx) (d : Desc) (h : Half) : Nat × Word × Half :=
  let k : RingNo := ⟨dByte d 24 % 12, Nat.mod_lt _ (by decide)⟩
  if dByte d 25 = 0 then
    let ws := wrappers (h.ring k)
    if ws.all fun p => (h.node k p).sideUpSince.isSome then
      let n := (ws.filter fun p => !waiting h k p 0x06).length
      (2, BitVec.ofNat 32 n, if h.glb.role = .active then sendUnwrap cx k h else h)
    else (5, 0, h)
  else
    let h := h.modRing k fun r => { r with reps := Vector.replicate 16 ⟨[], none, 0⟩ }
    (2, 0, (List.range 16).foldl (fun h i => h.put (RG.HL_POS k i) 0) h)

/-- CMD_PWM_FORCE (R229). -/
def pwmForce (d : Desc) (h : Half) : Nat × Word × Half :=
  if h.glb.lv = .stopped ∨ h.glb.lv = .test ∨ h.glb.lv = .recovery then
    (2, 0, h.modLv fun v => { v with forceCmds := v.forceCmds ++ [(dHalf d 24, dByte d 26, (dWord d 7).toNat)] })
  else (5, 0, h)

/-- CMD_SV_CONTROL (R400). -/
def svCommand (d : Desc) (h : Half) : Nat × Word × Half :=
  let m := dByte d 24
  if (List.range 8).any fun i => m / 2 ^ i % 2 == 1 && !h.bf (BK.SV_EN i) then (5, BitVec.ofNat 32 (svSets h).1.toNat, h)
  else
    let h := svControl h.ns (BitVec.ofNat 8 m) (dByte d 25) h
    (2, BitVec.ofNat 32 (svSets h).1.toNat, h)

/-- The offset that MODE 0 steps by: that of the half which is ACTIVE (DEDUCED, log entry 53). -/
def measured (cx : Cx) (h : Half) : Int :=
  let t := if h.glb.role = .active then h.tb else cx.other.tb
  if t.st = 3 then t.rem else t.theta

/-- CMD_TIME_STEP_AUTHORISE (R376). -/
def timeStep (cx : Cx) (d : Desc) (h : Half) : Nat × Word × Half :=
  let mode := dByte d 24
  let delta : Int := if mode = 0 then divEven (measured cx h) 65536 else sgn 64 (dLong d 32)
  if h.tb.step.isSome ∨ (mode = 0 ∧ h.tb.st ≠ 1 ∧ h.tb.st ≠ 3) then (5, 0, h)
  else if (dWord d 10).toNat < delta.natAbs ∨ 2 ^ 31 - 1 < delta.natAbs then (4, 0, h)
  else (2, BitVec.ofInt 32 delta, scheduleStep h.glb.cycle delta h)

/-- CMD_ROLE at T0 (R32, R306); the change itself follows in `plannedT0`. -/
def roleCommand (cx : Cx) (d : Desc) (h : Half) : Nat × Word × Half :=
  let who := halfOf (dByte d 24)
  let isActive := decide (who = cx.me) == (h.glb.role == .active)
  let off (h : Half) : Half := h.modTh fun t => { t with planned := t.planned.filter fun p => p != (h.glb.cycle, who, 1) }
  if isActive then (2, 1, off h)
  else if !(if h.glb.role = .active then h.th.oRole == .standby else h.glb.role == .standby) then (5, 0, off h)
  else if h.th.run < 1024 then (7, 0, off h)
  else (2, 0, h)

/-- One command of the cycle: status, RESULT and the half after it. -/
def runCommand (cx : Cx) (x : Held) (h : Half) : Nat × Word × Half :=
  let d := x.d
  match dOp d with
  | 0x00 => (2, 0, h)
  | 0x01 => (2, 0, setRefs (dByte d 24) ((List.range (dByte d 25)).map fun i => dWord d (8 + i)) h)
  | 0x02 =>
    let at_ := (dWord d 6).toNat
    let n := dByte d 28
    let b := (List.range n).foldl (fun b i => Bank.write b (at_ + 4 * i) (dWord d (8 + i))) h.glb.pend
    let names (o : Nat) : Bool := (List.range n).any fun i => at_ + 4 * i == o
    (2, 0, h.modGlb fun g => { g with
      pend := b, reqMv := g.reqMv || names BK.STAGE_MV_REQ, reqLv := g.reqLv || names BK.STAGE_LV_REQ })
  | 0x03 => commitCmd cx d h
  | 0x04 => cellBypass d h
  | 0x05 => cellRestore d h
  | 0x06 => ringControl cx d h
  | 0x07 => pwmForce d h
  | 0x08 => recorderCmd cx d h
  | 0x09 => svCommand d h
  | 0x0A => timeStep cx d h
  | 0x0B => roleCommand cx d h
  | 0x0C => let (s, h) := stageCmd cx x h; (s, 0, h)
  | 0x0D => let (s, h) := activateCmd cx x h; (s, 0, h)
  | _ => (5, 0, h)

/-- The commands of the cycle in admission order, each with its final record (R339, R340). -/
def commandsT0 (cx : Cx) (h : Half) : Half :=
  if !(h.glb.role == .active || h.glb.role == .standby || h.glb.role == .syncing) then h else
  (heldNow h).foldl (fun h x =>
    let (s, r, h) := runCommand cx x h
    outcome x s r h) h

/-! ### The boundary itself -/

/-- The cycle count advances, and what belongs to the past cycle ends (R25). -/
def nextCycle (now : Nat) (h : Half) : Half :=
  let n := if h.glb.started then h.glb.cycle + 1 else 0
  let h := h.modGlb fun g => { g with
    cycle := n, started := true, t0 := now, nextT0 := g.nextT0 + h.tc
    sealedAt := none, dispAt := none, applied := false, trained := false }
  let fresh (r : Ring) : Ring := { r with slots := [], oslots := [], sentRecs := 0, mapSent := false, omap := none, trains := 0 }
  let h := { h with rings := h.rings.map fresh }
  let h := h.modHi fun i => { i with held := i.held.filter (fun x => decide (n ≤ x.cycle)), outcomes := [] }
  let h := h.modTh fun t => { t with
    hdrSent := false, oSnapDigest := none, compared := false, ownDigest := none, oDigest := none, oLeft := t.oLeaving }
  let h := h.modOx fun o => { o with residue := false }
  h.modLv fun v => { v with forceCmds := [] }

/-- A scheduled step of the timebase (R376, R377, R402). -/
def timeStepT0 (cx : Cx) (h : Half) : Half :=
  match h.tb.step with
  | some (k, d) =>
    if k ≠ h.glb.cycle then h else
    let old := h.ns
    let x := stepX h d
    svStep cx old d x (stepT0 h)
  | none => h

/-- A stage that has come to its end at this T0 enters its next state (R176, R178, R233, R234). (DEDUCED, log entry 97.) -/
def stagesT0 (now : Nat) (h : Half) : Half :=
  let h := if h.lv.stopping && pairsStopped h then lvEnter now .stopped h else h
  let h := if h.lv.preDone && h.glb.lv == .precharge then lvEnter now .run h else h
  let h := if h.ox.prePhase == 3 && h.glb.mv == .precharge then mvEnter now .run h else h
  if rampDone h then mvEnter now .stopped h else h

/-- Delays that wait for the boundary come into use (R57). -/
def delaysT0 (cx : Cx) (h : Half) : Half := (List.range 12).foldl (fun h k => adoptDelays cx k h) h

/-- The TH register at word n of its block, without the line states. -/
def thWord (now : Nat) (h : Half) (n : Nat) : Word :=
  let t := h.th
  let hb := ownHeartbeat now h
  match n with
  | 0 => BitVec.ofNat 32 (t.oRoleHb % 8 + 2 ^ 4 * b2n t.hbOk + 2 ^ 8 * t.lanesTx.toNat + 2 ^ 10 * t.lanesRx.toNat +
      2 ^ 16 * b2n t.oLeaving + 2 ^ 17 * b2n h.ox.single + 2 ^ 18 * b2n (revertReady now h) + 2 ^ 19 * b2n (isBarred now h) +
      2 ^ 20 * b2n t.check.isSome)
  | 3 => BitVec.ofNat 32 (t.run % 2 ^ 16 + 2 ^ 16 * (t.winMm % 16) + 2 ^ 24 * (t.oStatus % 4) + 2 ^ 28 * (t.outcome % 4))
  | 4 => BitVec.ofNat 32 (t.ownVerdict.getD 0 % 8 + 2 ^ 4 * (t.oVerdict.getD 0 % 8) +
      2 ^ 31 * b2n (t.ownVerdict.isSome && t.oVerdict.isSome))
  | 5 => BitVec.ofNat 32 (t.lastCause % 16 + 2 ^ 16 * (t.lastCycle % 2 ^ 16))
  | 6 => BitVec.ofNat 32 (hb.fences % 16 + 2 ^ 16 * (hb.clean % 2 ^ 16))
  | 7 =>
    match t.lastRevert with
    | some r => BitVec.ofNat 32 (min 0xFFFFFFFE ((now - r) / tSec 1))
    | none => 0xFFFFFFFF
  | n => h.reg (0x58000 + 4 * n)

/-- The TH registers show the half as it is at this T0 (R318). -/
def showTh (now : Nat) (h : Half) : Half :=
  h.modTh fun t => { t with shown := Vector.ofFn fun i => thWord now h i.val }

/-- The next T0 has come by the timebase. The schedule goes on in SAFE once it has begun, so that a trip that waits takes
effect there too: the spec does not say that it stops (DEDUCED, log entry 108). -/
def t0Due (h : Half) : Bool := (h.glb.dev.inService || cyclesRun h) && reached h.tb.now h.glb.nextT0

/-- The window of R287 begins: it ends at the SEAL instant. -/
def windowT0 (now : Nat) (h : Half) : Half := h.send (.window now (h.glb.t0 + tNs (h.glb.ts + wrapNs h.glb)))

/-- T0 of a half in SAFE: the count, Sheepdog's part and what the registers show. -/
def t0Safe (cx : Cx) (h : Half) : Half :=
  windowT0 cx.now (showTh cx.now (showSd (carrierT0 (stagesT0 cx.now (sheepdogT0 cx (nextCycle cx.now h))))))

def t0F (cx : Cx) (h : Half) : Half :=
  gate (t0Due h) (fun h =>
    if !h.glb.dev.inService then t0Safe cx h else
    -- the past cycle: its Loop Table pass, its recorder frame
    let (h, ovr) := passAtT0 cx h
    -- the Loop Table's part of an install leaves, or the install moves on (R297)
    let h := if !ovr then sendLt cx h
      else if h.glb.role = .active ∧ h.xf.oxOut.map (·.1) = some (h.glb.cycle + 1) ∧ h.xf.ltOut.isNone then wantFast (h.glb.cycle + 2) h
      else h
    let h := if h.glb.started then recorderT0 cx h else dueOutcomes cx h
    let mv := h.glb.mv
    let h := nslotsT0 cx (nextCycle cx.now h)
    let (h, installed) := installT0 h
    let h := rephaseT0 cx.now (latchSinks (ovr && !installed) h)
    -- Sheepdog before the commands (R229, R272)
    let h := sheepdogT0 cx h
    let h := delaysT0 cx (wrapT0 cx h)
    let h := activateT0 cx (commandsT0 cx h)
    if !h.glb.dev.inService then h else
    let h := stagesT0 cx.now h
    -- T_A raised earlier stays in force until the stage is next in STOPPED (R16)
    let h := if h.glb.mv == .stopped && mv != .stopped then recompute cx h else h
    let h := (carrierT0 h).modGlb takeOffsets
    let h := brakeT0 cx (analogT0 cx h)
    let h := plannedT0 cx h
    let h := slewDone (timeStepT0 cx h)
    let h := canT0 cx (pertT0 (winRoll h))
    let h := resendSlow cx (judgeHolds cx (reselect cx h))
    windowT0 cx.now (showTh cx.now (showSd h))) h

end Sys2Proof.Machine
end

