-- ==== Sys2Proof/Machine/ExecArch.lean ====
section
/-! DEFINITION. The meanings of the Arch commands: one definition per row of the table, each over the shared
operation that its rule describes. -/
namespace Sys2Proof.Machine

/-- Start of a control cycle: the cycle count advances and every action scheduled for this cycle boundary is taken. (R25, 01_architecture.md) -/
def execT0 (e : Evt) (σ : State) : Host.Outcome State Fault Refusal :=
  runOn σ e (t0F)

/-- At T0 + T_A the LV stage references are presented to the pair buffers and forces act. (R13, 01_architecture.md) -/
def execApplyInstant (e : Evt) (σ : State) : Host.Outcome State Fault Refusal :=
  runOn σ e (applyInstantF)

/-- A half in CONFIGURED sees no ACTIVE heartbeat for 3 µs and becomes ACTIVE. (R31, 01_architecture.md) -/
def execNoActiveHeartbeat (e : Evt) (σ : State) : Host.Outcome State Fault Refusal :=
  runOn σ e (noActiveHeartbeatF)

/-- A read of the low cycle count latches the high bits. (R40, 01_architecture.md) -/
def execGlbCycleLo (e : Evt) (σ : State) : Host.Outcome State Fault Refusal :=
  runOn σ e (glbCycleLoF)

end Sys2Proof.Machine
end

