-- ==== Sys2Proof/Machine/ExecCan.lean ====
section
/-! DEFINITION. The meanings of the Can commands: one definition per row of the table, each over the shared
operation that its rule describes. -/
namespace Sys2Proof.Machine

/-- A write of 1 to CAN_CTRL.INIT takes the controller off the bus after the frame in progress. (R416, 13_can.md) -/
def execInitSet (e : Evt) (i : Fin 2) (σ : State) : Host.Outcome State Fault Refusal :=
  runOn σ e (initSetF i)

/-- A write of 0 to CAN_CTRL.INIT is checked and, if accepted, starts integration. (R415, 13_can.md) -/
def execInitRelease (e : Evt) (i : Fin 2) (σ : State) : Host.Outcome State Fault Refusal :=
  runOn σ e (initReleaseF i)

/-- After 11 consecutive recessive bits the controller joins the bus. (R416, 13_can.md) -/
def execBusIntegration (e : Evt) (i : Fin 2) (σ : State) : Host.Outcome State Fault Refusal :=
  runOn σ e (busIntegrationF i)

/-- A write names an object to be transmitted. (R424, 13_can.md) -/
def execCanTxreq (e : Evt) (i : Fin 2) (v : Word) (σ : State) : Host.Outcome State Fault Refusal :=
  runOn σ e (canTxreqF i v)

/-- A write aborts a pending transmit object. (R427, 13_can.md) -/
def execCanTxabort (e : Evt) (i : Fin 2) (v : Word) (σ : State) : Host.Outcome State Fault Refusal :=
  runOn σ e (canTxabortF i v)

/-- A write copies an object into the snapshot registers and clears NEW and MSGLST. (R430, 13_can.md) -/
def execCanRxsnap (e : Evt) (i : Fin 2) (v : Word) (σ : State) : Host.Outcome State Fault Refusal :=
  runOn σ e (canRxsnapF i v)

/-- A received frame becomes valid and is stored in a matching object. (R428, 13_can.md) -/
def execCanRxFrame (e : Evt) (i : Fin 2) (f : CanFrame) (σ : State) : Host.Outcome State Fault Refusal :=
  runOn σ e (canRxFrameF i f)

/-- A transmission succeeds and the object is marked DONE. (R426, 13_can.md) -/
def execCanTxSuccess (e : Evt) (i : Fin 2) (σ : State) : Host.Outcome State Fault Refusal :=
  runOn σ e (canTxSuccessF i)

/-- A transmission attempt fails; the object is retried or marked FAIL. (R426, 13_can.md) -/
def execCanTxError (e : TxFailure) (i : Fin 2) (σ : State) : Host.Outcome State Fault Refusal :=
  runOn σ e.toEvt (canTxErrorF i e.err)

/-- After 128 × 11 recessive bits a bus-off controller recovers. (R418, 13_can.md) -/
def execBusOffRecovery (e : Evt) (i : Fin 2) (σ : State) : Host.Outcome State Fault Refusal :=
  runOn σ e (busOffRecoveryF i)

/-- A controller detects a bus error while receiving, increments REC and may enter error-passive. (R417, 13_can.md) -/
def execCanRxError (e : Evt) (i : Fin 2) (inc : Nat) (σ : State) : Host.Outcome State Fault Refusal :=
  runOn σ e (canRxErrorF i inc)

/-- A recessive res bit in an FD frame sends the controller to bus integration, counts in CAN_CNT_PEXC and raises source 0xE6. (R431, 13_can.md) -/
def execProtocolException (e : Evt) (i : Fin 2) (σ : State) : Host.Outcome State Fault Refusal :=
  runOn σ e (protocolExceptionF i)

end Sys2Proof.Machine
end

