-- ==== Sys2Proof/Machine/ExecClock.lean ====
section
/-! DEFINITION. The meanings of the Clock commands: one definition per row of the table, each over the shared
operation that its rule describes. -/
namespace Sys2Proof.Machine

/-- The half sends a TIME_ALIGN every 8 µs. (R371, 11_clocks_timebase.md) -/
def execTimeAlignSend (e : Evt) (σ : State) : Host.Outcome State Fault Refusal :=
  runOn σ e (timeAlignSendF)

/-- A TIME_ALIGN is received and the timebase offset is formed and followed. (R371, 11_clocks_timebase.md) -/
def execTimeAlign (e : Evt) (t1 t2 t3 t4 : Int) (adj : Int) (σ : State) : Host.Outcome State Fault Refusal :=
  runTether σ e (timeAlignF t1 t2 t3 t4 adj)

/-- Descriptor that authorises and schedules a step of the timebase. (R376, 11_clocks_timebase.md) -/
def execCmdTimeStepAuthorise (e : Evt) (r : Fin 8) (d : Desc) (σ : State) : Host.Outcome State Fault Refusal :=
  runOn σ e (admitF 0x0A r d)

/-- A read of the low timebase latches NOW_HI and SEC_HI. (R380, 11_clocks_timebase.md) -/
def execTbNowLo (e : Evt) (σ : State) : Host.Outcome State Fault Refusal :=
  runOn σ e (tbNowLoF)

/-- The crystal has held its amplitude and frequency for 1 ms and is good. (R359, 11_clocks_timebase.md) -/
def execXtalGood (e : Evt) (σ : State) : Host.Outcome State Fault Refusal :=
  runAlways σ e (xtalGoodF)

/-- The crystal is not good 20 ms after start. (R359, 11_clocks_timebase.md) -/
def execXtalFail (e : Evt) (σ : State) : Host.Outcome State Fault Refusal :=
  runAlways σ e (xtalFailF)

/-- The crystal oscillator is restarted every 100 ms until good. (R359, 11_clocks_timebase.md) -/
def execXtalRestart (e : Evt) (σ : State) : Host.Outcome State Fault Refusal :=
  runAlways σ e (xtalRestartF)

/-- The reference fails and every PLL is treated as having lost lock. (R361, 11_clocks_timebase.md) -/
def execClkRefFail (e : Evt) (σ : State) : Host.Outcome State Fault Refusal :=
  runAlways σ e (clkRefFailF)

/-- A PLL loses lock: domains change to fallback or stop and the PLL retries. (R363, 11_clocks_timebase.md) -/
def execPllUnlock (e : Evt) (p : PllNo) (σ : State) : Host.Outcome State Fault Refusal :=
  runAlways σ e (pllUnlockF p)

/-- A PLL holds lock for four windows and its domains change back. (R363, 11_clocks_timebase.md) -/
def execPllLock (e : Evt) (p : PllNo) (band : BitVec 6) (σ : State) : Host.Outcome State Fault Refusal :=
  runAlways σ e (pllLockF p band)

/-- A write of 1 to CLK_PLLp_CFG.RELOCK takes the PLL through a loss of lock. (R364, 11_clocks_timebase.md) -/
def execRelock (e : Evt) (p : PllNo) (v : Word) (σ : State) : Host.Outcome State Fault Refusal :=
  runOn σ e (relockF p v)

/-- An access still under way at the gate timeout is ended with an error response. (R365, 11_clocks_timebase.md) -/
def execClkGateTimeout (e : Since) (dom : Fin 5) (σ : State) : Host.Outcome State Fault Refusal :=
  runOn σ e.toEvt (clkGateTimeoutF dom e.since)

/-- A REFIN_PPS edge is timestamped and gives an offset to the servo. (R374, 11_clocks_timebase.md) -/
def execPpsEdge (e : Edge) (σ : State) : Host.Outcome State Fault Refusal :=
  runOn σ e.toEvt (ppsEdgeF e.rising)

/-- TB.PPS_MISS seconds without an edge take the timebase to HOLDOVER. (R374, 11_clocks_timebase.md) -/
def execPpsMiss (e : Evt) (σ : State) : Host.Outcome State Fault Refusal :=
  runOn σ e (ppsMissF)

/-- VLULL_x becomes good: the LULL domain powers up, starts the crystal oscillator and latches PREFER. (R359, 11_clocks_timebase.md) -/
def execLullPowerUp (e : Evt) (prefer : HalfId) (σ : State) : Host.Outcome State Fault Refusal :=
  runAlways σ e (lullPowerUpF prefer)

end Sys2Proof.Machine
end

