-- ==== Sys2Proof/Machine/ExecHost.lean ====
section
/-! DEFINITION. The meanings of the Host commands: one definition per row of the table, each over the shared
operation that its rule describes. -/
namespace Sys2Proof.Machine

/-- A WAVE frame is received and queued as a stream unit. (R350, 10_host_interface.md) -/
def execWave (e : Evt) (k : RingNo) (f : SvcFrame) (σ : State) : Host.Outcome State Fault Refusal :=
  runOn σ e (waveF k f)

/-- A NODE_EVENT frame is received and written as consecutive event records. (R347, 10_host_interface.md) -/
def execNodeEvent (e : Evt) (k : RingNo) (f : SvcFrame) (σ : State) : Host.Outcome State Fault Refusal :=
  runOn σ e (nodeEventF k f)

/-- A replica of an admitted descriptor is received, stored and acknowledged. (R335, 10_host_interface.md) -/
def execCmdReplica (e : Evt) (ring : Fin 8) (seq cycle : BitVec 64) (d : Desc) (σ : State) : Host.Outcome State Fault Refusal :=
  runTether σ e (cmdReplicaF ring seq.toNat cycle.toNat d)

/-- The receiving half's read of the descriptor completes and it is compared with the replica. (R335, 10_host_interface.md) -/
def execReplicaDescriptorRead (e : Evt) (ring : Fin 8) (seq : BitVec 64) (d : Desc) (σ : State) : Host.Outcome State Fault Refusal :=
  runOn σ e (replicaReadF ring seq.toNat d)

/-- A REPLICA_ACK arrives and the judgement record is written. (R336, 10_host_interface.md) -/
def execReplicaAck (e : Evt) (ring : Fin 8) (seq : BitVec 64) (σ : State) : Host.Outcome State Fault Refusal :=
  runTether σ e (replicaAckF ring seq.toNat)

/-- A CMD_REPLICA is resent every 2 µs until acknowledged. (R335, 10_host_interface.md) -/
def execReplicaResend (e : Evt) (σ : State) : Host.Outcome State Fault Refusal :=
  runOn σ e (replicaResendF)

/-- No REPLICA_ACK within 30 µs: the other half is fenced and the record is written with SINGLE. (R337, 10_host_interface.md) -/
def execReplicaTimeout (e : Evt) (σ : State) : Host.Outcome State Fault Refusal :=
  runOn σ e (replicaTimeoutF)

/-- A producer count is written to a command ring doorbell. (R325, 10_host_interface.md) -/
def execCrTail (e : Evt) (r : Fin 8) (v : Word) (σ : State) : Host.Outcome State Fault Refusal :=
  runOn σ e (crTailF r v)

/-- A consumer count is written to a completion ring doorbell. (R325, 10_host_interface.md) -/
def execCqHead (e : Evt) (q : Fin 8) (v : Word) (σ : State) : Host.Outcome State Fault Refusal :=
  runOn σ e (cqHeadF q v)

/-- A count of posted entries is written to a stream ring doorbell. (R325, 10_host_interface.md) -/
def execSrTail (e : Evt) (s : Fin 8) (v : Word) (σ : State) : Host.Outcome State Fault Refusal :=
  runOn σ e (srTailF s v)

/-- A consumer count is written to the event ring doorbell. (R325, 10_host_interface.md) -/
def execEvHead (e : Evt) (v : Word) (σ : State) : Host.Outcome State Fault Refusal :=
  runOn σ e (evHeadF v)

/-- Descriptor that does nothing when executed. (R329, 10_host_interface.md) -/
def execCmdNop (e : Evt) (r : Fin 8) (d : Desc) (σ : State) : Host.Outcome State Fault Refusal :=
  runOn σ e (admitF 0x00 r d)

/-- Descriptor that writes words of the pending bank at T0. (R329, 10_host_interface.md) -/
def execCmdWritePending (e : Evt) (r : Fin 8) (d : Desc) (σ : State) : Host.Outcome State Fault Refusal :=
  runOn σ e (admitF 0x02 r d)

/-- Descriptor that makes the pending bank live at T0 of its cycle. (R344, 10_host_interface.md) -/
def execCmdCommit (e : Evt) (r : Fin 8) (d : Desc) (σ : State) : Host.Outcome State Fault Refusal :=
  runOn σ e (admitF 0x03 r d)

/-- Descriptor that delivers a bank, snapshot or ring state on a stream ring. (R334, 10_host_interface.md) -/
def execCmdReadState (e : Evt) (r : Fin 8) (d : Desc) (σ : State) : Host.Outcome State Fault Refusal :=
  runOn σ e (admitF 0x0E r d)

/-- A descriptor whose opcode is not in the table is judged REJECT_ARG. (R329, 10_host_interface.md) -/
def execUnknownOpcode (e : Evt) (r : Fin 8) (d : Desc) (σ : State) : Host.Outcome State Fault Refusal :=
  runOn σ e (unknownOpcodeF r d)

/-- A due completion record is written when its completion ring has room. (R340, 10_host_interface.md) -/
def execCompletionRecord (e : Evt) (q : Fin 8) (σ : State) : Host.Outcome State Fault Refusal :=
  runOn σ e (completionRecordF q)

/-- The CQ moderation interval ends and a withheld vector is requested. (R348, 10_host_interface.md) -/
def execModerationEnd (e : Evt) (q : Fin 8) (σ : State) : Host.Outcome State Fault Refusal :=
  runOn σ e (moderationEndF q)

/-- A stream buffer is filled with units and written back. (R351, 10_host_interface.md) -/
def execStreamWriteBack (e : Evt) (s : Fin 8) (entry : Desc) (σ : State) : Host.Outcome State Fault Refusal :=
  runOn σ e (streamWriteBackF s entry)

/-- SR_CFG.FLUSH_US has passed since a buffer's first byte and it is written back. (R351, 10_host_interface.md) -/
def execFlush (e : Evt) (s : Fin 8) (entry : Desc) (σ : State) : Host.Outcome State Fault Refusal :=
  runOn σ e (flushF s entry)

/-- 10 µs after becoming ACTIVE, the half searches the rings for the next entries to write. (R353, 10_host_interface.md) -/
def execReadBack (e : Evt) (σ : State) : Host.Outcome State Fault Refusal :=
  runOn σ e (readBackF)

/-- The read-back completes, missing records are written with AFTER_HO, and vector 22 is requested. (R354, 10_host_interface.md) -/
def execHiReadback (e : Evt) (mem : List (Nat × Byte)) (σ : State) : Host.Outcome State Fault Refusal :=
  runOn σ e (hiReadbackF mem)

/-- The half's PCI Express link goes down or reports an uncorrectable error. (R319, 10_host_interface.md) -/
def execLinkDown (e : Evt) (uncorrectable : Bool) (σ : State) : Host.Outcome State Fault Refusal :=
  runAlways σ e (linkDownF uncorrectable)

/-- A ring fetch, read-back or write ends with an error completion and the ring stops. (R357, 10_host_interface.md) -/
def execHiDmaErr (e : Evt) (kind : RingKind) (i : Fin 8) (σ : State) : Host.Outcome State Fault Refusal :=
  runOn σ e (hiDmaErrF kind i)

/-- A write to a ring's SIZE enables, disables or refuses the ring setup. (R322, 10_host_interface.md) -/
def execRingSizeWrite (e : Evt) (kind : RingKind) (i : Fin 8) (v : Word) (σ : State) : Host.Outcome State Fault Refusal :=
  runOn σ e (ringSizeWriteF kind i v)

/-- A read of NEXT_SEQ bits 31:0 latches bits 63:32. (R331, 10_host_interface.md) -/
def execCrSeqLo (e : Evt) (r : Fin 8) (σ : State) : Host.Outcome State Fault Refusal :=
  runOn σ e (crSeqLoF r)

/-- The half's PCI Express link finishes training and comes up, reporting speed and width in HI_STATUS. (R319, 10_host_interface.md) -/
def execPcieLinkUp (e : Evt) (speed width : Nat) (σ : State) : Host.Outcome State Fault Refusal :=
  runAlways σ e (pcieLinkUpF speed width)

/-- A completion ring has been full for 1 ms and source 0xC6 HI_CQ_STALL is raised. (R327, 10_host_interface.md) -/
def execHiCqStall (e : Evt) (q : Fin 8) (σ : State) : Host.Outcome State Fault Refusal :=
  runOn σ e (hiCqStallF q)

/-- The last byte of a CMD_READ_STATE or CMD_RECORDER READ has been handed to its stream ring, and the descriptor is judged OK. (R334, 10_host_interface.md) -/
def execReadDeliveryDone (e : Evt) (recorder : Bool) (bad : List Nat) (σ : State) : Host.Outcome State Fault Refusal :=
  runOn σ e (readDeliveryDoneF recorder bad)

end Sys2Proof.Machine
end

