-- ==== Sys2Proof/Machine/ExecLane.lean ====
section
/-! DEFINITION. The meanings of the Lane commands: one definition per row of the table, each over the shared
operation that its rule describes. -/
namespace Sys2Proof.Machine

/-- The half sends alignment marker m on every transmit lane at the first permitted block boundary, in every role, halted
or held in reset (R43). (R52, 02_herd_link_physical.md) -/
def execMarkerSend (e : Evt) (k : RingNo) (σ : State) : Host.Outcome State Fault Refusal :=
  runAlways σ e (markerSendF k)

/-- A marker is received, checked and used for marker lock and hop delay reports. (R54, 02_herd_link_physical.md) -/
def execMarker (e : Evt) (k : RingNo) (m0 m1 : Block) (follows : Bool) (σ : State) : Host.Outcome State Fault Refusal :=
  runOn σ e (markerF k m0 m1 follows)

/-- The input amplitude stays above the signal-detect threshold for 1 µs and the lane goes to SIGNAL. (R49, 02_herd_link_physical.md) -/
def execSignalDetect (e : Evt) (k : RingNo) (σ : State) : Host.Outcome State Fault Refusal :=
  runOn σ e (signalDetectF k)

/-- The receiver completes its trial of the 16 CTLE settings and keeps the best. (R46, 02_herd_link_physical.md) -/
def execCtleSelect (e : Evt) (k : RingNo) (eyes : List Nat) (σ : State) : Host.Outcome State Fault Refusal :=
  runOn σ e (ctleSelectF k eyes)

/-- 64 consecutive valid sync headers after CTLE selection take the lane to BLOCK. (R49, 02_herd_link_physical.md) -/
def execBlockLock (e : Evt) (k : RingNo) (σ : State) : Host.Outcome State Fault Refusal :=
  runOn σ e (blockLockF k)

/-- No valid marker in four marker periods takes the lane from UP to BLOCK. (R49, 02_herd_link_physical.md) -/
def execMarkerLoss (e : Evt) (k : RingNo) (σ : State) : Host.Outcome State Fault Refusal :=
  runOn σ e (markerLossF k)

/-- A receiver loses signal or sync headers, enters DOWN and raises LANE_DOWN_k. (R66, 02_herd_link_physical.md) -/
def execLaneDown (e : Evt) (k : RingNo) (los : Bool) (badHeaders : Nat) (σ : State) : Host.Outcome State Fault Refusal :=
  runOn σ e (laneDownF k los badHeaders)

/-- The DFE taps take one sign-sign LMS update. (R47, 02_herd_link_physical.md) -/
def execDfeUpdate (e : Evt) (k : RingNo) (err : Int) (decisions : List Int) (σ : State) : Host.Outcome State Fault Refusal :=
  runOn σ e (dfeUpdateF k err decisions)

/-- The 100 µs fast re-adaptation ends. (R48, 02_herd_link_physical.md) -/
def execReadaptationEnd (e : Evt) (k : RingNo) (σ : State) : Host.Outcome State Fault Refusal :=
  runOn σ e (readaptationEndF k)

/-- At the end of each 2³⁰-block window, the invalid header count is compared with the BER limit. (R65, 02_herd_link_physical.md) -/
def execBerWindow (e : Evt) (k : RingNo) (invalid : Nat) (σ : State) : Host.Outcome State Fault Refusal :=
  runOn σ e (berWindowF k invalid)

end Sys2Proof.Machine
end

