-- ==== Sys2Proof/Machine/ExecLt.lean ====
section
/-! DEFINITION. The meanings of the Lt commands: one definition per row of the table, each over the shared
operation that its rule describes. -/
namespace Sys2Proof.Machine

/-- The Loop Table pass completes: sinks are staged and LT_SIGs and LT_BLKi are updated. (R197, 06_loop_table.md) -/
def execPassComplete (e : Checked) (σ : State) : Host.Outcome State Fault Refusal :=
  runOn σ e.toEvt (passCompleteF e.residue)

/-- Descriptor that sets HOST_REF signals before the pass of its cycle. (R193, 06_loop_table.md) -/
def execCmdSetReference (e : Evt) (r : Fin 8) (d : Desc) (σ : State) : Host.Outcome State Fault Refusal :=
  runOn σ e (admitF 0x01 r d)

end Sys2Proof.Machine
end

