-- ==== Sys2Proof/Machine/ExecLv.lean ====
section
/-! DEFINITION. The meanings of the Lv commands: one definition per row of the table, each over the shared
operation that its rule describes. -/
namespace Sys2Proof.Machine

/-- A pair reaches its reload and takes the last load presented in time. (R221, 07_lv_stage.md) -/
def execReload (e : Evt) (n : PairNo) (σ : State) : Host.Outcome State Fault Refusal :=
  runOn σ e (reloadF n)

/-- A PULSE force ends after WIDTH fine units and the output goes to BOTH_OFF. (R229, 07_lv_stage.md) -/
def execForcePulseEnd (e : Evt) (n : Fin 13) (σ : State) : Host.Outcome State Fault Refusal :=
  runOn σ e (forcePulseEndF n)

/-- A TRIP input crosses or leaves a SOFT or HARD threshold. (R235, 07_lv_stage.md) -/
def execTripCrossing (e : Evt) (n : TripNo) (hard : Bool) (uv : Nat) (σ : State) : Host.Outcome State Fault Refusal :=
  runComp σ e (tripCrossingF n hard uv)

/-- A soft blanking window ends and an asserted soft comparator starts its filter. (R236, 07_lv_stage.md) -/
def execBlankEnd (e : Evt) (n : TripNo) (σ : State) : Host.Outcome State Fault Refusal :=
  runComp σ e (blankEndF n)

/-- A comparator filter expires and the latch is set, making the outputs safe. (R237, 07_lv_stage.md) -/
def execTripLatch (e : Evt) (n : TripNo) (hard : Bool) (σ : State) : Host.Outcome State Fault Refusal :=
  runComp σ e (tripLatchF n hard)

/-- A trip latch is released after 10 µs quiet in a permitting stage state. (R240, 07_lv_stage.md) -/
def execTripRelease (e : Evt) (n : TripNo) (hard : Bool) (σ : State) : Host.Outcome State Fault Refusal :=
  runComp σ e (tripReleaseF n hard)

/-- FLTn_N is asserted for the filter length and the pair's fault latch is set. (R241, 07_lv_stage.md) -/
def execFltLatch (e : Since) (n : PairNo) (σ : State) : Host.Outcome State Fault Refusal :=
  runComp σ e.toEvt (fltLatchF n e.since)

/-- OX_VLV is at or above LV.PRE_VMIN in 16 snapshots and the LV stage enters RUN. (R234, 07_lv_stage.md) -/
def execLvPrechargeComplete (e : Evt) (σ : State) : Host.Outcome State Fault Refusal :=
  runOn σ e (lvPrechargeCompleteF)

/-- LV precharge is not complete after LV.PRE_TMAX ms and source 0x7F is raised. (R234, 07_lv_stage.md) -/
def execLvPrechargeTimeout (e : Evt) (σ : State) : Host.Outcome State Fault Refusal :=
  runOn σ e (lvPrechargeTimeoutF)

/-- Descriptor that forces LV outputs at the apply instant. (R229, 07_lv_stage.md) -/
def execCmdPwmForce (e : Evt) (r : Fin 8) (d : Desc) (σ : State) : Host.Outcome State Fault Refusal :=
  runOn σ e (admitF 0x07 r d)

/-- JTAG HALT halts the half and releases ownership. (R252, 07_lv_stage.md) -/
def execHalt (e : Evt) (σ : State) : Host.Outcome State Fault Refusal :=
  runAlways σ e (haltF)

/-- A pair's count crosses its compare value and the command changes, moving the ball signals under dead time, restarting blanking windows and releasing fault latches or held pairs. (R225, 07_lv_stage.md) -/
def execCommandEdge (e : Evt) (n : PairNo) (σ : State) : Host.Outcome State Fault Refusal :=
  runOn σ e (commandEdgeF n)

/-- FLTn_N returns high and passes its filter, making the pair's fault latch releasable at its next command edge. (R242, 07_lv_stage.md) -/
def execFltDeassert (e : Since) (n : PairNo) (σ : State) : Host.Outcome State Fault Refusal :=
  runComp σ e.toEvt (fltDeassertF n e.since)

end Sys2Proof.Machine
end

