-- ==== Sys2Proof/Machine/ExecMemory.lean ====
section
/-! DEFINITION. The meanings of the Memory commands: one definition per row of the table, each over the shared
operation that its rule describes. -/
namespace Sys2Proof.Machine

/-- Descriptor that triggers, reads, releases, arms or disarms the recorder. (R474, 15_memory_recorder.md) -/
def execCmdRecorder (e : Evt) (r : Fin 8) (d : Desc) (σ : State) : Host.Outcome State Fault Refusal :=
  runOn σ e (admitF 0x08 r d)

/-- The SRAM scrubber reads and corrects one word. (R461, 15_memory_recorder.md) -/
def execSramScrub (e : Evt) (row : BitVec 80) (σ : State) : Host.Outcome State Fault Refusal :=
  runOn σ e (sramScrubF row)

/-- The LPDDR4X scrubber reads and corrects one line. (R461, 15_memory_recorder.md) -/
def execDdrScrub (e : Evt) (rows : List (BitVec 80)) (σ : State) : Host.Outcome State Fault Refusal :=
  runOn σ e (ddrScrubF rows)

/-- 10 µs after fencing by an SRAM error, the half restarts itself. (R459, 15_memory_recorder.md) -/
def execSramUeRestart (e : Evt) (σ : State) : Host.Outcome State Fault Refusal :=
  runOn σ e (sramUeRestartF)

/-- A scrub pass has not completed within 1.5 times its length. (R463, 15_memory_recorder.md) -/
def execMemScrubLate (e : Evt) (ddr : Bool) (σ : State) : Host.Outcome State Fault Refusal :=
  runOn σ e (memScrubLateF ddr)

/-- An LPDDR4X refresh is issued at the current interval. (R465, 15_memory_recorder.md) -/
def execRefresh (e : Evt) (σ : State) : Host.Outcome State Fault Refusal :=
  runOn σ e (refreshF)

/-- MR4 is read every 16 ms to update the refresh multiplier. (R465, 15_memory_recorder.md) -/
def execMr4Poll (e : Evt) (mult : Nat) (σ : State) : Host.Outcome State Fault Refusal :=
  runOn σ e (mr4PollF mult)

end Sys2Proof.Machine
end

