-- ==== Sys2Proof/Machine/ExecNet.lean ====
section
/-! DEFINITION. The meanings of the Net commands: one definition per row of the table, each over the shared
operation that its rule describes. -/
namespace Sys2Proof.Machine

/-- Descriptor that starts, stops or sets test or simulation on sampled-value streams. (R400, 12_station_network.md) -/
def execCmdSvControl (e : Evt) (r : Fin 8) (d : Desc) (σ : State) : Host.Outcome State Fault Refusal :=
  runOn σ e (admitF 0x09 r d)

/-- A read of the low grandmaster identity latches GM_HI. (R412, 12_station_network.md) -/
def execPtpGmLo (e : Evt) (σ : State) : Host.Outcome State Fault Refusal :=
  runOn σ e (ptpGmLoF)

/-- An Ethernet port's link comes up or leaves up. (R381, 12_station_network.md) -/
def execEthLink (e : Evt) (p : PortNo) (up speedErr : Bool) (σ : State) : Host.Outcome State Fault Refusal :=
  runOn σ e (ethLinkF p up speedErr)

/-- A Sync message is received, giving an offset or being forwarded with correction. (R388, 12_station_network.md) -/
def execSync (e : Evt) (p : PortNo) (m : SyncMsg) (σ : State) : Host.Outcome State Fault Refusal :=
  runOn σ e (syncF p m)

/-- A Follow_Up is received and matched to its Sync. (R388, 12_station_network.md) -/
def execFollowUp (e : Evt) (p : PortNo) (m : SyncMsg) (σ : State) : Host.Outcome State Fault Refusal :=
  runOn σ e (followUpF p m)

/-- A two-step Sync without Follow_Up in 1 s is discarded. (R388, 12_station_network.md) -/
def execFollowUpTimeout (e : Evt) (p : PortNo) (σ : State) : Host.Outcome State Fault Refusal :=
  runOn σ e (followUpTimeoutF p)

/-- An Announce is received and master qualification and selection are updated. (R387, 12_station_network.md) -/
def execAnnounce (e : Evt) (p : PortNo) (m : AnnounceMsg) (σ : State) : Host.Outcome State Fault Refusal :=
  runOn σ e (announceF p m)

/-- A master stops qualifying after PTP.ANN_TIMEOUT announce intervals. (R387, 12_station_network.md) -/
def execAnnounceTimeout (e : Evt) (p : PortNo) (source : BitVec 80) (σ : State) : Host.Outcome State Fault Refusal :=
  runOn σ e (announceTimeoutF p source)

/-- No offset used for PTP.LOSS_MS ms and PTP is declared lost. (R389, 12_station_network.md) -/
def execNoOffsetTimeout (e : Evt) (σ : State) : Host.Outcome State Fault Refusal :=
  runOn σ e (noOffsetTimeoutF)

/-- The port sends a Pdelay_Req every 1 s. (R386, 12_station_network.md) -/
def execPdelayReqSend (e : Evt) (p : PortNo) (σ : State) : Host.Outcome State Fault Refusal :=
  runOn σ e (pdelayReqSendF p)

/-- A Pdelay_Req is received and answered with a one-step Pdelay_Resp. (R386, 12_station_network.md) -/
def execPdelayReq (e : Evt) (p : PortNo) (source : BitVec 80) (seq : BitVec 16) (σ : State) : Host.Outcome State Fault Refusal :=
  runOn σ e (pdelayReqF p source seq)

/-- A Pdelay_Resp is received and peer delay is measured. (R386, 12_station_network.md) -/
def execPdelayResp (e : Evt) (p : PortNo) (seq : BitVec 16) (twoStep : Bool) (t2 corr : Int) (σ : State) : Host.Outcome State Fault Refusal :=
  runOn σ e (pdelayRespF p seq twoStep t2 corr)

/-- A Pdelay_Resp_Follow_Up completes a two-step peer delay exchange. (R386, 12_station_network.md) -/
def execPdelayRespFollowUp (e : Evt) (p : PortNo) (seq : BitVec 16) (t3 corr : Int) (σ : State) : Host.Outcome State Fault Refusal :=
  runOn σ e (pdelayRespFollowUpF p seq t3 corr)

/-- In LINE mode a received frame is forwarded to the other port's egress queue. (R392, 12_station_network.md) -/
def execForward (e : Evt) (p : PortNo) (f : EthFrame) (σ : State) : Host.Outcome State Fault Refusal :=
  runOn σ e (forwardF p f)

/-- The ACTIVE half sends a sampled-value frame at t_last + P. (R399, 12_station_network.md) -/
def execSvFrame (e : Evt) (i : Fin 8) (σ : State) : Host.Outcome State Fault Refusal :=
  runOn σ e (svFrameF i)

/-- A GOOSE frame is received, matched and used to update points. (R403, 12_station_network.md) -/
def execGoose (e : Evt) (p : PortNo) (f : GooseFrame) (σ : State) : Host.Outcome State Fault Refusal :=
  runOn σ e (gooseF p f)

/-- A control block's time allowed to live expires and points take their FAIL values. (R405, 12_station_network.md) -/
def execGooseExpiry (e : Evt) (b : Fin 16) (σ : State) : Host.Outcome State Fault Refusal :=
  runOn σ e (gooseExpiryF b)

/-- A PRP supervision frame is received with its trailer. (R408, 12_station_network.md) -/
def execPrpSupervision (e : Evt) (p : PortNo) (src : BitVec 48) (t : PrpTrailer) (σ : State) : Host.Outcome State Fault Refusal :=
  runOn σ e (prpSupervisionF p src t)

/-- The half sends a PRP_Supervision frame every PRP.LIFE_MS ms. (R408, 12_station_network.md) -/
def execPrpSupervisionSend (e : Evt) (σ : State) : Host.Outcome State Fault Refusal :=
  runOn σ e (prpSupervisionSendF)

/-- A port receives no trailer frame for 3 × PRP.LIFE_MS ms. (R408, 12_station_network.md) -/
def execPrpLan (e : Evt) (p : PortNo) (σ : State) : Host.Outcome State Fault Refusal :=
  runOn σ e (prpLanF p)

/-- A node table entry is removed after 60 s without a frame. (R408, 12_station_network.md) -/
def execNodeTableAgeing (e : Evt) (src : BitVec 48) (σ : State) : Host.Outcome State Fault Refusal :=
  runOn σ e (nodeTableAgeingF src)

/-- A received Ethernet frame with a bad FCS, oversize length or an ethertype not taken in is discarded and counted. (R382, 12_station_network.md) -/
def execEthFrameDiscard (e : Evt) (p : PortNo) (why : DiscardWhy) (σ : State) : Host.Outcome State Fault Refusal :=
  runOn σ e (ethFrameDiscardF p why)

end Sys2Proof.Machine
end

