-- ==== Sys2Proof/Machine/ExecOx.lean ====
section
/-! DEFINITION. The meanings of the Ox commands: one definition per row of the table, each over the shared
operation that its rule describes. -/
namespace Sys2Proof.Machine

/-- At T0 + T_S − 40 ns the ACTIVE half sends the snapshot header with fences, stage states and throttle level. (R149, 05_ox_pipeline.md) -/
def execSnapshotSend (e : Evt) (σ : State) : Host.Outcome State Fault Refusal :=
  runOn σ e (snapshotSendF)

/-- With no train tail decoded on a ring by T0 + T_S − 20 ns, the half sends the SLOT_MAP for that ring. (R144, 05_ox_pipeline.md) -/
def execSlotMapDeadline (e : Evt) (k : RingNo) (σ : State) : Host.Outcome State Fault Refusal :=
  runOn σ e (slotMapDeadlineF k)

/-- At the seal instant the half fixes the snapshot, reconciles slots and analog words, and sends or compares the snapshot digest. (R150, 05_ox_pipeline.md) -/
def execSeal (e : Evt) (σ : State) : Host.Outcome State Fault Refusal :=
  runOn σ e (sealAllF)

/-- u is clamped for 100 consecutive cycles and source 0x2B is raised for the context. (R165, 05_ox_pipeline.md) -/
def execCellDabSat (e : Evt) (c : CtxNo) (σ : State) : Host.Outcome State Fault Refusal :=
  runOn σ e (cellDabSatF c)

/-- A cell's current deviates beyond tolerance for OX.ISENSE_CNT cycles and source 0x2A is raised. (R154, 05_ox_pipeline.md) -/
def execCellIsenseDev (e : Evt) (c : CtxNo) (σ : State) : Host.Outcome State Fault Refusal :=
  runOn σ e (cellIsenseDevF c)

/-- A capacitance or inductance drift persists for OX.AGE_HOLD seconds and source 0x28 or 0x29 is raised. (R159, 05_ox_pipeline.md) -/
def execCellCapAgeing (e : Evt) (c : CtxNo) (ind : Bool) (σ : State) : Host.Outcome State Fault Refusal :=
  runOn σ e (cellCapAgeingF c ind)

/-- The PASSIVE phase has not ended after OX.PRE_TPASS ms and source 0x84 is raised. (R176, 05_ox_pipeline.md) -/
def execOxPrechargeTimeout (e : Evt) (σ : State) : Host.Outcome State Fault Refusal :=
  runOn σ e (oxPrechargeTimeoutF)

/-- Ox completes the command slots, the LV stage references and the cycle digest. (R179, 05_ox_pipeline.md) -/
def execDispatch (e : Checked) (σ : State) : Host.Outcome State Fault Refusal :=
  runOn σ e.toEvt (dispatchF e.residue)

/-- The STANDBY half receives a SNAPSHOT header or digest message. (R150, 05_ox_pipeline.md) -/
def execSnapshot (e : Evt) (m : SnapMsg) (σ : State) : Host.Outcome State Fault Refusal :=
  runTether σ e (snapshotF m)

/-- A SLOT_MAP is received and missing slot records are forwarded. (R145, 05_ox_pipeline.md) -/
def execSlotMap (e : Evt) (k : RingNo) (mask : BitVec 16) (σ : State) : Host.Outcome State Fault Refusal :=
  runTether σ e (slotMapF k mask)

/-- Slot records from the other half are received. (R150, 05_ox_pipeline.md) -/
def execSlotRec (e : Evt) (rs : List SlotRec) (σ : State) : Host.Outcome State Fault Refusal :=
  runTether σ e (slotRecF rs)

/-- Descriptor that bypasses a cell by command at T0. (R174, 05_ox_pipeline.md) -/
def execCmdCellBypass (e : Evt) (r : Fin 8) (d : Desc) (σ : State) : Host.Outcome State Fault Refusal :=
  runOn σ e (admitF 0x04 r d)

end Sys2Proof.Machine
end

