-- ==== Sys2Proof/Machine/ExecPackage.lean ====
section
/-! DEFINITION. The meanings of the Package commands: one definition per row of the table, each over the shared
operation that its rule describes. -/
namespace Sys2Proof.Machine

/-- RESET_x_N low for 1 µs releases the shared balls and holds core reset. (R504, 17_package.md) -/
def execReset (e : Evt) (σ : State) : Host.Outcome State Fault Refusal :=
  runAlways σ e (resetF)

/-- 20 µs after RESET_x_N returns high, core reset is released. (R504, 17_package.md) -/
def execResetRelease (e : Evt) (bootsel : Bool) (σ : State) : Host.Outcome State Fault Refusal :=
  runAlways σ e (resetReleaseF bootsel)

/-- PCIE_x_PERST_N resets only the endpoint. (R505, 17_package.md) -/
def execPciePerst (e : Evt) (σ : State) : Host.Outcome State Fault Refusal :=
  runAlways σ e (pciePerstF)

/-- JTAG EXTEST halts the half and drives the boundary register. (R508, 17_package.md) -/
def execExtest (e : Evt) (σ : State) : Host.Outcome State Fault Refusal :=
  runAlways σ e (extestF)

/-- JTAG SAMPLE/PRELOAD captures the balls while the half runs. (R507, 17_package.md) -/
def execSamplePreload (e : Evt) (balls : List Bool) (σ : State) : Host.Outcome State Fault Refusal :=
  runAlways σ e (samplePreloadF balls)

/-- JTAG IDCODE selects the identification register. (R507, 17_package.md) -/
def execIdcode (e : Evt) (σ : State) : Host.Outcome State Fault Refusal :=
  runAlways σ e (idcodeF)

/-- JTAG CLAMP halts the half and holds balls from the boundary register. (R508, 17_package.md) -/
def execClamp (e : Evt) (σ : State) : Host.Outcome State Fault Refusal :=
  runAlways σ e (clampF)

/-- JTAG HIGHZ halts the half and sets every output to high impedance. (R508, 17_package.md) -/
def execHighz (e : Evt) (σ : State) : Host.Outcome State Fault Refusal :=
  runAlways σ e (highzF)

/-- JTAG RESUME ends a halt and resets the half. (R507, 17_package.md) -/
def execResume (e : Evt) (bootsel : Bool) (σ : State) : Host.Outcome State Fault Refusal :=
  runAlways σ e (resumeF bootsel)

/-- JTAG BYPASS selects the one-bit bypass register. (R507, 17_package.md) -/
def execBypass (e : Evt) (σ : State) : Host.Outcome State Fault Refusal :=
  runAlways σ e (bypassF)

end Sys2Proof.Machine
end

