-- ==== Sys2Proof/Machine/ExecPower.lean ====
section
/-! DEFINITION. The meanings of the Power commands: one definition per row of the table, each over the shared
operation that its rule describes. -/
namespace Sys2Proof.Machine

/-- With VLULL and the reference good, the sequencer starts powering the domains. (R436, 14_power.md) -/
def execPowerUp (e : Evt) (σ : State) : Host.Outcome State Fault Refusal :=
  runAlways σ e (powerUpF)

/-- A domain ramp ends and the next ramp, core reset release or held request follows. (R436, 14_power.md) -/
def execRampEnd (e : Evt) (bootsel : Bool) (σ : State) : Host.Outcome State Fault Refusal :=
  runAlways σ e (rampEndF bootsel)

/-- A domain's rails are not good within 10 ms and the sequencer powers down. (R436, 14_power.md) -/
def execPwrSeq (e : Evt) (σ : State) : Host.Outcome State Fault Refusal :=
  runAlways σ e (pwrSeqF)

/-- 100 ms after a failed sequence, the half tries to power up again. (R436, 14_power.md) -/
def execSequencerRetry (e : Evt) (σ : State) : Host.Outcome State Fault Refusal :=
  runAlways σ e (sequencerRetryF)

/-- A non-core rail loses power-good and its domain is stopped. (R444, 14_power.md) -/
def execPwrRailUv (e : Level) (r : RailId) (σ : State) : Host.Outcome State Fault Refusal :=
  runAlways σ e.toEvt (pwrRailUvF r e.value e.since)

/-- A protective cause releases the shared balls within 50 ns and takes the half down at once. (R442, 14_power.md) -/
def execProtectivePowerDown (e : Evt) (cause : Nat) (σ : State) : Host.Outcome State Fault Refusal :=
  runAlways σ e (protectivePowerDownF cause)

/-- An orderly whole-half power-down starts after its wait. (R441, 14_power.md) -/
def execHalfPowerDown (e : Evt) (σ : State) : Host.Outcome State Fault Refusal :=
  runAlways σ e (halfPowerDownF)

/-- A domain's switches have opened; after CORE the half is in LULL_ONLY. (R441, 14_power.md) -/
def execDomainDown (e : Evt) (σ : State) : Host.Outcome State Fault Refusal :=
  runAlways σ e (domainDownF)

/-- A PWR_REQ write requests domains to be powered up. (R439, 14_power.md) -/
def execDomainPowerUp (e : Evt) (v : Word) (σ : State) : Host.Outcome State Fault Refusal :=
  runOn σ e (domainPowerUpF v)

/-- A PWR_REQ write requests domains to be powered down. (R439, 14_power.md) -/
def execDomainPowerDown (e : Evt) (v : Word) (σ : State) : Host.Outcome State Fault Refusal :=
  runOn σ e (domainPowerDownF v)

/-- A PWR_REQ write requests a whole-half power-down and hold. (R439, 14_power.md) -/
def execHalfDown (e : Evt) (v : Word) (σ : State) : Host.Outcome State Fault Refusal :=
  runOn σ e (halfDownF v)

/-- The HALF_DOWN hold ends and the half powers up again. (R442, 14_power.md) -/
def execHoldExpiry (e : Evt) (σ : State) : Host.Outcome State Fault Refusal :=
  runAlways σ e (holdExpiryF)

/-- A VSEL strap value stable for 1 ms changes the VCORE target. (R446, 14_power.md) -/
def execVselChange (e : Evt) (sel : BitVec 2) (σ : State) : Host.Outcome State Fault Refusal :=
  runAlways σ e (vselChangeF sel)

/-- A write to PWR_VCFG may change the VCORE target. (R456, 14_power.md) -/
def execPwrVcfg (e : Evt) (v : Word) (σ : State) : Host.Outcome State Fault Refusal :=
  runOn σ e (pwrVcfgF v)

/-- A write to a PWR_VTABi entry is accepted or refused. (R448, 14_power.md) -/
def execPwrVtab (e : Evt) (i : Fin 4) (v : Word) (σ : State) : Host.Outcome State Fault Refusal :=
  runOn σ e (pwrVtabF i v)

/-- The VCORE setpoint reaches its target and the slew ends. (R447, 14_power.md) -/
def execSlewEnd (e : Evt) (σ : State) : Host.Outcome State Fault Refusal :=
  runAlways σ e (slewEndF)

/-- The fast current limit acts in 16 consecutive cycles and the half powers down. (R449, 14_power.md) -/
def execFastLimit (e : Reading) (p : Fin 2) (σ : State) : Host.Outcome State Fault Refusal :=
  runAlways σ e.toEvt (fastLimitF p e.value)

/-- The slow limit timer reaches 1 ms and source 0xBB is raised. (R450, 14_power.md) -/
def execVcoreOverload (e : Level) (σ : State) : Host.Outcome State Fault Refusal :=
  runAlways σ e.toEvt (vcoreOverloadF e.value e.since)

/-- A phase's IMON is out of range for 2 µs and the phase is dropped. (R451, 14_power.md) -/
def execVcorePhase (e : Level) (p : Fin 2) (σ : State) : Host.Outcome State Fault Refusal :=
  runAlways σ e.toEvt (vcorePhaseF p e.value e.since)

/-- The remote sense is lost and the controller regulates on local sense. (R452, 14_power.md) -/
def execVcoreSense (e : Sense) (meanDiff : Int) (σ : State) : Host.Outcome State Fault Refusal :=
  runAlways σ e.toEvt (vcoreSenseF meanDiff e.vr e.vl e.since)

/-- The regulated sense exceeds the setpoint by 100 mV for 1 µs. (R454, 14_power.md) -/
def execOvervoltage (e : Level) (σ : State) : Host.Outcome State Fault Refusal :=
  runAlways σ e.toEvt (overvoltageF e.value e.since)

/-- VLULL_x falls below 1.2 V, resetting the LULL domain so that PWR_LAST reads cause 0 and LULL registers take their reset values. (R443, 14_power.md) -/
def execLullReset (e : Evt) (σ : State) : Host.Outcome State Fault Refusal :=
  runAlways σ e (lullResetF)

/-- A rail has stayed above its rising threshold for 20 µs and becomes good, letting the sequencer start the ramp that waits on it. (R435, 14_power.md) -/
def execRailPowerGood (e : Level) (r : RailId) (σ : State) : Host.Outcome State Fault Refusal :=
  runAlways σ e.toEvt (railPowerGoodF r e.value e.since)

end Sys2Proof.Machine
end

