-- ==== Sys2Proof/Machine/ExecRedundancy.lean ====
section
/-! DEFINITION. The meanings of the Redundancy commands: one definition per row of the table, each over the shared
operation that its rule describes. -/
namespace Sys2Proof.Machine

/-- The half sends a HEARTBEAT at every whole microsecond. (R286, 09_redundancy.md) -/
def execHeartbeatSend (e : Evt) (σ : State) : Host.Outcome State Fault Refusal :=
  runOn σ e (heartbeatSendF)

/-- A HEARTBEAT from the other half is received. (R289, 09_redundancy.md) -/
def execHeartbeat (e : Evt) (m : Heartbeat) (σ : State) : Host.Outcome State Fault Refusal :=
  runTether σ e (heartbeatF m)

/-- 3 µs pass without a valid HEARTBEAT and the other half's heartbeat is declared lost. (R290, 09_redundancy.md) -/
def execHeartbeatLost (e : Evt) (σ : State) : Host.Outcome State Fault Refusal :=
  runOn σ e (heartbeatLostF)

/-- 200 ns after a heartbeat loss, a STANDBY or SYNCING half fences the ACTIVE half and takes the role. (R307, 09_redundancy.md) -/
def execOtherLost (e : Evt) (σ : State) : Host.Outcome State Fault Refusal :=
  runOn σ e (otherLostF)

/-- The ACTIVE half's ROLE line has been deasserted for 200 ns and the STANDBY half takes the role. (R307, 09_redundancy.md) -/
def execRoleLineDrop (e : Evt) (σ : State) : Host.Outcome State Fault Refusal :=
  runOn σ e (roleLineDropF)

/-- Both ROLE lines are asserted for 50 ns and the preferred half fences the other. (R295, 09_redundancy.md) -/
def execRoleConflict (e : Evt) (σ : State) : Host.Outcome State Fault Refusal :=
  runOn σ e (roleConflictF)

/-- The fence line on this half rises and the half is shut out of the balls and trains. (R293, 09_redundancy.md) -/
def execFenceLine (e : Evt) (σ : State) : Host.Outcome State Fault Refusal :=
  runAlways σ e (fenceLineF)

/-- The ownership gap has elapsed and the half's pad drivers are enabled. (R292, 09_redundancy.md) -/
def execOwnershipGrant (e : Evt) (σ : State) : Host.Outcome State Fault Refusal :=
  runOn σ e (ownershipGrantF)

/-- A SYNCING half completes 1,024 consecutive matching cycles and becomes STANDBY. (R299, 09_redundancy.md) -/
def execStandbyEntry (e : Evt) (σ : State) : Host.Outcome State Fault Refusal :=
  runOn σ e (standbyEntryF)

/-- The other half's DIGEST is received and compared. (R302, 09_redundancy.md) -/
def execDigest (e : Evt) (cycle : BitVec 16) (st : DigStatus) (d : BitVec 64) (σ : State) : Host.Outcome State Fault Refusal :=
  runTether σ e (digestF cycle st d)

/-- The digest comparison deadline passes without the other digest, and the cycle is not compared. (R302, 09_redundancy.md) -/
def execDigestDeadline (e : Evt) (σ : State) : Host.Outcome State Fault Refusal :=
  runOn σ e (digestDeadlineF)

/-- 16 consecutive cycles are not compared with the other half STANDBY. (R303, 09_redundancy.md) -/
def execGanderBlind (e : Evt) (σ : State) : Host.Outcome State Fault Refusal :=
  runOn σ e (ganderBlindF)

/-- The self-check after a mismatch completes and its verdict is acted on. (R304, 09_redundancy.md) -/
def execSelfCheck (e : Evt) (loopResidue : Bool) (upset : Option (Nat × Word)) (σ : State) : Host.Outcome State Fault Refusal :=
  runOn σ e (selfCheckF loopResidue upset)

/-- 1 µs after both halves fail, the ACTIVE half raises its source 0x91. (R305, 09_redundancy.md) -/
def execActiveSelfCheckFail (e : Evt) (σ : State) : Host.Outcome State Fault Refusal :=
  runOn σ e (activeSelfCheckFailF)

/-- A RELAY message is received carrying wraps, frames, records, fences, trips, holds, hop delays or clears. (R287, 09_redundancy.md) -/
def execRelay (e : Evt) (m : RelayMsg) (σ : State) : Host.Outcome State Fault Refusal :=
  runTether σ e (relayF m)

/-- A chunk of slow or fast state is received. (R298, 09_redundancy.md) -/
def execStateXfer (e : Evt) (c : Chunk) (install : BitVec 64) (major : Nat) (σ : State) : Host.Outcome State Fault Refusal :=
  .next (stateXferS e c.part c.offset c.len.val c.last install.toNat major σ)

/-- A Tether receive lane is lost. (R288, 09_redundancy.md) -/
def execTetherLane (e : Evt) (up : BitVec 2) (σ : State) : Host.Outcome State Fault Refusal :=
  runAlways σ e (tetherLaneF up)

/-- The ACTIVE half sets a revert once every condition holds. (R311, 09_redundancy.md) -/
def execRevert (e : Evt) (σ : State) : Host.Outcome State Fault Refusal :=
  runOn σ e (revertF)

/-- A write of 1 to TH_CTRL.LEAVE starts leaving service, or is refused. (R314, 09_redundancy.md) -/
def execLeave (e : Evt) (v : Word) (σ : State) : Host.Outcome State Fault Refusal :=
  runOn σ e (leaveF v)

/-- 10 µs after an accepted LEAVE the half goes to OFF. (R314, 09_redundancy.md) -/
def execLeaveOff (e : Evt) (σ : State) : Host.Outcome State Fault Refusal :=
  runOn σ e (leaveOffF)

/-- A write of 1 to TH_CTRL.RESTART powers the half's domains down and up again. (R313, 09_redundancy.md) -/
def execRestart (e : Evt) (v : Word) (σ : State) : Host.Outcome State Fault Refusal :=
  runOn σ e (restartF v)

/-- A write of 1 to TH_CTRL.CLR_HIST sets the fence count to 0. (R312, 09_redundancy.md) -/
def execClrHist (e : Evt) (v : Word) (σ : State) : Host.Outcome State Fault Refusal :=
  runOn σ e (clrHistF v)

/-- Descriptor that sets a planned hand-over to the named half. (R306, 09_redundancy.md) -/
def execCmdRole (e : Evt) (r : Fin 8) (d : Desc) (σ : State) : Host.Outcome State Fault Refusal :=
  runOn σ e (admitF 0x0B r d)

/-- A Tether message whose CRC fails is dropped and counted in TH_CNT_MSG_CRC, possibly raising source 0x9B. (R286, 09_redundancy.md) -/
def execTetherMessageCrc (e : Evt) (σ : State) : Host.Outcome State Fault Refusal :=
  runOn σ e (tetherMessageCrcF)

end Sys2Proof.Machine
end

