-- ==== Sys2Proof/Machine/ExecRing.lean ====
section
/-! DEFINITION. The meanings of the Ring commands: one definition per row of the table, each over the shared
operation that its rule describes. -/
namespace Sys2Proof.Machine

/-- At T0 + T_S + 200 ns the half sends its command train on each ring it reaches. (R78, 03_herd_rings.md) -/
def execCommandTrain (e : Evt) (σ : State) : Host.Outcome State Fault Refusal :=
  runOn σ e (commandTrainF)

/-- The half sends a collection train so that its head reaches the first node at T0 + 80 ns. (R74, 03_herd_rings.md) -/
def execCollGo (e : Evt) (k : RingNo) (σ : State) : Host.Outcome State Fault Refusal :=
  runOn σ e (collGoF k)

/-- A collection slot is decoded and accepted or counted as bad or late. (R76, 03_herd_rings.md) -/
def execCollSlot (e : Evt) (k : RingNo) (ctl data : Block) (follows tail : Bool) (σ : State) : Host.Outcome State Fault Refusal :=
  runOn σ e (collSlotF k ctl data follows tail)

/-- A valid WRAP block is received and passed to the other half over the Tether. (R101, 03_herd_rings.md) -/
def execWrap (e : Evt) (k : RingNo) (blk : Block) (σ : State) : Host.Outcome State Fault Refusal :=
  runOn σ e (wrapF k blk)

/-- The half probes a position with ENUM_QUERY. (R94, 03_herd_rings.md) -/
def execEnumQuery (e : Evt) (k : RingNo) (p : PosNo) (σ : State) : Host.Outcome State Fault Refusal :=
  runOn σ e (enumQueryF k (p.val + 1))

/-- The half sends a 32-block container to a node. (R86, 03_herd_rings.md) -/
def execGrant (e : Evt) (k : RingNo) (p : PosNo) (σ : State) : Host.Outcome State Fault Refusal :=
  runOn σ e (grantF k (p.val + 1))

/-- The half sends a TIME_SET to a node at binding, on a change, or at least every 100 ms. (R89, 03_herd_rings.md) -/
def execTimeSet (e : Evt) (k : RingNo) (p : PosNo) (σ : State) : Host.Outcome State Fault Refusal :=
  runOn σ e (timeSetF k (p.val + 1))

/-- Every wrapping node has reported SIDE_UP for 10 ms and the ACTIVE half sends RING_CTL UNWRAP. (R105, 03_herd_rings.md) -/
def execAutoUnwrap (e : Evt) (k : RingNo) (σ : State) : Host.Outcome State Fault Refusal :=
  runOn σ e (autoUnwrapF k)

/-- An unacknowledged service frame is resent after 100 µs, or SVC_TIMEOUT is raised after the third resend. (R88, 03_herd_rings.md) -/
def execSvcResend (e : Evt) (k : RingNo) (p : PosNo) (σ : State) : Host.Outcome State Fault Refusal :=
  runOn σ e (svcResendF k (p.val + 1))

/-- An ENUM_REPLY binds, rejects or conflicts a position. (R95, 03_herd_rings.md) -/
def execEnumReply (e : Evt) (k : RingNo) (f : SvcFrame) (σ : State) : Host.Outcome State Fault Refusal :=
  runOn σ e (withSlow (enumReplyF k f))

/-- A node's ACK completes an outstanding service frame, including TIME_SET and FW_CHUNK. (R87, 03_herd_rings.md) -/
def execAck (e : Evt) (k : RingNo) (f : SvcFrame) (σ : State) : Host.Outcome State Fault Refusal :=
  runOn σ e (withSlow (ackF k f))

/-- A position without an accepted slot for four cycles and without a probe reply goes to ABSENT. (R95, 03_herd_rings.md) -/
def execNodeLost (e : Evt) (k : RingNo) (p : PosNo) (σ : State) : Host.Outcome State Fault Refusal :=
  runOn σ e (withSlow (nodeLostF k (p.val + 1)))

/-- A binding with an unacknowledged TIME_SET or no slot within 1 ms is abandoned. (R532, 03_herd_rings.md) -/
def execBindingAbandoned (e : Evt) (k : RingNo) (p : PosNo) (σ : State) : Host.Outcome State Fault Refusal :=
  runOn σ e (withSlow (bindingAbandonedF k (p.val + 1)))

/-- Descriptor that unwraps a ring or starts a new delay measurement. (R105, 03_herd_rings.md) -/
def execCmdRingControl (e : Evt) (r : Fin 8) (d : Desc) (σ : State) : Host.Outcome State Fault Refusal :=
  runOn σ e (admitF 0x06 r d)

/-- A service frame that fails its CRC, LEN or DST check is dropped and counted in HR_CNT_SVC_CRC, possibly raising source 0x1A. (R84, 03_herd_rings.md) -/
def execSvcFrameDropped (e : Evt) (k : RingNo) (σ : State) : Host.Outcome State Fault Refusal :=
  runOn σ e (svcFrameDroppedF k)

end Sys2Proof.Machine
end

