-- ==== Sys2Proof/Machine/ExecSheepdog.lean ====
section
/-! DEFINITION. The meanings of the Sheepdog commands: one definition per row of the table, each over the shared
operation that its rule describes. -/
namespace Sys2Proof.Machine

/-- 20 ns after the earliest unsent decision, the half forms a GUST_BLOCK from all decisions held and sends it. (R277, 08_sheepdog_gust.md) -/
def execGustBlock (e : Evt) (σ : State) : Host.Outcome State Fault Refusal :=
  runOn σ e (gustBlockF)

/-- The ACTIVE half writes a queued event record when the event ring has room. (R265, 08_sheepdog_gust.md) -/
def execEventRecordWrite (e : Evt) (σ : State) : Host.Outcome State Fault Refusal :=
  runOn σ e (eventRecordWriteF)

/-- A fence takes effect at its unit after the delay of its kind. (R267, 08_sheepdog_gust.md) -/
def execFenceEffect (e : Evt) (u : FUnit) (σ : State) : Host.Outcome State Fault Refusal :=
  runOn σ e (fenceEffectF u)

/-- A write to SD_CLEAR requests that a unit's fence be cleared. (R282, 08_sheepdog_gust.md) -/
def execSdClear (e : Evt) (v : Word) (σ : State) : Host.Outcome State Fault Refusal :=
  runOn σ e (sdClearF v)

/-- A write of 1 removes the MV degraded mark in both halves. (R283, 08_sheepdog_gust.md) -/
def execDegMv (e : Evt) (σ : State) : Host.Outcome State Fault Refusal :=
  runOn σ e (degMvF)

/-- A write of 1 removes the LV degraded mark in both halves. (R283, 08_sheepdog_gust.md) -/
def execDegLv (e : Evt) (σ : State) : Host.Outcome State Fault Refusal :=
  runOn σ e (degLvF)

/-- Descriptor that removes a cell's fence and command bypass at T0. (R281, 08_sheepdog_gust.md) -/
def execCmdCellRestore (e : Evt) (r : Fin 8) (d : Desc) (σ : State) : Host.Outcome State Fault Refusal :=
  runOn σ e (admitF 0x05 r d)

end Sys2Proof.Machine
end

