-- ==== Sys2Proof/Machine/ExecThermal.lean ====
section
/-! DEFINITION. The meanings of the Thermal commands: one definition per row of the table, each over the shared
operation that its rule describes. -/
namespace Sys2Proof.Machine

/-- With no channel 29 result for 2 ms, the thermal monitor requests a sequence. (R479, 16_thermal_security_update.md) -/
def execThermSeqRequest (e : Evt) (σ : State) : Host.Outcome State Fault Refusal :=
  runOn σ e (thermSeqRequestF)

/-- With no result for 5 ms the sensor has failed and the half throttles. (R479, 16_thermal_security_update.md) -/
def execSensorTimeout (e : Evt) (σ : State) : Host.Outcome State Fault Refusal :=
  runOn σ e (sensorTimeoutF)

/-- The LULL shutdown comparator asserts, as if 120 °C were reached. (R480, 16_thermal_security_update.md) -/
def execLullComparator (e : Evt) (σ : State) : Host.Outcome State Fault Refusal :=
  runAlways σ e (lullComparatorF)

/-- Descriptor that stages a firmware, configuration or node image. (R489, 16_thermal_security_update.md) -/
def execCmdUpdateStage (e : Evt) (r : Fin 8) (d : Desc) (vendor model : Byte × Byte) (σ : State) : Host.Outcome State Fault Refusal :=
  runOn σ e (updateStageF r d vendor model)

/-- Descriptor that activates a staged image in a half or in nodes. (R489, 16_thermal_security_update.md) -/
def execCmdUpdateActivate (e : Evt) (r : Fin 8) (d : Desc) (σ : State) : Host.Outcome State Fault Refusal :=
  runOn σ e (admitF 0x0D r d)

/-- Image verification and loading end, taking the half to CONFIGURED or LULL_ONLY. (R485, 16_thermal_security_update.md) -/
def execBootComplete (e : Evt) (f : Flash) (σ : State) : Host.Outcome State Fault Refusal :=
  runOn σ e (bootCompleteF f)

/-- A write with KEY 0xA5 programs the customer key hash. (R487, 16_thermal_security_update.md) -/
def execSecOtpProg (e : Evt) (v : Word) (σ : State) : Host.Outcome State Fault Refusal :=
  runOn σ e (secOtpProgF v)

/-- Staging of an image completes in STAGED or failed. (R489, 16_thermal_security_update.md) -/
def execStageComplete (e : Evt) (img : Image) (σ : State) : Host.Outcome State Fault Refusal :=
  runOn σ e (stageCompleteF img)

/-- A trial slot not cleared within 60 s falls back to the previous slots. (R490, 16_thermal_security_update.md) -/
def execTrialTimeout (e : Evt) (σ : State) : Host.Outcome State Fault Refusal :=
  runOn σ e (trialTimeoutF)

/-- A write of 1 to PERT_CTRL.ARM arms perturbation or is refused. (R494, 16_thermal_security_update.md) -/
def execPertArm (e : Evt) (v : Word) (σ : State) : Host.Outcome State Fault Refusal :=
  runOn σ e (pertArmF v)

/-- The LULL shutdown comparator releases 5 °C below its trip point, and the shut-down half powers up again under R436. (R480, 16_thermal_security_update.md) -/
def execLullComparatorRelease (e : Evt) (σ : State) : Host.Outcome State Fault Refusal :=
  runAlways σ e (lullComparatorReleaseF)

end Sys2Proof.Machine
end

