-- ==== Sys2Proof/Machine/Dispatch.lean ====
section
/-! DEFINITION. One arm per command: its meaning in Machine/Exec*.lean. -/
namespace Sys2Proof.Machine

def exec (i : Instr) (s : State) : Host.Outcome State Fault Refusal :=
  match i with
  | .t0 e => Sys2Proof.Machine.execT0 e s
  | .snapshotSend e => Sys2Proof.Machine.execSnapshotSend e s
  | .slotMapDeadline e k => Sys2Proof.Machine.execSlotMapDeadline e k s
  | .seal e => Sys2Proof.Machine.execSeal e s
  | .disputeOpen e n => Sys2Proof.Machine.execDisputeOpen e n s
  | .cellDabSat e c => Sys2Proof.Machine.execCellDabSat e c s
  | .cellIsenseDev e c => Sys2Proof.Machine.execCellIsenseDev e c s
  | .cellCapAgeing e c ind => Sys2Proof.Machine.execCellCapAgeing e c ind s
  | .oxPrechargeTimeout e => Sys2Proof.Machine.execOxPrechargeTimeout e s
  | .dispatch e => Sys2Proof.Machine.execDispatch e s
  | .passComplete e => Sys2Proof.Machine.execPassComplete e s
  | .commandTrain e => Sys2Proof.Machine.execCommandTrain e s
  | .applyInstant e => Sys2Proof.Machine.execApplyInstant e s
  | .collGo e k => Sys2Proof.Machine.execCollGo e k s
  | .collSlot e k ctl data follows tail => Sys2Proof.Machine.execCollSlot e k ctl data follows tail s
  | .wrap e k blk => Sys2Proof.Machine.execWrap e k blk s
  | .markerSend e k => Sys2Proof.Machine.execMarkerSend e k s
  | .marker e k m0 m1 follows => Sys2Proof.Machine.execMarker e k m0 m1 follows s
  | .signalDetect e k => Sys2Proof.Machine.execSignalDetect e k s
  | .ctleSelect e k eyes => Sys2Proof.Machine.execCtleSelect e k eyes s
  | .blockLock e k => Sys2Proof.Machine.execBlockLock e k s
  | .markerLoss e k => Sys2Proof.Machine.execMarkerLoss e k s
  | .laneDown e k los badHeaders => Sys2Proof.Machine.execLaneDown e k los badHeaders s
  | .dfeUpdate e k err decisions => Sys2Proof.Machine.execDfeUpdate e k err decisions s
  | .readaptationEnd e k => Sys2Proof.Machine.execReadaptationEnd e k s
  | .berWindow e k invalid => Sys2Proof.Machine.execBerWindow e k invalid s
  | .enumQuery e k p => Sys2Proof.Machine.execEnumQuery e k p s
  | .grant e k p => Sys2Proof.Machine.execGrant e k p s
  | .timeSet e k p => Sys2Proof.Machine.execTimeSet e k p s
  | .autoUnwrap e k => Sys2Proof.Machine.execAutoUnwrap e k s
  | .svcResend e k p => Sys2Proof.Machine.execSvcResend e k p s
  | .enumReply e k f => Sys2Proof.Machine.execEnumReply e k f s
  | .ack e k f => Sys2Proof.Machine.execAck e k f s
  | .wave e k f => Sys2Proof.Machine.execWave e k f s
  | .nodeEvent e k f => Sys2Proof.Machine.execNodeEvent e k f s
  | .nodeLost e k p => Sys2Proof.Machine.execNodeLost e k p s
  | .bindingAbandoned e k p => Sys2Proof.Machine.execBindingAbandoned e k p s
  | .gustBlock e => Sys2Proof.Machine.execGustBlock e s
  | .anWordsSend e bits ovl => Sys2Proof.Machine.execAnWordsSend e bits ovl s
  | .anWord e n bits ovl => Sys2Proof.Machine.execAnWord e n bits ovl s
  | .anSeqTrig e v => Sys2Proof.Machine.execAnSeqTrig e v s
  | .anSeqPeriod e => Sys2Proof.Machine.execAnSeqPeriod e s
  | .anConversion e result => Sys2Proof.Machine.execAnConversion e result s
  | .thermSeqRequest e => Sys2Proof.Machine.execThermSeqRequest e s
  | .sensorTimeout e => Sys2Proof.Machine.execSensorTimeout e s
  | .lullComparator e => Sys2Proof.Machine.execLullComparator e s
  | .reload e n => Sys2Proof.Machine.execReload e n s
  | .forcePulseEnd e n => Sys2Proof.Machine.execForcePulseEnd e n s
  | .tripCrossing e n hard uv => Sys2Proof.Machine.execTripCrossing e n hard uv s
  | .blankEnd e n => Sys2Proof.Machine.execBlankEnd e n s
  | .tripLatch e n hard => Sys2Proof.Machine.execTripLatch e n hard s
  | .tripRelease e n hard => Sys2Proof.Machine.execTripRelease e n hard s
  | .fltLatch e n => Sys2Proof.Machine.execFltLatch e n s
  | .lvPrechargeComplete e => Sys2Proof.Machine.execLvPrechargeComplete e s
  | .lvPrechargeTimeout e => Sys2Proof.Machine.execLvPrechargeTimeout e s
  | .eventRecordWrite e => Sys2Proof.Machine.execEventRecordWrite e s
  | .fenceEffect e u => Sys2Proof.Machine.execFenceEffect e u s
  | .sdClear e v => Sys2Proof.Machine.execSdClear e v s
  | .degMv e => Sys2Proof.Machine.execDegMv e s
  | .degLv e => Sys2Proof.Machine.execDegLv e s
  | .heartbeatSend e => Sys2Proof.Machine.execHeartbeatSend e s
  | .heartbeat e m => Sys2Proof.Machine.execHeartbeat e m s
  | .heartbeatLost e => Sys2Proof.Machine.execHeartbeatLost e s
  | .otherLost e => Sys2Proof.Machine.execOtherLost e s
  | .roleLineDrop e => Sys2Proof.Machine.execRoleLineDrop e s
  | .roleConflict e => Sys2Proof.Machine.execRoleConflict e s
  | .fenceLine e => Sys2Proof.Machine.execFenceLine e s
  | .ownershipGrant e => Sys2Proof.Machine.execOwnershipGrant e s
  | .noActiveHeartbeat e => Sys2Proof.Machine.execNoActiveHeartbeat e s
  | .standbyEntry e => Sys2Proof.Machine.execStandbyEntry e s
  | .snapshot e m => Sys2Proof.Machine.execSnapshot e m s
  | .slotMap e k mask => Sys2Proof.Machine.execSlotMap e k mask s
  | .slotRec e rs => Sys2Proof.Machine.execSlotRec e rs s
  | .anWords e words => Sys2Proof.Machine.execAnWords e words s
  | .digest e cycle st d => Sys2Proof.Machine.execDigest e cycle st d s
  | .digestDeadline e => Sys2Proof.Machine.execDigestDeadline e s
  | .ganderBlind e => Sys2Proof.Machine.execGanderBlind e s
  | .selfCheck e loopResidue upset => Sys2Proof.Machine.execSelfCheck e loopResidue upset s
  | .activeSelfCheckFail e => Sys2Proof.Machine.execActiveSelfCheckFail e s
  | .cmdReplica e ring seq cycle d => Sys2Proof.Machine.execCmdReplica e ring seq cycle d s
  | .replicaDescriptorRead e ring seq d => Sys2Proof.Machine.execReplicaDescriptorRead e ring seq d s
  | .replicaAck e ring seq => Sys2Proof.Machine.execReplicaAck e ring seq s
  | .replicaResend e => Sys2Proof.Machine.execReplicaResend e s
  | .replicaTimeout e => Sys2Proof.Machine.execReplicaTimeout e s
  | .relay e m => Sys2Proof.Machine.execRelay e m s
  | .stateXfer e c install major => Sys2Proof.Machine.execStateXfer e c install major s
  | .timeAlignSend e => Sys2Proof.Machine.execTimeAlignSend e s
  | .timeAlign e t1 t2 t3 t4 adj => Sys2Proof.Machine.execTimeAlign e t1 t2 t3 t4 adj s
  | .tetherLane e up => Sys2Proof.Machine.execTetherLane e up s
  | .revert e => Sys2Proof.Machine.execRevert e s
  | .leave e v => Sys2Proof.Machine.execLeave e v s
  | .leaveOff e => Sys2Proof.Machine.execLeaveOff e s
  | .restart e v => Sys2Proof.Machine.execRestart e v s
  | .clrHist e v => Sys2Proof.Machine.execClrHist e v s
  | .crTail e r v => Sys2Proof.Machine.execCrTail e r v s
  | .cqHead e q v => Sys2Proof.Machine.execCqHead e q v s
  | .srTail e sx v => Sys2Proof.Machine.execSrTail e sx v s
  | .evHead e v => Sys2Proof.Machine.execEvHead e v s
  | .cmdNop e r d => Sys2Proof.Machine.execCmdNop e r d s
  | .cmdSetReference e r d => Sys2Proof.Machine.execCmdSetReference e r d s
  | .cmdWritePending e r d => Sys2Proof.Machine.execCmdWritePending e r d s
  | .cmdCommit e r d => Sys2Proof.Machine.execCmdCommit e r d s
  | .cmdCellBypass e r d => Sys2Proof.Machine.execCmdCellBypass e r d s
  | .cmdCellRestore e r d => Sys2Proof.Machine.execCmdCellRestore e r d s
  | .cmdRingControl e r d => Sys2Proof.Machine.execCmdRingControl e r d s
  | .cmdPwmForce e r d => Sys2Proof.Machine.execCmdPwmForce e r d s
  | .cmdRecorder e r d => Sys2Proof.Machine.execCmdRecorder e r d s
  | .cmdSvControl e r d => Sys2Proof.Machine.execCmdSvControl e r d s
  | .cmdTimeStepAuthorise e r d => Sys2Proof.Machine.execCmdTimeStepAuthorise e r d s
  | .cmdRole e r d => Sys2Proof.Machine.execCmdRole e r d s
  | .cmdUpdateStage e r d vendor model => Sys2Proof.Machine.execCmdUpdateStage e r d vendor model s
  | .cmdUpdateActivate e r d => Sys2Proof.Machine.execCmdUpdateActivate e r d s
  | .cmdReadState e r d => Sys2Proof.Machine.execCmdReadState e r d s
  | .unknownOpcode e r d => Sys2Proof.Machine.execUnknownOpcode e r d s
  | .completionRecord e q => Sys2Proof.Machine.execCompletionRecord e q s
  | .moderationEnd e q => Sys2Proof.Machine.execModerationEnd e q s
  | .streamWriteBack e sx entry => Sys2Proof.Machine.execStreamWriteBack e sx entry s
  | .flush e sx entry => Sys2Proof.Machine.execFlush e sx entry s
  | .readBack e => Sys2Proof.Machine.execReadBack e s
  | .hiReadback e mem => Sys2Proof.Machine.execHiReadback e mem s
  | .linkDown e uncorrectable => Sys2Proof.Machine.execLinkDown e uncorrectable s
  | .hiDmaErr e kind ix => Sys2Proof.Machine.execHiDmaErr e kind ix s
  | .ringSizeWrite e kind ix v => Sys2Proof.Machine.execRingSizeWrite e kind ix v s
  | .glbCycleLo e => Sys2Proof.Machine.execGlbCycleLo e s
  | .tbNowLo e => Sys2Proof.Machine.execTbNowLo e s
  | .ptpGmLo e => Sys2Proof.Machine.execPtpGmLo e s
  | .crSeqLo e r => Sys2Proof.Machine.execCrSeqLo e r s
  | .xtalGood e => Sys2Proof.Machine.execXtalGood e s
  | .xtalFail e => Sys2Proof.Machine.execXtalFail e s
  | .xtalRestart e => Sys2Proof.Machine.execXtalRestart e s
  | .clkRefFail e => Sys2Proof.Machine.execClkRefFail e s
  | .pllUnlock e p => Sys2Proof.Machine.execPllUnlock e p s
  | .pllLock e p band => Sys2Proof.Machine.execPllLock e p band s
  | .relock e p v => Sys2Proof.Machine.execRelock e p v s
  | .clkGateTimeout e dom => Sys2Proof.Machine.execClkGateTimeout e dom s
  | .ppsEdge e => Sys2Proof.Machine.execPpsEdge e s
  | .ppsMiss e => Sys2Proof.Machine.execPpsMiss e s
  | .ethLink e p up speedErr => Sys2Proof.Machine.execEthLink e p up speedErr s
  | .sync e p m => Sys2Proof.Machine.execSync e p m s
  | .followUp e p m => Sys2Proof.Machine.execFollowUp e p m s
  | .followUpTimeout e p => Sys2Proof.Machine.execFollowUpTimeout e p s
  | .announce e p m => Sys2Proof.Machine.execAnnounce e p m s
  | .announceTimeout e p source => Sys2Proof.Machine.execAnnounceTimeout e p source s
  | .noOffsetTimeout e => Sys2Proof.Machine.execNoOffsetTimeout e s
  | .pdelayReqSend e p => Sys2Proof.Machine.execPdelayReqSend e p s
  | .pdelayReq e p source seq => Sys2Proof.Machine.execPdelayReq e p source seq s
  | .pdelayResp e p seq twoStep t2 corr => Sys2Proof.Machine.execPdelayResp e p seq twoStep t2 corr s
  | .pdelayRespFollowUp e p seq t3 corr => Sys2Proof.Machine.execPdelayRespFollowUp e p seq t3 corr s
  | .forward e p f => Sys2Proof.Machine.execForward e p f s
  | .svFrame e ix => Sys2Proof.Machine.execSvFrame e ix s
  | .goose e p f => Sys2Proof.Machine.execGoose e p f s
  | .gooseExpiry e b => Sys2Proof.Machine.execGooseExpiry e b s
  | .prpSupervision e p src t => Sys2Proof.Machine.execPrpSupervision e p src t s
  | .prpSupervisionSend e => Sys2Proof.Machine.execPrpSupervisionSend e s
  | .prpLan e p => Sys2Proof.Machine.execPrpLan e p s
  | .nodeTableAgeing e src => Sys2Proof.Machine.execNodeTableAgeing e src s
  | .initSet e ix => Sys2Proof.Machine.execInitSet e ix s
  | .initRelease e ix => Sys2Proof.Machine.execInitRelease e ix s
  | .busIntegration e ix => Sys2Proof.Machine.execBusIntegration e ix s
  | .canTxreq e ix v => Sys2Proof.Machine.execCanTxreq e ix v s
  | .canTxabort e ix v => Sys2Proof.Machine.execCanTxabort e ix v s
  | .canRxsnap e ix v => Sys2Proof.Machine.execCanRxsnap e ix v s
  | .canRxFrame e ix f => Sys2Proof.Machine.execCanRxFrame e ix f s
  | .canTxSuccess e ix => Sys2Proof.Machine.execCanTxSuccess e ix s
  | .canTxError e ix => Sys2Proof.Machine.execCanTxError e ix s
  | .busOffRecovery e ix => Sys2Proof.Machine.execBusOffRecovery e ix s
  | .powerUp e => Sys2Proof.Machine.execPowerUp e s
  | .rampEnd e bootsel => Sys2Proof.Machine.execRampEnd e bootsel s
  | .pwrSeq e => Sys2Proof.Machine.execPwrSeq e s
  | .sequencerRetry e => Sys2Proof.Machine.execSequencerRetry e s
  | .pwrRailUv e r => Sys2Proof.Machine.execPwrRailUv e r s
  | .protectivePowerDown e cause => Sys2Proof.Machine.execProtectivePowerDown e cause s
  | .halfPowerDown e => Sys2Proof.Machine.execHalfPowerDown e s
  | .domainDown e => Sys2Proof.Machine.execDomainDown e s
  | .domainPowerUp e v => Sys2Proof.Machine.execDomainPowerUp e v s
  | .domainPowerDown e v => Sys2Proof.Machine.execDomainPowerDown e v s
  | .halfDown e v => Sys2Proof.Machine.execHalfDown e v s
  | .holdExpiry e => Sys2Proof.Machine.execHoldExpiry e s
  | .vselChange e sel => Sys2Proof.Machine.execVselChange e sel s
  | .pwrVcfg e v => Sys2Proof.Machine.execPwrVcfg e v s
  | .pwrVtab e ix v => Sys2Proof.Machine.execPwrVtab e ix v s
  | .slewEnd e => Sys2Proof.Machine.execSlewEnd e s
  | .fastLimit e p => Sys2Proof.Machine.execFastLimit e p s
  | .vcoreOverload e => Sys2Proof.Machine.execVcoreOverload e s
  | .vcorePhase e p => Sys2Proof.Machine.execVcorePhase e p s
  | .vcoreSense e meanDiff => Sys2Proof.Machine.execVcoreSense e meanDiff s
  | .overvoltage e => Sys2Proof.Machine.execOvervoltage e s
  | .sramScrub e row => Sys2Proof.Machine.execSramScrub e row s
  | .ddrScrub e rows => Sys2Proof.Machine.execDdrScrub e rows s
  | .sramUeRestart e => Sys2Proof.Machine.execSramUeRestart e s
  | .memScrubLate e ddr => Sys2Proof.Machine.execMemScrubLate e ddr s
  | .refresh e => Sys2Proof.Machine.execRefresh e s
  | .mr4Poll e mult => Sys2Proof.Machine.execMr4Poll e mult s
  | .bootComplete e f => Sys2Proof.Machine.execBootComplete e f s
  | .secOtpProg e v => Sys2Proof.Machine.execSecOtpProg e v s
  | .stageComplete e img => Sys2Proof.Machine.execStageComplete e img s
  | .trialTimeout e => Sys2Proof.Machine.execTrialTimeout e s
  | .pertArm e v => Sys2Proof.Machine.execPertArm e v s
  | .reset e => Sys2Proof.Machine.execReset e s
  | .resetRelease e bootsel => Sys2Proof.Machine.execResetRelease e bootsel s
  | .pciePerst e => Sys2Proof.Machine.execPciePerst e s
  | .extest e => Sys2Proof.Machine.execExtest e s
  | .samplePreload e balls => Sys2Proof.Machine.execSamplePreload e balls s
  | .idcode e => Sys2Proof.Machine.execIdcode e s
  | .clamp e => Sys2Proof.Machine.execClamp e s
  | .highz e => Sys2Proof.Machine.execHighz e s
  | .halt e => Sys2Proof.Machine.execHalt e s
  | .resume e bootsel => Sys2Proof.Machine.execResume e bootsel s
  | .bypass e => Sys2Proof.Machine.execBypass e s
  | .misaligned e x => Sys2Proof.Machine.execMisaligned e x s
  | .unmapped e x => Sys2Proof.Machine.execUnmapped e x s
  | .domainOff e x => Sys2Proof.Machine.execDomainOff e x s
  | .w1cClear e offset v => Sys2Proof.Machine.execW1cClear e offset v s
  | .counterClear e offset v => Sys2Proof.Machine.execCounterClear e offset v s
  | .registerWrite e offset v => Sys2Proof.Machine.execRegisterWrite e offset v s
  | .lullPowerUp e prefer => Sys2Proof.Machine.execLullPowerUp e prefer s
  | .lullReset e => Sys2Proof.Machine.execLullReset e s
  | .railPowerGood e r => Sys2Proof.Machine.execRailPowerGood e r s
  | .lullComparatorRelease e => Sys2Proof.Machine.execLullComparatorRelease e s
  | .pcieLinkUp e speed width => Sys2Proof.Machine.execPcieLinkUp e speed width s
  | .hiCqStall e q => Sys2Proof.Machine.execHiCqStall e q s
  | .canRxError e ix inc => Sys2Proof.Machine.execCanRxError e ix inc s
  | .protocolException e ix => Sys2Proof.Machine.execProtocolException e ix s
  | .commandEdge e n => Sys2Proof.Machine.execCommandEdge e n s
  | .fltDeassert e n => Sys2Proof.Machine.execFltDeassert e n s
  | .tetherMessageCrc e => Sys2Proof.Machine.execTetherMessageCrc e s
  | .svcFrameDropped e k => Sys2Proof.Machine.execSvcFrameDropped e k s
  | .ethFrameDiscard e p why => Sys2Proof.Machine.execEthFrameDiscard e p why s
  | .housekeepingSequenceRequest e => Sys2Proof.Machine.execHousekeepingSequenceRequest e s
  | .readDeliveryDone e recorder bad => Sys2Proof.Machine.execReadDeliveryDone e recorder bad s

end Sys2Proof.Machine
end

