-- ==== Sys2Proof/Machine/Flags.lean ====
section
/-! DEFINITION. Flags. The block has no arithmetic flags: its status bits are fields of registers and of the state, which
the operations that set them write. What stands here is GLB_STATE, the one word that gathers them (01_architecture.md). -/
namespace Sys2Proof.Machine

/-- GLB_STATE as the half shows it: DEV_STATE, ROLE, MV_STAGE, LV_STAGE and WRAPPED, each in the place that its table gives. -/
def glbState (h : Half) : Nat :=
  h.glb.dev.code + 2 ^ 4 * h.glb.role.code + 2 ^ 8 * h.glb.mv.code + 2 ^ 12 * h.glb.lv.code +
    2 ^ 16 * (if h.glb.wrapped then 1 else 0)

end Sys2Proof.Machine
end

