-- ==== Sys2Proof/Machine/RegRead.lean ====
section
/-! DEFINITION. What a read of every register returns (00_scope.md, R3, R4, R6, R7; the register tables of every chapter;
19_address_map.md, R525 to R529). A read has no command of its own but where it latches: these are functions of the state. -/
namespace Sys2Proof.Machine

/-- A word with fields (high bit, low bit, value) put into place. -/
def fields (w : Word) (l : List (Nat × Nat × Nat)) : Word := l.foldl (fun w x => wset w x.1 x.2.1 x.2.2) w

def nW (n : Nat) : Word := BitVec.ofNat 32 n

/-- A bit for each i below n that satisfies p, from bit `lo` up. -/
def bitField (n lo : Nat) (p : Nat → Bool) : Nat := ((List.range n).filter p).foldl (fun s i => s + 2 ^ (lo + i)) 0

/-! ### 01_architecture.md and 17_package.md -/

/-- The level of GPIO_xi: the driven level, or that of the board, which is free (R509, DESIGN CHOICE, log entry 54). -/
def gpioLevel (cx : Cx) (h : Half) (i : Nat) : Bool := (gpioDrive h i).getD (Config.ballLevel cx.me i cx.now)

def readGlb (cx : Cx) (h : Half) (off : Nat) : Word :=
  let g := h.glb
  if off = RG.GLB_HALF then fields 0 [(0, 0, cx.me.bit), (1, 1, b2n g.preferred), (2, 2, b2n (drivesBalls cx h))]
  else if off = RG.GLB_STATE then nW (glbState h)
  else if off = RG.GLB_TIMING then fields 0 [(14, 0, h.bn BK.CYCLE_TC_TICKS), (26, 16, g.ts)]
  else if off = RG.GLB_APPLY then
    fields 0 [(10, 0, g.ta), (26, 16, min 0x7FF g.need), (30, 27, g.worst), (31, 31, b2n g.budget)]
  else if off = RG.GLB_CYCLE_LO then nW g.cycle
  else if off = RG.GLB_CYCLE_HI then g.cycHi
  else if off = RG.GLB_GPIO_IN then nW (bitField 16 0 (gpioLevel cx h))
  else h.reg off

/-! ### 02_herd_link_physical.md and 03_herd_rings.md -/

/-- HR_NODEp: the position p of ring k. -/
def readNode (me : HalfId) (h : Half) (k p : Nat) : Word :=
  let n := h.node k p
  let ctx := boundAt h k p
  let st := match ctx with
    | some c => (h.cell c).st.code
    | none => if n.fwd then CellState.forwardOnly.code else CellState.absent.code
  fields 0 [(7, 0, ctx.getD 0xFF), (10, 8, st), (12, 12, b2n (reaches me (h.ring k) p && ringServes h k)),
    (13, 13, b2n (n.timeAck && !n.unlock)), (31, 16, n.model)]

/-- The window of ring k. -/
def readRing (cx : Cx) (h : Half) (k off : Nat) : Word :=
  let me := cx.me
  let r := h.ring k
  if off = RG.HL_STATUS k then
    fields 0 [(1, 0, r.lane.code), (5, 4, r.src), (15, 8, r.hops), (16, 16, b2n r.los), (17, 17, b2n r.otherSrc)]
  else if off = RG.HR_STATUS k then
    let x := reach me r
    fields 0 [(0, 0, b2n r.wrapped), (1, 1, b2n ((matureRings cx h).sd.ringFence.getLsbD k)), (6, 2, r.nslot), (12, 8, r.wrapA),
      (20, 16, r.wrapB), (28, 24, x.2 + 1 - x.1)]
  else if RG.HR_NODE k 0 ≤ off ∧ off < RG.HR_NODE k 16 then readNode me h k ((off - RG.HR_NODE k 0) / 4 + 1)
  else h.reg off

/-- The context table. -/
def readCtx (h : Half) (off : Nat) : Word :=
  let x := h.cell ((off - 0x1C000) / 8)
  if off % 8 = 0 then
    fields 0 [(3, 0, if x.bound then x.ring else 0), (8, 4, if x.bound then x.pos else 0), (18, 16, x.st.code),
      (24, 24, b2n x.missing), (31, 31, b2n x.bound)]
  else nW x.serial

/-! ### 04_analog_sampling.md -/

/-- GD_NS and SETTLE of a channel (R113). -/
def readGd (h : Half) (n : Nat) : Word :=
  let d := h.bn (BK.AN_CH_DECIM n)
  let t := h.bn (BK.AN_CH_ORDER n) * d * 50 + (if h.bf (BK.AN_CH_NOTCH_EN n) then 2 * d * 50 else 0)
  fields 0 [(15, 0, groupDelay h n), (31, 16, t / 10)]

def within10ms (now : Nat) (t : Option Nat) : Bool := (t.map fun a => decide (now ≤ a + tMs 10)).getD false

def readAn (cx : Cx) (h : Half) (off : Nat) : Word :=
  let a := (seqClock cx.now h).an
  if off = RG.AN_STATUS then fields 0 [(1, 0, a.calSet), (4, 4, b2n a.fallback), (5, 5, b2n a.otherOk)]
  else if off = RG.AN_SEQ_STAT then
    fields 0 [(0, 0, b2n (!a.seq.isEmpty)), (1, 1, b2n a.pend.isSome), (3, 2, a.pend.getD 0), (31, 16, min 0xFFFF a.dropped)]
  else if RG.AN_CH_WORD 0 ≤ off ∧ off < RG.AN_CH_WORD 24 then
    let c := h.anCh ((off - RG.AN_CH_WORD 0) / 4)
    fields 0 [(23, 0, enc 24 c.word), (29, 24, c.qual)]
  else if RG.AN_CH_OTHER 0 ≤ off ∧ off < RG.AN_CH_OTHER 24 then
    match (h.anCh ((off - RG.AN_CH_OTHER 0) / 4)).oword with
    | some w => fields 0 [(23, 0, enc 24 w), (31, 31, 1)]
    | none => 0
  else if RG.AN_CH_STAT 0 ≤ off ∧ off < RG.AN_CH_STAT 24 then
    let n := (off - RG.AN_CH_STAT 0) / 4
    let c := h.anCh n
    let own := h.sd.adcFence.getLsbD n
    let oth := h.sd.oadcFence.getLsbD n
    let (fa, fb) := if cx.me = .a then (own, oth) else (oth, own)
    fields 0 [(0, 0, b2n fa), (1, 1, b2n fb), (2, 2, b2n (within10ms cx.now c.stuckAt)), (3, 3, b2n (within10ms cx.now c.ovlAt)),
      (15, 8, c.pcount), (17, 16, c.dispute)]
  else if RG.AN_CH_GD 0 ≤ off ∧ off < RG.AN_CH_GD 24 then readGd h ((off - RG.AN_CH_GD 0) / 4)
  else if RG.AN_INT 0 ≤ off ∧ off < RG.AN_INT 8 then
    match vget a.ints ((off - RG.AN_INT 0) / 4) with
    | some v => fields 0 [(15, 0, enc 16 v), (31, 31, 1)]
    | none => 0
  else h.reg off

/-! ### 05_ox_pipeline.md (R189) and 06_loop_table.md (R213, R214) -/

/-- The residue count is DESIGN CHOICE, log entry 102. -/
def readOx (h : Half) (off : Nat) : Word :=
  let o := h.ox
  if off = RG.OX_STATUS then
    fields 0 [(1, 0, o.prePhase % 3), (4, 4, b2n o.abstain), (5, 5, b2n o.single),
      (13, 8, (cxs.filter fun c => (h.cell c).queued).length)]
  else if off = RG.OX_VCM then o.vcm
  else if 0x20020 ≤ off ∧ off < 0x20050 then
    let x := (off - 0x20020) / 16
    match off % 16 with
    | 0 => fields 0 [(5, 0, vget o.nins x), (13, 8, (inCluster h x fun c => c.standby).length), (31, 31, b2n (vget o.shortRun x))]
    | 4 => vget o.m x
    | 8 => vget o.w x
    | _ => vget o.vsum x
  else h.reg off

def readLt (h : Half) (off : Nat) : Word :=
  let b := h.glb.live
  if off = RG.LT_STATUS then fields 0 [(1, 0, h.lt.thr), (8, 8, b2n h.lt.overrun)]
  else if off = RG.LT_COST then
    let (c, r) := ltBankCost b
    fields 0 [(16, 0, min c 0x1FFFF), (23, 20, r)]
  else if off = RG.LT_BUDGET then fields 0 [(16, 0, ltBudget b)]
  else if RG.LT_SIG 0 ≤ off ∧ off < RG.LT_SIG 2048 then WMap.get zeroW h.lt.shown ((off - RG.LT_SIG 0) / 4)
  else if RG.LT_BLKST 0 ≤ off ∧ off < RG.LT_BLKST 512 then
    match h.lt.shownBlk.find? fun x => x.1 == (off - RG.LT_BLKST 0) / 4 with
    | some (_, x) => fields 0 [(0, 0, b2n x.ran), (15, 8, min 0xFF x.nf), (31, 16, (x.last % 65536).toNat)]
    | none => 0
  else h.reg off

/-! ### 07_lv_stage.md (R256) -/

/-- LV_PAIRn_STAT. -/
def readPair (h : Half) (n : Nat) : Word :=
  let p := pairOf h n
  let run := h.glb.lv == .run || h.glb.lv == .test
  fields 0 [(2, 0, p.force), (3, 3, b2n p.flt), (4, 4, b2n (tripHeld h n)), (5, 5, b2n (pairFenced h n)),
    (6, 6, b2n (heldSafe h n || p.waitEdge || (!run && p.force == 0))), (7, 7, b2n p.en), (15, 8, min 0xFF p.bsCount)]

def readLv (cx : Cx) (h : Half) (off : Nat) : Word :=
  let v := h.lv
  if off = RG.LV_STATUS then
    let whole := (List.range 16).any fun m => latched (tripOf h m) && h.bf (BK.LV_TRIP_WHOLE m)
    let whole := whole || !v.twoLeg.isEmpty
    fields 0 [(0, 0, b2n (brkWant cx.now (brkTake cx.now h))), (1, 1, b2n v.brkInhibit), (2, 2, b2n v.brkNosense), (3, 3, b2n v.clkSafe), (4, 4, b2n whole),
      (5, 5, b2n (h.glb.lv == .precharge && !v.preDone))]
  else if off = RG.LV_BRK_I2T then v.brkAcc
  else if off = RG.LV_FLT_ST then nW (bitField 12 0 (fun n => (pairOf h n).flt) + bitField 12 16 (fun n => (pairOf h n).fltIn))
  else if 0x40100 ≤ off ∧ off < 0x401C0 ∧ off % 16 = 0 then readPair h ((off - 0x40100) / 16)
  else if 0x40100 ≤ off ∧ off < 0x401C0 ∧ off % 16 = 4 then fields 0 [(19, 0, (pairOf h ((off - 0x40100) / 16)).c)]
  else if RG.LV_TRIP_ST 0 ≤ off ∧ off < RG.LV_TRIP_ST 16 then
    let n := (off - RG.LV_TRIP_ST 0) / 4
    let t := tripOf h n
    fields (h.reg off) [(0, 0, b2n t.softNow), (1, 1, b2n t.hardNow), (2, 2, b2n t.softLatch), (3, 3, b2n t.hardLatch),
      (4, 4, b2n (isBlanked cx.now h n)), (5, 5, b2n t.blanked)]
  else h.reg off

/-! ### 08_sheepdog_gust.md (R285) and 09_redundancy.md -/

/-- SD_SRCs: the count is stored; the rest is the source's own and the live bank's. -/
def readSrc (h : Half) (s : Nat) : Word :=
  fields (h.reg (RG.SD_SRC s)) [(18, 16, h.sev s), (22, 20, sevMin s), (25, 24, h.stages s), (26, 26, b2n (sharedSrc s))]

def readSd (h : Half) (off : Nat) : Word :=
  if off = RG.SD_STATUS then fields (h.reg off) [(15, 8, h.sd.gen), (25, 16, h.sd.queue.length)]
  else if RG.SD_FENCE_CELL 0 ≤ off ∧ off < RG.SD_FENCE_CELL 5 then
    WMap.get zeroW h.glb.snap (608 + (off - RG.SD_FENCE_CELL 0) / 4)
  else if RG.SD_SRC 0 ≤ off ∧ off < RG.SD_SRC 256 then readSrc h ((off - RG.SD_SRC 0) / 4)
  else h.reg off

/-- The TH registers: the lines as they are, the rest as of the last T0 (R318). -/
def readTh (cx : Cx) (h : Half) (off : Nat) : Word :=
  let (a, b) := if cx.me = .a then (h, cx.other) else (cx.other, h)
  let w := vget h.th.shown ((off - 0x58000) / 4)
  if off = RG.TH_STATUS then
    fields w [(12, 12, b2n (roleOn cx.now a.th)), (13, 13, b2n (roleOn cx.now b.th)), (14, 14, b2n a.th.fenced), (15, 15, b2n b.th.fenced)]
  else if off ≤ RG.TH_CNT_HB_MISS then w
  else h.reg off

/-! ### 10_host_interface.md -/

def readHi (h : Half) (off : Nat) : Word :=
  if off = RG.HI_STATUS then
    fields (h.reg off) [(2, 0, h.hi.speed), (5, 4, h.hi.width), (8, 8, b2n (canWrite h)), (9, 9, b2n h.hi.rbBusy),
      (26, 16, heldAhead h)]
  else if 0x60100 ≤ off ∧ off < 0x60400 then ringWord h off
  else h.reg off

/-! ### 11_clocks_timebase.md -/

/-- This half is ACTIVE, or its last offset to the ACTIVE half is within ±1 ns. -/
def aligned (h : Half) : Bool := h.glb.role == .active || decide (h.tb.offAlign.natAbs ≤ 65536 ∧ h.tb.alignAt.isSome)

/-- A number in tenths of a nanosecond from units of 2⁻¹⁶ ns, saturating to w bits. -/
def tenths (w : Nat) (x : Int) : Nat := enc w (clampI (divEven (10 * x) 65536) (-(2 ^ (w - 1))) (2 ^ (w - 1) - 1))

def readClk (cx : Cx) (h : Half) (off : Nat) : Word :=
  let t := h.tb
  if off = RG.CLK_STATUS then
    fields 0 [(0, 0, b2n (refPasses cx h)), (1, 1, b2n h.ck.ref10), (2, 2, b2n (Config.refin10m cx.me cx.now)),
      (13, 8, bitField 6 0 fun p => (pllOf h p).on && (pllOf h p).locked), (21, 16, bitField 6 0 fun p => (pllOf h p).fallback)]
  else if off = RG.TB_STATUS then
    fields 0 [(1, 0, t.st), (2, 2, b2n t.step.isSome), (3, 3, b2n t.fallback), (4, 4, b2n (aligned h))]
  else if off = RG.TB_NOW_LO then h.stamp.setWidth 32
  else if off = RG.TB_NOW_HI then t.hi
  else if off = RG.TB_SEC_HI then t.secHi
  else if off = RG.TB_ADJ then BitVec.ofInt 32 h.adj
  else if off = RG.TB_OFFSET then satNs t.theta
  else if off = RG.TB_ALIGN then
    fields 0 [(15, 0, tenths 16 t.offAlign), (31, 31, b2n ((t.alignAt.map fun a => decide (cx.now ≤ a + tUs 16)).getD false))]
  else h.reg off

/-! ### 12_station_network.md -/

def readPtp (h : Half) (off : Nat) : Word :=
  let m := selMaster h
  if off = RG.PTP_STATUS then
    fields 0 [(0, 0, b2n m.isSome), (1, 1, selPort h % 2 * b2n m.isSome),
      (3, 2, bitField 2 0 fun p => (portOf h p).pdValid), (6, 4, h.net.cause), (15, 8, (m.map (·.m.cls)).getD 0xFF)]
  else if off = RG.PTP_GM_LO then (m.map fun x => x.m.gm.setWidth 32).getD 0
  else if off = RG.PTP_GM_HI then h.net.gmHi
  else if off = RG.PTP_PD 0 ∨ off = RG.PTP_PD 1 then
    let p := (off - RG.PTP_PD 0) / 4
    fields 0 [(23, 0, (min 0xFFFFFF (10 * mld h p / 65536)).toNat), (31, 31, b2n (!(portOf h p).pds.isEmpty))]
  else if off = RG.PTP_FREQ then h.tb.y
  else if off = RG.PTP_UTC then
    match m with
    | some x => fields 0 [(15, 0, x.m.utc.toNat), (16, 16, b2n x.m.utcValid), (17, 17, b2n x.m.leap61), (18, 18, b2n x.m.leap59)]
    | none => 0
  else h.reg off

def readEth (me : HalfId) (h : Half) (off : Nat) : Word :=
  if off = RG.ETH_STATUS then
    fields 0 [(1, 0, bitField 2 0 fun p => (portOf h p).link), (5, 4, bitField 2 0 fun p => (portOf h p).spErr), (9, 8, ethMode h)]
  else if off = RG.ETH_MAC_LO 0 then nW (Config.mac me 0).toNat
  else if off = RG.ETH_MAC_LO 1 then nW (Config.mac me 1).toNat
  else if off = RG.ETH_MAC_HI 0 then nW ((Config.mac me 0).toNat / 2 ^ 32)
  else if off = RG.ETH_MAC_HI 1 then nW ((Config.mac me 1).toNat / 2 ^ 32)
  else if RG.PTP_STATUS ≤ off ∧ off < RG.PTP_CNT_SYNC then readPtp h off
  else h.reg off

def readSv (cx : Cx) (h : Half) (off : Nat) : Word :=
  if off = RG.SV_STATUS then
    let (run, test, sim) := svSets h
    fields 0 [(7, 0, run.toNat), (15, 8, test.toNat), (23, 16, sim.toNat), (25, 24, smpSynch cx.now h)]
  else if RG.SV_S 0 ≤ off ∧ off < RG.SV_S 8 then
    let i := (off - RG.SV_S 0) / 8
    let x := vget h.net.sv i
    if off % 8 = 0 then fields 0 [(15, 0, x.smpCnt), (31, 16, if (svEntries h.glb.live i).isEmpty then 0 else publishDelay h h.glb.live i)] else nW x.invalid.toNat
  else if off = RG.GO_STATUS then
    nW (bitField 16 0 (goAlive h) + bitField 16 16 fun b => (goOf h b).expired)
  else if RG.GO_C_ST 0 ≤ off ∧ off < RG.GO_C_ST 16 then
    let g := goOf h ((off - RG.GO_C_ST 0) / 8)
    if off % 8 = 0 then g.st else g.sq
  else if off = RG.GO_PTS_LO then h.net.points.setWidth 32
  else if off = RG.GO_PTS_HI then (h.net.points >>> 32).setWidth 32
  else h.reg off

/-! ### 13_can.md and 14_power.md -/

/-- STATE of CAN_STATUS: on the bus, a controller with a counter of 128 or more is error-passive. -/
def canState (h : Half) (i : Nat) : Nat :=
  let c := canOf h i
  if c.st = 1 then (if 128 ≤ c.tec ∨ 128 ≤ c.rec_ then 2 else 1) else c.st

def readCan (h : Half) (i off : Nat) : Word :=
  if off = RG.CAN_STATUS i then fields (h.reg off) [(1, 0, canState h i), (2, 2, b2n (canFenced h i))]
  else if off = RG.CAN_ERR i then fields 0 [(8, 0, (canOf h i).tec), (23, 16, min 0xFF (canOf h i).rec_)]
  else h.reg off

def readPwr (cx : Cx) (h : Half) (off : Nat) : Word :=
  let p := h.pw
  if off = RG.PWR_STATUS then
    fields (h.reg off) [(4, 0, p.up.toNat), (11, 8, p.grp.toNat), (12, 12, b2n (busy h || p.seqUp)), (17, 16, p.sel)]
  else if off = RG.PWR_REQ_STAT then
    -- a request that a whole-half power-down has discarded is held no longer
    if h.reg off = 2 ∧ p.heldUp = 0 ∧ p.heldDown = 0 then 0 else h.reg off
  else if off = RG.PWR_LAST then fields 0 [(3, 0, p.cause), (10, 8, p.causeDom)]
  else if off = RG.PWR_VCORE then
    fields 0 [(1, 0, vIndex h), (2, 2, b2n p.pend), (3, 3, b2n p.slewing), (4, 4, b2n p.localSense), (6, 5, p.phases.toNat),
      (25, 16, setNow cx.now h / 4)]
  else if off = RG.PWR_IMON then
    fields 0 [(15, 0, (Config.phaseCurrent cx.me 0 cx.now).toNat), (31, 16, (Config.phaseCurrent cx.me 1 cx.now).toNat)]
  else h.reg off

/-! ### 15_memory_recorder.md (R477) and 16_thermal_security_update.md -/

/-- Byte 2 of a record's header (R475). -/
def rcdFlags (me : HalfId) (r : Rcd) : Nat := ((recordBytes me [] r).getD 2 0).toNat

def readRcd (me : HalfId) (h : Half) (off : Nat) : Word :=
  let e := h.me
  if off = RG.RCD_STATUS then
    let st := if e.opened.isSome then 2 else if !e.armed then 0 else if freePages h = 0 then 3 else 1
    let num := (e.opened.map (·.num)).getD (if e.nextNum = 0 then (e.frozen.getLast?.map (·.num)).getD 0 else e.nextNum - 1)
    fields 0 [(1, 0, st), (7, 4, e.frozen.length), (8, 8, b2n (decide (16 ≤ e.frozen.length))), (31, 16, num)]
  else if off = RG.RCD_FREE then fields 0 [(17, 0, if ddrUp h then freePages h else 0)]
  else if off = RG.RCD_RATE then fields 0 [(15, 0, rcdRate (rcdBank h))]
  else if RG.RCD_CAT_NUM 0 ≤ off ∧ off < RG.RCD_CAT_NUM 16 then
    match e.frozen.find? fun r => r.slot == (off - RG.RCD_CAT_NUM 0) / 16 with
    | none => 0
    | some r => match off % 16 with
      | 0 => fields 0 [(15, 0, r.num)]
      | 4 => nW r.trig
      | 8 => nW (recordBytes me [] r).length
      | _ => fields 0 [(3, 0, rcdFlags me r), (31, 31, 1)]
  else h.reg off

def readMem (me : HalfId) (h : Half) (off : Nat) : Word :=
  if off = RG.MEM_STATUS then
    let m := h.me.refMult
    fields 0 [(1, 0, if m = 4 then 2 else m - 1), (2, 2, b2n (ddrUp h)), (23, 16, min 0xFF (sparesLeft h))]
  else readRcd me h off

def readTm (me : HalfId) (h : Half) (off : Nat) : Word :=
  let t := h.tm
  if off = RG.SEC_STATUS then
    fields 0 [(0, 0, b2n t.fwSlot), (1, 1, b2n t.cfgSlot), (2, 2, b2n (t.trialFw || t.trialCfg)), (3, 3, b2n t.fallback),
      (4, 4, b2n (ckeySet me h)), (5, 5, b2n t.presetSkip)]
  else if off = RG.SEC_SVN then
    fields 0 [(5, 0, t.fwSvn), (13, 8, otpSvn me h 0), (21, 16, t.cfgSvn), (29, 24, otpSvn me h 1)]
  else if off = RG.SEC_FWVER then t.fwVer
  else if off = RG.SEC_CFGVER then t.cfgVer
  else if RG.SEC_CKEY_HASH 0 ≤ off ∧ off < RG.SEC_CKEY_HASH 12 then
    if t.waitKey.isSome then h.reg off
    else
      let w := (off - RG.SEC_CKEY_HASH 0) / 4
      let bs := (leBytes 48 (keyHash me h 1).toNat).reverse
      nW (ofLe ((bs.drop (4 * w)).take 4))
  else if off = RG.UPD_STATUS then fields 0 [(2, 0, t.upd), (5, 4, t.updImage), (31, 16, t.updBlocks)]
  else if off = RG.UPD_NODE then fields 0 [(7, 0, t.fwDone.length), (23, 16, t.fwFailed.length)]
  else h.reg off

/-! ### A read -/

/-- The word that a read of a named register returns: stored fields as stored, RO fields as the hardware stands,
WO fields and reserved bits 0. -/
def regRead (cx : Cx) (h : Half) (off : Nat) : Word :=
  if off < 0x1000 then readGlb cx h off
  else if off < 0x2000 then readPwr cx h off
  else if off < 0x10000 then readClk cx h off
  else if off < 0x1C000 then readRing cx h ((off - 0x10000) / 0x1000) off
  else if off < 0x20000 then readCtx h off
  else if off < 0x30000 then readOx h off
  else if off < 0x40000 then readLt h off
  else if off < 0x48000 then readLv cx h off
  else if off < 0x50000 then readAn cx h off
  else if off < 0x58000 then readSd h off
  else if off < 0x60000 then readTh cx h off
  else if off < 0x70000 then readHi h off
  else if off < 0x78000 then readEth cx.me h off
  else if off < 0x80000 then readSv cx h off
  else if off < 0x90000 then readCan h ((off - 0x80000) / 0x8000) off
  else if off < 0xA0000 then readMem cx.me h off
  else if off < 0xF0000 then readTm cx.me h off
  else h.reg off

/-- What each doubleword of a read through half i's BARs returns at the present instant; of a 64-bit read of BAR4, the first.
none: a Completer Abort, or no endpoint (R3, R319, R526, R527, R529). -/
def State.read (s : State) (i : HalfId) (x : Access) : Option Word :=
  let h := s.half i
  let cx : Cx := { me := i, now := s.time, other := s.half i.other }
  if !coreUp h then none
  else if x.bar == 4 then some (if accAligned x || accAligned64 x then h.reg (accKey x) else 0)
  else if !accAligned x || (regRow (accKey x)).isNone then some 0
  else if x.bar == 0 && gated h (accDomain x.offset) then none
  else some (regRead cx h (accKey x))

end Sys2Proof.Machine
end

