-- ==== Sys2Proof/Machine/Event.lean ====
section
/-! DEFINITION. The half that a command comes to and its instant: the first operand of every constructor. -/
namespace Sys2Proof

/-- The half and the instant of a command. -/
def Instr.evt : Instr → Evt
  | .t0 e => e
  | .snapshotSend e => e
  | .slotMapDeadline e _ => e
  | .seal e => e
  | .disputeOpen e _ => e
  | .cellDabSat e _ => e
  | .cellIsenseDev e _ => e
  | .cellCapAgeing e _ _ => e
  | .oxPrechargeTimeout e => e
  | .dispatch e => e.toEvt
  | .passComplete e => e.toEvt
  | .commandTrain e => e
  | .applyInstant e => e
  | .collGo e _ => e
  | .collSlot e _ _ _ _ _ => e
  | .wrap e _ _ => e
  | .markerSend e _ => e
  | .marker e _ _ _ _ => e
  | .signalDetect e _ => e
  | .ctleSelect e _ _ => e
  | .blockLock e _ => e
  | .markerLoss e _ => e
  | .laneDown e _ _ _ => e
  | .dfeUpdate e _ _ _ => e
  | .readaptationEnd e _ => e
  | .berWindow e _ _ => e
  | .enumQuery e _ _ => e
  | .grant e _ _ => e
  | .timeSet e _ _ => e
  | .autoUnwrap e _ => e
  | .svcResend e _ _ => e
  | .enumReply e _ _ => e
  | .ack e _ _ => e
  | .wave e _ _ => e
  | .nodeEvent e _ _ => e
  | .nodeLost e _ _ => e
  | .bindingAbandoned e _ _ => e
  | .gustBlock e => e
  | .anWordsSend e _ _ => e
  | .anWord e _ _ _ => e
  | .anSeqTrig e _ => e
  | .anSeqPeriod e => e
  | .anConversion e _ => e
  | .thermSeqRequest e => e
  | .sensorTimeout e => e
  | .lullComparator e => e
  | .reload e _ => e
  | .forcePulseEnd e _ => e
  | .tripCrossing e _ _ _ => e
  | .blankEnd e _ => e
  | .tripLatch e _ _ => e
  | .tripRelease e _ _ => e
  | .fltLatch e _ => e.toEvt
  | .lvPrechargeComplete e => e
  | .lvPrechargeTimeout e => e
  | .eventRecordWrite e => e
  | .fenceEffect e _ => e
  | .sdClear e _ => e
  | .degMv e => e
  | .degLv e => e
  | .heartbeatSend e => e
  | .heartbeat e _ => e
  | .heartbeatLost e => e
  | .otherLost e => e
  | .roleLineDrop e => e
  | .roleConflict e => e
  | .fenceLine e => e
  | .ownershipGrant e => e
  | .noActiveHeartbeat e => e
  | .standbyEntry e => e
  | .snapshot e _ => e
  | .slotMap e _ _ => e
  | .slotRec e _ => e
  | .anWords e _ => e
  | .digest e _ _ _ => e
  | .digestDeadline e => e
  | .ganderBlind e => e
  | .selfCheck e _ _ => e
  | .activeSelfCheckFail e => e
  | .cmdReplica e _ _ _ _ => e
  | .replicaDescriptorRead e _ _ _ => e
  | .replicaAck e _ _ => e
  | .replicaResend e => e
  | .replicaTimeout e => e
  | .relay e _ => e
  | .stateXfer e _ _ _ => e
  | .timeAlignSend e => e
  | .timeAlign e _ _ _ _ _ => e
  | .tetherLane e _ => e
  | .revert e => e
  | .leave e _ => e
  | .leaveOff e => e
  | .restart e _ => e
  | .clrHist e _ => e
  | .crTail e _ _ => e
  | .cqHead e _ _ => e
  | .srTail e _ _ => e
  | .evHead e _ => e
  | .cmdNop e _ _ => e
  | .cmdSetReference e _ _ => e
  | .cmdWritePending e _ _ => e
  | .cmdCommit e _ _ => e
  | .cmdCellBypass e _ _ => e
  | .cmdCellRestore e _ _ => e
  | .cmdRingControl e _ _ => e
  | .cmdPwmForce e _ _ => e
  | .cmdRecorder e _ _ => e
  | .cmdSvControl e _ _ => e
  | .cmdTimeStepAuthorise e _ _ => e
  | .cmdRole e _ _ => e
  | .cmdUpdateStage e _ _ _ _ => e
  | .cmdUpdateActivate e _ _ => e
  | .cmdReadState e _ _ => e
  | .unknownOpcode e _ _ => e
  | .completionRecord e _ => e
  | .moderationEnd e _ => e
  | .streamWriteBack e _ _ => e
  | .flush e _ _ => e
  | .readBack e => e
  | .hiReadback e _ => e
  | .linkDown e _ => e
  | .hiDmaErr e _ _ => e
  | .ringSizeWrite e _ _ _ => e
  | .glbCycleLo e => e
  | .tbNowLo e => e
  | .ptpGmLo e => e
  | .crSeqLo e _ => e
  | .xtalGood e => e
  | .xtalFail e => e
  | .xtalRestart e => e
  | .clkRefFail e => e
  | .pllUnlock e _ => e
  | .pllLock e _ _ => e
  | .relock e _ _ => e
  | .clkGateTimeout e _ => e.toEvt
  | .ppsEdge e => e.toEvt
  | .ppsMiss e => e
  | .ethLink e _ _ _ => e
  | .sync e _ _ => e
  | .followUp e _ _ => e
  | .followUpTimeout e _ => e
  | .announce e _ _ => e
  | .announceTimeout e _ _ => e
  | .noOffsetTimeout e => e
  | .pdelayReqSend e _ => e
  | .pdelayReq e _ _ _ => e
  | .pdelayResp e _ _ _ _ _ => e
  | .pdelayRespFollowUp e _ _ _ _ => e
  | .forward e _ _ => e
  | .svFrame e _ => e
  | .goose e _ _ => e
  | .gooseExpiry e _ => e
  | .prpSupervision e _ _ _ => e
  | .prpSupervisionSend e => e
  | .prpLan e _ => e
  | .nodeTableAgeing e _ => e
  | .initSet e _ => e
  | .initRelease e _ => e
  | .busIntegration e _ => e
  | .canTxreq e _ _ => e
  | .canTxabort e _ _ => e
  | .canRxsnap e _ _ => e
  | .canRxFrame e _ _ => e
  | .canTxSuccess e _ => e
  | .canTxError e _ => e.toEvt
  | .busOffRecovery e _ => e
  | .powerUp e => e
  | .rampEnd e _ => e
  | .pwrSeq e => e
  | .sequencerRetry e => e
  | .pwrRailUv e _ => e.toEvt
  | .protectivePowerDown e _ => e
  | .halfPowerDown e => e
  | .domainDown e => e
  | .domainPowerUp e _ => e
  | .domainPowerDown e _ => e
  | .halfDown e _ => e
  | .holdExpiry e => e
  | .vselChange e _ => e
  | .pwrVcfg e _ => e
  | .pwrVtab e _ _ => e
  | .slewEnd e => e
  | .fastLimit e _ => e.toEvt
  | .vcoreOverload e => e.toEvt
  | .vcorePhase e _ => e.toEvt
  | .vcoreSense e _ => e.toEvt
  | .overvoltage e => e.toEvt
  | .sramScrub e _ => e
  | .ddrScrub e _ => e
  | .sramUeRestart e => e
  | .memScrubLate e _ => e
  | .refresh e => e
  | .mr4Poll e _ => e
  | .bootComplete e _ => e
  | .secOtpProg e _ => e
  | .stageComplete e _ => e
  | .trialTimeout e => e
  | .pertArm e _ => e
  | .reset e => e
  | .resetRelease e _ => e
  | .pciePerst e => e
  | .extest e => e
  | .samplePreload e _ => e
  | .idcode e => e
  | .clamp e => e
  | .highz e => e
  | .halt e => e
  | .resume e _ => e
  | .bypass e => e
  | .misaligned e _ => e
  | .unmapped e _ => e
  | .domainOff e _ => e
  | .w1cClear e _ _ => e
  | .counterClear e _ _ => e
  | .registerWrite e _ _ => e
  | .lullPowerUp e _ => e
  | .lullReset e => e
  | .railPowerGood e _ => e.toEvt
  | .lullComparatorRelease e => e
  | .pcieLinkUp e _ _ => e
  | .hiCqStall e _ => e
  | .canRxError e _ _ => e
  | .protocolException e _ => e
  | .commandEdge e _ => e
  | .fltDeassert e _ => e.toEvt
  | .tetherMessageCrc e => e
  | .svcFrameDropped e _ => e
  | .ethFrameDiscard e _ _ => e
  | .housekeepingSequenceRequest e => e
  | .readDeliveryDone e _ _ => e

end Sys2Proof
end

