-- ==== Sys2Proof/Safety.lean ====
section
/-! DEFINITION. What a safe state of the package is: who may drive the shared balls, and which roles, device states and
lines go together (01_architecture.md, R8, R29 to R31; 09_redundancy.md, R291 to R293; 13_can.md, R413). -/
namespace Sys2Proof.Machine

/-- Only the ACTIVE half drives the shared balls, and never while the fence line on it is asserted or a protective power-down
is under way (R8, R293, R442). -/
def Half.ownSafe (h : Half) : Bool := !h.glb.own || (h.glb.role == .active && !h.th.fenced && !h.protecting)

/-- The ROLE line is asserted while the role is ACTIVE, the fence line on the half is not and no protective power-down is
under way, and at no other time (R291, R293, R442). -/
def Half.lineSafe (h : Half) : Bool := h.th.roleLine == (h.glb.role == .active && !h.th.fenced && !h.protecting)

/-- A half outside CONFIGURED, READY and RUNNING is OFF (R31). -/
def Half.roleSafe (h : Half) : Bool := h.glb.dev.inService || h.glb.role == .off

/-- READY has its conditions and both stages STOPPED; RUNNING has a stage out of STOPPED (R29). -/
def Half.devSafe (h : Half) : Bool :=
  match h.glb.dev with
  | .ready => readyOk h && h.glb.mv == .stopped && h.glb.lv == .stopped
  | .running => h.glb.mv != .stopped || h.glb.lv != .stopped
  | _ => true

/-- A half in SAFE, or FENCED, has both CAN controllers off the bus (R413). -/
def Half.canSafe (h : Half) : Bool :=
  !(h.glb.dev == .safe || h.glb.role == .fenced) || ((canOf h 0).st == 0 && (canOf h 1).st == 0)

/-- The frame that a CAN controller sends is that of one of its 128 message objects (R421). -/
def Half.txSafe (h : Half) : Bool := h.can.all fun c => c.tx.all (decide <| · < 128)

/-- No trigger of the recorder is left over from a command (R470, R471). -/
def Half.trigSafe (h : Half) : Bool := h.me.trig.isEmpty

/-- What holds of each half by itself. -/
def Half.safe (h : Half) : Bool :=
  h.ownSafe && h.lineSafe && h.roleSafe && h.devSafe && h.canSafe && h.txSafe && h.trigSafe

/-- The invariant of the package: each half is safe, and the two never drive the balls together (R8, R292). -/
def State.safe (s : State) : Bool := s.a.safe && s.b.safe && !(s.a.glb.own && s.b.glb.own)

/-! ### What a command does and what it leaves alone

The statements say of a command: it completes, what its own half then holds, and which parts of that half may have
changed. A part that is not named is as it was after time passed, but for the standing conditions that hold after every
command: the device state and the role follow R29 and R31, with TH_LAST_HO.CYCLE, the pads R8, the ROLE line R291, a CAN controller R413, a
supply target that waits R446, and the recorder's triggers R470 and R471. -/

/-- The parts of a half. `role` is the device state, the role and the pads; `glb` the rest of the global block. -/
inductive Part where
  | role | glb | sd | hi | rings | svc | cells | an | ox | lt | lv | th | xf | tb | ck | net | can | pw | me | tm | pk | acc | regs | out
  deriving DecidableEq, Repr

/-- The part is the same in two halves. -/
def Part.eq (h h' : Half) : Part → Prop
  | .role => h'.glb.dev = h.glb.dev ∧ h'.glb.role = h.glb.role ∧ h'.glb.own = h.glb.own
  | .glb => h'.glb = { h.glb with dev := h'.glb.dev, role := h'.glb.role, own := h'.glb.own }
  | .sd => h'.sd = h.sd
  | .hi => h'.hi = h.hi
  | .rings => h'.rings = h.rings
  | .svc => h'.svc = h.svc
  | .cells => h'.cells = h.cells
  | .an => h'.an = h.an
  | .ox => h'.ox = h.ox
  | .lt => h'.lt = h.lt
  | .lv => h'.lv = h.lv
  | .th => h'.th = h.th
  | .xf => h'.xf = h.xf
  | .tb => h'.tb = h.tb
  | .ck => h'.ck = h.ck
  | .net => h'.net = h.net
  | .can => h'.can = h.can
  | .pw => h'.pw = h.pw
  | .me => h'.me = h.me
  | .tm => h'.tm = h.tm
  | .pk => h'.pk = h.pk
  | .acc => h'.acc = h.acc
  | .regs => h'.regs = h.regs
  | .out => h'.out = h.out

/-- The part is the same but for the standing conditions. -/
def Part.same (h h' : Half) : Part → Prop
  | .role => h'.glb.role = settleRole h'.glb.dev h.glb.role ∧ h'.glb.dev.inService = h.glb.dev.inService ∧
      (h.glb.dev.inService = false → h'.glb.dev = h.glb.dev) ∧ (h'.glb.own = true → h.glb.own = true)
  | .th => h'.th = { h.th with
      roleLine := h'.th.roleLine, roleLow := h'.th.roleLow, roleHigh := h'.th.roleHigh
      lastCycle := h'.th.lastCycle }
  | .can => h'.can = h.can.map (settleCan h'.glb.dev h'.glb.role)
  | .pw => h.pw.pend = false → h'.pw = h.pw
  | .me => h.me.trig = [] → h'.me = h.me
  | .out => h.me.trig = [] → h'.out = h.out
  | p => p.eq h h'

/-- Every part but those named is the same. -/
def Framed (ps : List Part) (h h' : Half) : Prop := ∀ p, p ∉ ps → p.same h h'

/-- Every register but those named holds what it held. -/
def OnlyRegs (os : List Nat) (h h' : Half) : Prop := ∀ o, o ∉ os → h'.reg o = h.reg o

/-- What the reaction to an event source may touch besides its counters (R257 to R274). -/
def reaction : List Part := [.role, .sd, .th, .me, .cells, .out, .regs]

/-- Source n has been raised: its count has grown by one, saturating (R264). -/
def Raised (n : Nat) (h h' : Half) : Prop :=
  h'.reg (RG.SD_SRC n) = wset (h.reg (RG.SD_SRC n)) 15 0 (min 0xFFFF (h.getF (RG.SD_SRC n) 15 0 + 1))

/-- A raise of source s, and the report of dropped records that may follow it (R266), take none of the reactions from level l
on. -/
def Half.below (l : Nat) (h : Half) (s : Nat) : Bool := decide (h.sev s < l ∧ (h.sd.drops = 0 ∨ h.sev 0xFD < 4))

/-- Source s has been raised k times between two halves (R264). -/
def RaisedTimes (k s : Nat) (h h' : Half) : Prop :=
  h'.getF (RG.SD_SRC s) 15 0 = min 0xFFFF (h.getF (RG.SD_SRC s) 15 0 + k)

/-- Every ring but ring k is as it was. -/
def OnlyRing (k : Nat) (h h' : Half) : Prop := ∀ j, j ≠ k → h'.ring j = h.ring j

/-- Item x is sent between two halves: what the later one has sent is what the earlier had, and x among what is new. -/
def Sent (x : Out) (h h' : Half) : Prop := ∃ l, h'.out = l ++ h.out ∧ x ∈ l

/-- Message m is sent on the Tether between two halves, later by what PERT_TETHER adds (R495). -/
def Told (now : Nat) (m : TMsg) (h h' : Half) : Prop := Sent (.tether (now + h.tetherPert m) m) h h'

/-- One more event in a saturating counter. -/
def Counted (o : Nat) (h h' : Half) : Prop := h'.reg o = sat32 (h.reg o) 1

/-- Command i completes in state s, and P holds of the half it came to. -/
def Does (i : Instr) (s : State) (P : Half → Prop) : Prop := ∃ t, exec i s = .next t ∧ P (t.half i.evt.half)

/-- The frame of command i: from every state, its half changes in the parts `ps` at most. -/
def KeepsParts (i : Instr) (ps : List Part) : Prop :=
  ∀ s t, exec i s = .next t → Framed ps (s.at i.evt) (t.half i.evt.half)

/-- The frame of command i with its registers: from every state, its half changes in the parts `ps` at most, and of the
registers in `os` at most. -/
def Keeps (i : Instr) (ps : List Part) (os : List Nat) : Prop :=
  ∀ s t, exec i s = .next t →
    Framed ps (s.at i.evt) (t.half i.evt.half) ∧ OnlyRegs os (s.at i.evt) (t.half i.evt.half)

/-- The frame of a command that may raise the sources `ns`: their reaction, and the counters of the sources and of a full
queue, are in it too. -/
def KeepsR (i : Instr) (ps : List Part) (os ns : List Nat) : Prop :=
  Keeps i (ps ++ reaction) (os ++ ns.map RG.SD_SRC ++ [RG.SD_SRC 0xFE, RG.SD_SRC 0xFD, RG.SD_CNT_DROP])

/-- The registers of both halves are held in their one form: offsets rising, and no word that is its Reset value. -/
def State.regsOk (s : State) : Bool := WMap.wf regDefault s.a.regs && WMap.wf regDefault s.b.regs

/-- Commands that act on a half whether it runs or not: markers, supplies, clocks, comparators, latches, lines, balls and the TAP. -/
def always : Instr → Bool
  | .lullComparator _ | .tripCrossing _ _ _ _ | .blankEnd _ _ | .tripLatch _ _ _ | .tripRelease _ _ _ | .fltLatch _ _
  | .markerSend _ _ | .fenceLine _ | .stateXfer _ _ _ _ | .tetherLane _ _ | .linkDown _ _ | .xtalGood _ | .xtalFail _ | .xtalRestart _
  | .clkRefFail _ | .pllUnlock _ _ | .pllLock _ _ _ | .powerUp _ | .rampEnd _ _ | .pwrSeq _ | .sequencerRetry _
  | .pwrRailUv _ _ | .protectivePowerDown _ _ | .halfPowerDown _ | .domainDown _ | .holdExpiry _ | .vselChange _ _
  | .slewEnd _ | .fastLimit _ _ | .vcoreOverload _ | .vcorePhase _ _ | .vcoreSense _ _
  | .overvoltage _ | .reset _
  | .resetRelease _ _ | .pciePerst _ | .extest _ | .samplePreload _ _ | .idcode _ | .clamp _ | .highz _ | .halt _
  | .resume _ _ | .bypass _ | .lullPowerUp _ _ | .lullReset _ | .railPowerGood _ _ | .lullComparatorRelease _
  | .pcieLinkUp _ _ _ | .fltDeassert _ _ => true
  | _ => false

/-- The frame of a CAN command, from every state in which what a controller sends is one of its objects. -/
def KeepsCan (i : Instr) (ps : List Part) (os ns : List Nat) : Prop :=
  ∀ s t, (s.at i.evt).txSafe = true → exec i s = .next t →
    Framed (ps ++ reaction) (s.at i.evt) (t.half i.evt.half) ∧
    OnlyRegs (os ++ ns.map RG.SD_SRC ++ [RG.SD_SRC 0xFE, RG.SD_SRC 0xFD, RG.SD_CNT_DROP]) (s.at i.evt) (t.half i.evt.half)

/-- Registers of BAR0 whose writes have rules of their own; a write to any other register is a plain one (R4, R5). -/
def ownRule (off : Nat) : Bool :=
  off == RG.SEC_OTP_PROG || off == RG.GLB_ACC_ERR || off == RG.PWR_REQ || off == RG.PWR_VCFG ||
  decide (0x1010 ≤ off ∧ off < 0x1020) || decide (0x2040 ≤ off ∧ off < 0x2070 ∧ off % 8 = 0) ||
  decide (0x10000 ≤ off ∧ off < 0x1C000 ∧ (off % 0x1000 = 0 ∨ off % 0x1000 = 4)) || off == RG.AN_SEQ_CFG || off == RG.AN_SEQ_TRIG || off == RG.SD_CLEAR ||
  off == RG.TH_CTRL || decide (0x60100 ≤ off ∧ off < 0x60400) || decide (0x80000 ≤ off ∧ off < 0x90000) ||
  off == RG.THERM_BAND || decide (0xA0140 ≤ off ∧ off < 0xA0170) || off == RG.PERT_CTRL

/-- What command i does with descriptor d, the opcode of its row in place, when it is fetched from ring r (R328 to R336):
it is judged, the ring moves on, and a read begins or the verdict is noted; an accepted one is held for its cycle. -/
def Judges (i : Instr) (r : Nat) (d : Desc) (s : State) : Prop :=
  let h := s.at i.evt
  let v := judge i.evt.half h r d
  Does i s fun t => (crOf t r).cons = ((crOf h r).cons + 1) % two32 ∧ t.hi.lastRing = r ∧
    (v.status = 0 → t.hi.reading = some (r, d) ∨ t.hi.readingRec = some (r, d)) ∧
    (v.status ≠ 0 → Counted RG.HI_CNT_JUDGED h t) ∧
    (v.status = 1 → t.hi.held = h.hi.held ++ [⟨r, v.cycle, asAdmitted d r 1 v.cycle⟩] ∧
      (crOf t r).next = (crOf h r).next + 1 ∧ (crOf t r).lastCycle = v.cycle) ∧
    (3 ≤ v.status → v.status ≠ 8 → Counted RG.HI_CNT_REJECT h t ∧ t.hi.held = h.hi.held) ∧
    (v.status = 8 → Counted RG.HI_CNT_DUP h t ∧ t.hi.held = h.hi.held)

end Sys2Proof.Machine
end

