-- ==== Sys2Proof/Certificates/Slice0/Obligations.lean ====
section
/-! DEFINITION. The statements about the model. -/
open Sys2Proof Sys2Proof.Machine

/-- The lane states (R46, R49, R66): signal and its detection, the choice of the CTLE setting, block lock, the loss of the
markers, and a lane that goes down.
Where the rules leave a point open it is the model's choice: log entry 4. -/
def Obligations.LaneStatesMove : Prop := ∀ (s : State) (e : Evt) (k : RingNo), (s.at e).runs = true →
  let h := s.at e
  (laneOn h = true → (h.ring k).lane = .down → Does (.signalDetect e k) s fun t =>
    (t.ring k).lane = .signal ∧ (t.ring k).los = false) ∧
  (∀ eyes, (h.ring k).lane = .signal → eyes.length = 16 →
    ((h.ring k).ctleDone = false → Does (.ctleSelect e k eyes) s fun t =>
      (t.ring k).ctleDone = true ∧ (t.ring k).lane = .signal ∧
      t.reg (RG.HL_EQ k) = wset (h.reg (RG.HL_EQ k)) 3 0 (argmax eyes)) ∧
    ((h.ring k).ctleDone = true → Does (.ctleSelect e k eyes) s fun t =>
      t.reg (RG.HL_EQ k) = h.reg (RG.HL_EQ k) ∧ t.reg (RG.HL_EQ2 k) = h.reg (RG.HL_EQ2 k))) ∧
  ((h.ring k).lane = .signal → (h.ring k).ctleDone = true → Does (.blockLock e k) s fun t => (t.ring k).lane = .block) ∧
  ((h.ring k).lane = .up → (h.ring k).mkAt + tTenth (4 * 1048576) ≤ max s.time e.time →
    Does (.markerLoss e k) s fun t => (t.ring k).lane = .block) ∧
  (∀ los bad, (h.ring k).lane ≠ .down → los = true ∨ 4 ≤ bad → Does (.laneDown e k los bad) s fun t =>
    (t.ring k).lane = .down ∧ (t.ring k).los = los ∧
    ((h.ring k).lane = .block ∨ (h.ring k).lane = .up → Raised k h t ∧
      t.reg (RG.HL_CNT_DOWN k) = sat32 (h.reg (RG.HL_CNT_DOWN k)) 1))

/-- What a received or measured thing does on a lane (R47, R48, R54, R65): the taps move, a window of block headers ends,
a fast re-adaptation ends, a bad marker is counted, and a marker that follows the last one locks the lane.
Where the rules leave a point open it is the model's choice: log entries 4, 10, 73, 99, 105 and 112. -/
def Obligations.LaneMeasures : Prop := ∀ (s : State) (e : Evt) (k : RingNo), (s.at e).runs = true →
  let h := s.at e
  (∀ err ds, (h.ring k).lane = .block ∨ (h.ring k).lane = .up → h.getF (RG.HL_CTRL k) 8 8 = 0 →
    Does (.dfeUpdate e k err ds) s fun t =>
      t.getF (RG.HL_EQ k) 14 8 =
        enc 7 (clampI (sgn 7 (h.getF (RG.HL_EQ k) 14 8) + err.sign * (ds.getD 0 0).sign) (-64) 63)) ∧
  (∀ t0, (h.ring k).readapt = some t0 → t0 ≤ max s.time e.time → Does (.readaptationEnd e k) s fun t =>
    (t.ring k).readapt = none) ∧
  (∀ inv, Does (.berWindow e k inv) s fun t =>
    (t.ring k).shWin = 0 ∧ t.reg (RG.HL_CNT_SH k) = sat32 (h.reg (RG.HL_CNT_SH k)) (inv - (h.ring k).shWin) ∧
    (2 ^ 30 * 66 < inv * 10 ^ max 6 (h.getF (RG.HL_CFG k) 19 16) → Raised 0x0D h t)) ∧
  (∀ m0 m1 fo, laneOn h = true → (h.ring k).lane = .block ∨ (h.ring k).lane = .up → blockError m0 = false → markerOk k m0 m1 fo = false →
    Does (.marker e k m0 m1 fo) s fun t =>
      t.reg (RG.HL_CNT_MKR k) = sat32 (h.reg (RG.HL_CNT_MKR k)) 1 ∧ (t.ring k).lane = (h.ring k).lane ∧
      (bits m0 7 0 = 0x4B → bits m0 11 8 ≠ k → Raised 0x0C h t)) ∧
  (∀ m0 m1 fo l, laneOn h = true → (h.ring k).lane = .block → markerOk k m0 m1 fo = true → (h.ring k).lastM = some l →
    (l + 1) % 2 ^ 24 = bits m0 47 24 → bits m0 12 12 ≠ e.half.bit → Does (.marker e k m0 m1 fo) s fun t =>
      (t.ring k).lane = .up ∧ (t.ring k).lastM = some (bits m0 47 24) ∧ (t.ring k).otherSrc = true ∧
      (t.ring k).loop = none ∧ t.reg (RG.HL_LOOP k) = 0) ∧
  (∀ m, laneOn h = true → h.glb.dev ≠ .lullOnly → m = (vget h.svc k).mcount →
    m * 2 ^ 20 ≤ sinceEpoch (max s.time e.time) h → inWindow (max s.time e.time) (tTenth 128) h = false →
    Does (.markerSend e k) s fun t =>
      let n := max m (sinceEpoch (max s.time e.time) h / 2 ^ 20)
      (vget t.svc k).mcount = n + 1 ∧
      Sent (.ring (max s.time e.time) k (markerBlocks e.half k n (sinceEpoch (max s.time e.time) h - n * 2 ^ 20).toNat)) h t)

/-- The trains of a cycle (R45, R74, R76, R78, R101, R144): the collection train, sent where one is due; the command train; a
slot, accepted, counted for an error or as late, or given twice, with the map at the end of its train; and a WRAP block. In every
state and for every block each of the four completes.
Where the rules leave a point open it is the model's choice: log entries 4, 114, 115 and 123. -/
def Obligations.TrainsRun : Prop := ∀ (s : State) (e : Evt) (k : RingNo), (s.at e).runs = true →
  let h := s.at e
  let now := max s.time e.time
  let m := matureRings (s.cx e) h
  let go := h.glb.dev.inService && collects h && ringServes m k && collDue (s.cx e) m k
  let due := h.glb.t0 + tNs (h.glb.ts + 200 + wrapNs h.glb)
  let hears := laneOn h && ((h.ring k).lane == .block || (h.ring k).lane == .up)
  let runs := h.glb.dev.inService && h.glb.started
  (go = false → Does (.collGo e k) s fun t => (t.ring k).nslot = (h.ring k).nslot ∧ (t.ring k).goCycle = (h.ring k).goCycle) ∧
  (go = true → Does (.collGo e k) s fun t => (t.ring k).nslot = nslotOf m k ∧
    (nslotOf m k = 0 → (t.ring k).goCycle = (h.ring k).goCycle) ∧
    (nslotOf m k ≠ 0 → (t.ring k).goCycle = some (trainCycle h) ∧
      Sent (.ring now k (collTrain e.half (nslotOf m k) (trainCycle h))) h t)) ∧
  (h.glb.dev.inService = false ∨ h.glb.dispAt = none ∨ now < due ∨ sendsTrains h = false ∨ h.glb.trained = true →
    Does (.commandTrain e) s fun t => t.glb.trained = h.glb.trained) ∧
  (h.glb.dev.inService = true → h.glb.dispAt.isSome = true → due ≤ now → sendsTrains h = true → h.glb.trained = false →
    Does (.commandTrain e) s fun t => t.glb.trained = true ∧
      (h.below 4 0x1B = true ∨ (due = now ∧ ∀ j < 12, trainPert h j = 0) →
        ringServes m k = true → ringFree now m k = true → trainCells e.half m k ≠ [] →
        Sent (.ring (now + trainPert h k) k ((trainCells e.half m k).flatMap fun x =>
          cmdSlot e.half (h.glb.role == .active) x.1 h.glb.cycle h.glb.ta (h.cell x.2).cmd)) h t)) ∧
  (∀ ctl data follows tail, let r := slotFields k ctl data
    let room : Prop := bits ctl 7 0 = 0x36 ∨ bits ctl 7 0 = 0x2D
    let sound : Prop := bits ctl 7 0 = 0x55 ∧ follows = true ∧ crcField data = crc16Pair ctl data ∧
      slotPosOk h k (r.pos.val + 1) = true ∧ bits ctl 27 16 = h.glb.cycle % 4096
    (hears = false ∨ (blockError ctl = false ∧ runs = false) → Does (.collSlot e k ctl data follows tail) s fun t =>
      t.rings = h.rings) ∧
    (hears = true → blockError ctl = true → Does (.collSlot e k ctl data follows tail) s fun t =>
      Counted (RG.HL_CNT_BLK k) h t ∧ t.rings = h.rings) ∧
    (hears = true → blockError ctl = false → runs = true → Does (.collSlot e k ctl data follows tail) s fun t =>
      (t.ring k).inRun = !tail ∧
      (room → (t.ring k).slots = (h.ring k).slots) ∧
      (¬room → ¬sound → Counted (RG.HR_CNT_SLOT_CRC k) h t ∧ (t.ring k).slots = (h.ring k).slots) ∧
      (sound → h.glb.t0 + tNs (h.glb.ts - 20) < now →
        Counted (RG.HR_CNT_SLOT_LATE k) h t ∧ (t.ring k).slots = (h.ring k).slots) ∧
      (sound → now ≤ h.glb.t0 + tNs (h.glb.ts - 20) → hasSlot (h.ring k).slots (r.pos.val + 1) = true →
        (t.ring k).slots = (h.ring k).slots) ∧
      (sound → now ≤ h.glb.t0 + tNs (h.glb.ts - 20) → hasSlot (h.ring k).slots (r.pos.val + 1) = false →
        (t.ring k).slots = (h.ring k).slots ++ [r]) ∧
      (room ∨ sound → (t.ring k).trains = (h.ring k).trains + b2n (tail && gathering h)))) ∧
  (∀ blk, let pos := bits blk 12 8
    let sound : Prop := bits blk 7 0 = 0xAA ∧ crcField blk = crc16Single blk
    (hears = false → Does (.wrap e k blk) s fun t => t.rings = h.rings) ∧
    (hears = true → ¬sound → Does (.wrap e k blk) s fun t => t.rings = h.rings ∧
      (blockError blk = true → Counted (RG.HL_CNT_BLK k) h t)) ∧
    (hears = true → sound → Does (.wrap e k blk) s fun t =>
      Counted (RG.HR_CNT_WRAP k) h t ∧ (h.th.lanesTx ≠ 0 → Told now (.relay (.wrap k pos (blk.getLsbD 13))) h t) ∧
      (t.ring k).inRun = false ∧
      (t.ring k).trains = (h.ring k).trains + b2n ((h.ring k).inRun && gathering h) ∧
      (blk.getLsbD 13 = false → (t.ring k).nextA = max (h.ring k).nextA pos ∧ (t.ring k).nextB = (h.ring k).nextB) ∧
      (blk.getLsbD 13 = true → (t.ring k).nextA = (h.ring k).nextA ∧
        (t.ring k).nextB = if (h.ring k).nextB = 0 then pos else min (h.ring k).nextB pos)))

/-- The service frames that a half sends (R85 to R89, R94, R105): a probe, a container, a schedule, an unwrap, a resend and
its end, and a frame that is dropped.
Where the rules leave a point open it is the model's choice: log entries 4 and 82. -/
def Obligations.ServiceFramesGo : Prop := ∀ (s : State) (e : Evt) (k : RingNo) (p : PosNo), (s.at e).runs = true →
  let h := s.at e
  let now := max s.time e.time
  let q := p.val + 1
  let v := vget h.svc k
  (h.th.fenced = true → probeDue now h k q = true → Does (.enumQuery e k p) s fun t => vget t.svc k = v) ∧
  (h.th.fenced = false → probeDue now h k q = true → svcFree now 0 h = true → Does (.enumQuery e k p) s fun t =>
    Sent (.svc (svcStart now k 0 h) k (svcFrame e.half q 0x01 v.seq false [])) h t ∧
    (vget t.svc k).seq = (v.seq + 1) % 65536 ∧
    (vget t.svc k).wait = v.wait ++ [⟨q, v.seq, 0x01, [], svcStart now k 0 h, 0⟩]) ∧
  (h.th.fenced = false → onRings h = true → h.bf (BK.HERD_RING_EN k) = true → svcFree now 32 h = true →
    (boundAt h k q).isSome = true ∨ (h.node k q).binding.isSome = true ∨ (h.node k q).fwd = true ∨ waiting h k q 0x01 = true →
    Does (.grant e k p) s fun t =>
      Sent (.svc (svcStart now k 32 h) k (svcFrame e.half q 0x00 v.seq true (List.replicate 32 0))) h t ∧
      (t.node k q).grantAt = now) ∧
  (h.th.fenced = false → onRings h = true → reaches e.half (h.ring k) q = true → timeSetDue e.half now h k q = true →
    svcFree now 3 h = true → svcStart now k 3 h = now → waiting h k q 0x03 = false → Does (.timeSet e k p) s fun t =>
      (h.tb.step = none → (h.node k q).tsNow = false → (t.node k q).tsDue = false) ∧
      (t.node k q).tsAt = now ∧ (vget t.svc k).seq = (v.seq + 1) % 65536 ∧
      ∃ data, data.length = 3 ∧ Sent (.svc now k (svcFrame e.half q 0x03 v.seq false data)) h t) ∧
  (h.glb.role = .active → (h.ring k).wrapped = true → h.getF (RG.HR_CTRL k) 0 0 = 1 → q ∈ wrappers (h.ring k) →
    (wrappers (h.ring k)).all (sideUpFor now (tMs 10) h k) = true → waiting h k q 0x06 = false →
    Does (.autoUnwrap e k) s fun t =>
      (t.node k q).unwrapAt = some (h.glb.cycle + 1 + ceilDiv 50000 (h.bn BK.CYCLE_TC_TICKS))) ∧
  (∀ f, v.wait.find? (fun f => f.pos == q && mayResend h f.kind && decide (f.sent + tUs 100 ≤ now)) = some f →
    (f.tries < 3 → activeKind f.kind = false ∨ h.glb.role ≠ .active ∨ reaches e.half (h.ring k) q = true →
      svcFree now f.data.length h = true → Does (.svcResend e k p) s fun t =>
      Counted (RG.HR_CNT_SVC_RETRY k) h t ∧ Sent (.svc now k (svcFrame e.half q f.kind f.seq false f.data)) h t) ∧
    (f.tries < 3 → activeKind f.kind = true → h.glb.role = .active → reaches e.half (h.ring k) q = false →
      Does (.svcResend e k p) s fun t => Counted (RG.HR_CNT_SVC_RETRY k) h t ∧ f ∉ (vget t.svc k).wait ∧
        (h.th.lanesTx ≠ 0 → Told now (.relay (.svc k (svcFrame e.half q f.kind 0 false f.data))) h t)) ∧
    (3 ≤ f.tries → Does (.svcResend e k p) s fun t =>
      Raised 0x19 h t ∧ f ∉ (vget t.svc k).wait ∧ (f.kind = 0x01 → (t.node k q).noReply = true))) ∧
  (ringHears h k = true → Does (.svcFrameDropped e k) s fun t => Counted (RG.HR_CNT_SVC_CRC k) h t)

/-- What a node's frames and silence do (R87, R95, R347, R350, R532): a reply binds a position, an acknowledgement ends a
wait, a waveform goes to its stream, a node event waits for the event ring, and a node is lost or its binding given up.
Where the rules leave a point open it is the model's choice: log entries 72 and 116. -/
def Obligations.NodesBindAndGo : Prop := ∀ (s : State) (e : Evt) (k : RingNo) (p : PosNo), (s.at e).runs = true →
  let h := s.at e
  let now := max s.time e.time
  let q := p.val + 1
  (∀ f c, ringHears h k = true → svcOk f = true → svcFrom f = q →
    (svcKind f = 0x02 → boundAt h k q = none → (h.node k q).fwd = false → (h.node k q).binding = none →
      bits (svcPay f 0) 15 8 = 1 → bits (svcPay f 2) 15 8 ≤ 80 → ctxOf h k q = some c →
      Does (.enumReply e k f) s fun t =>
        (t.node k q).binding = some ⟨now, false, none⟩ ∧ (t.node k q).serial = (svcPay f 1).toNat) ∧
    (∀ w, svcKind f = 0x05 → (vget h.svc k).wait.find? (fun w => w.pos == q && w.seq == bits (svcPay f 0) 15 0) = some w →
      w.kind = 0x03 → Does (.ack e k f) s fun t =>
        (t.node k q).timeAck = true ∧ ∀ w ∈ (vget t.svc k).wait, ¬(w.pos = q ∧ w.seq = bits (svcPay f 0) 15 0)) ∧
    (svcKind f = 0x10 → h.glb.role = .active → boundAt h k q = some c → waveRing h c = none →
      Does (.wave e k f) s fun t => Counted RG.HI_CNT_WAVE_UNROUTED h t) ∧
    (∀ r, svcKind f = 0x10 → h.glb.role = .active → boundAt h k q = some c → waveRing h c = some r → (srOf h r).err = false →
      srPosted h r ≠ 0 → Does (.wave e k f) s fun t =>
        (srOf t r).units = (srOf h r).units ++ [⟨c, h.glb.cycle, f.data.flatMap fun b => leBytes 8 b.toNat, true⟩]) ∧
    (svcKind f = 0x30 → h.glb.role = .active → boundAt h k q = some c → f.data ≠ [] → f.data.length ≤ 4 →
      Does (.nodeEvent e k f) s fun t =>
        t.sd.nodeEv = h.sd.nodeEv ++ [(c, h.stamp, BitVec.ofNat 32 h.glb.cycle, f)])) ∧
  ((h.node k q).known = true ∨ (h.node k q).fwd = true → 4 ≤ (h.node k q).missRun ∨ (h.node k q).fwd = true →
    (h.node k q).noReply = true → Does (.nodeLost e k p) s fun t =>
      Raised 0x14 h t ∧ (t.node k q).known = false ∧ (t.node k q).fwd = false ∧ (t.node k q).binding = none ∧
      ∀ c, boundAt h k q = some c → (t.cell c).st = .absent) ∧
  (∀ b a, (h.node k q).binding = some b → b.ackAt = some a → a + tMs 1 ≤ now → Does (.bindingAbandoned e k p) s fun t =>
    (t.node k q).binding = none ∧ (t.node k q).abandoned = true)

/-- Doorbells and the set-up of rings (R322, R323, R325, R331): a doorbell within its ring is stored, one beyond it is
counted and raises 0xC1 in the ACTIVE half, one of a disabled ring is counted; a ring is enabled, disabled, or a wrong
size refused; a read of CR_SEQ_LO latches the upper half.
Where the rules leave a point open it is the model's choice: log entries 4 and 70. -/
def Obligations.DoorbellsAndRings : Prop := ∀ (s : State) (e : Evt) (i : Fin 8) (v : Word), (s.at e).runs = true →
  let h := s.at e
  (h.glb.dev = .lullOnly → ∀ x ∈ [Instr.crTail e i v, .cqHead e i v, .srTail e i v, .evHead e v], Does x s fun t =>
    ∀ o ∈ [RG.DB_CR_TAIL i, RG.DB_CQ_HEAD i, RG.DB_SR_TAIL i, RG.DB_EV_HEAD, RG.HI_CNT_DB_IGNORED, RG.HI_CNT_DB_BAD],
      t.reg o = h.reg o) ∧
  (h.glb.dev ≠ .lullOnly → h.glb.role ≠ .active ∨ dist32 v.toNat (crOf h i).cons ≤ crSize h i → crSize h i ≠ 0 →
    Does (.crTail e i v) s fun t => t.reg (RG.DB_CR_TAIL i) = v) ∧
  (h.glb.dev ≠ .lullOnly → h.glb.role = .active → crSize h i < dist32 v.toNat (crOf h i).cons → crSize h i ≠ 0 →
    Does (.crTail e i v) s fun t => Raised 0xC1 h t ∧ Counted RG.HI_CNT_DB_BAD h t ∧
      t.reg (RG.DB_CR_TAIL i) = h.reg (RG.DB_CR_TAIL i)) ∧
  (h.glb.dev ≠ .lullOnly → crSize h i = 0 → Does (.crTail e i v) s fun t => Counted RG.HI_CNT_DB_IGNORED h t) ∧
  (h.glb.dev ≠ .lullOnly → h.glb.role ≠ .active ∨ dist32 (cqOf h i).prod v.toNat ≤ cqSize h i → cqSize h i ≠ 0 →
    Does (.cqHead e i v) s fun t => t.reg (RG.DB_CQ_HEAD i) = v ∧ (cqOf t i).prod = (cqOf h i).prod) ∧
  (h.glb.dev ≠ .lullOnly → h.glb.role ≠ .active ∨ dist32 v.toNat (srOf h i).prod ≤ srSize h i → srSize h i ≠ 0 →
    Does (.srTail e i v) s fun t => t.reg (RG.DB_SR_TAIL i) = v) ∧
  (h.glb.dev ≠ .lullOnly → h.glb.role ≠ .active ∨ dist32 h.hi.ev.prod v.toNat ≤ evSize h → evSize h ≠ 0 →
    Does (.evHead e v) s fun t => t.reg RG.DB_EV_HEAD = v) ∧
  (∀ kind, h.glb.dev ≠ .lullOnly → sizeOk (wbits v 16 0) = true →
    (h.getF (cfgOff kind i) 16 0 = 0 ∨ wbits v 16 0 = 0 → Does (.ringSizeWrite e kind i v) s fun t =>
      t.getF (cfgOff kind i) 16 0 = wbits v 16 0 ∧
      (h.getF (cfgOff kind i) 16 0 = 0 → wbits v 16 0 ≠ 0 → match kind with
        | .cr => (crOf t i).cons = 0 ∧ t.reg (RG.DB_CR_TAIL i) = 0
        | .cq => (cqOf t i).prod = 0 ∧ t.reg (RG.DB_CQ_HEAD i) = 0
        | .sr => (srOf t i).prod = 0 ∧ t.reg (RG.DB_SR_TAIL i) = 0
        | .ev => t.hi.ev.prod = 0 ∧ t.reg RG.DB_EV_HEAD = 0)) ∧
    (h.getF (cfgOff kind i) 16 0 ≠ 0 → wbits v 16 0 ≠ 0 → wbits v 16 0 ≠ h.getF (cfgOff kind i) 16 0 →
      Does (.ringSizeWrite e kind i v) s fun t =>
        t.getF RG.HI_STATUS 10 10 = 1 ∧ t.getF (cfgOff kind i) 16 0 = h.getF (cfgOff kind i) 16 0)) ∧
  Does (.crSeqLo e i) s fun t => (crOf t i).seqHi = BitVec.ofNat 32 ((crOf h i).next / two32)

/-- What the half writes to host memory (R265, R326, R345, R348, R349): a completion record, an interrupt at the end of its
moderation, an event record, a stream buffer, and a ring that has stalled.
Where the rules leave a point open it is the model's choice: log entries 13, 75, 119 and 120. -/
def Obligations.HostRecordsGo : Prop := ∀ (s : State) (e : Evt) (i : Fin 8), (s.at e).runs = true →
  let h := s.at e
  let now := max s.time e.time
  (∀ r rest, canWrite h = true → cqSize h i ≠ 0 → (cqOf h i).err = false → cqFull h i = false → (cqOf h i).due = r :: rest →
    Does (.completionRecord e i) s fun t => (cqOf t i).due = rest ∧ (cqOf t i).prod = ((cqOf h i).prod + 1) % two32 ∧
      Sent (.mem (h.writeAt now) (baseAt h (RG.CQ_BASE_LO i) + (cqOf h i).prod % cqSize h i * 32)
        (recBytes e.half r (phaseOf (cqOf h i).prod (cqSize h i)))) h t) ∧
  (∀ a, (cqOf h i).irqAt = some a → (cqOf h i).irqWait = true → canWrite h = true → h.hi.msixOn = true →
    a + tUs (h.getF (RG.CQ_CFG i) 31 24) ≤ now → Does (.moderationEnd e i) s fun t =>
      (isMasked h i = false → Sent (.msix (h.writeAt now) i) h t) ∧
      (isMasked h i = true → t.getF msixPba i i = 1) ∧
      (cqOf t i).irqWait = false ∧ (cqOf t i).irqAt = some now) ∧
  (∀ a, (cqOf h i).stallAt = some a → (cqOf h i).stallRaised = false → cqSize h i ≠ 0 → cqFull h i = true → h.glb.role = .active →
    a + tMs 1 ≤ now → Does (.hiCqStall e i) s fun t => Raised 0xC6 h t ∧ (cqOf t i).stallRaised = true) ∧
  (∀ r rest, canWrite h = true → evSize h ≠ 0 → h.hi.ev.err = false → h.sd.queue = r :: rest → evFree h ≠ 0 →
    Does (.eventRecordWrite e) s fun t => t.hi.ev.prod = (h.hi.ev.prod + 1) % two32 ∧
      Sent (.mem (h.writeAt now) (baseAt h RG.EV_BASE_LO + h.hi.ev.prod % evSize h * 32)
        (evBytes r.2 (phaseOf h.hi.ev.prod (evSize h)))) h t) ∧
  (∀ r rest, h.glb.role = .active → evSize h ≠ 0 → h.hi.ev.err = true → h.sd.queue = r :: rest →
    Does (.eventRecordWrite e) s (Counted RG.HI_CNT_REC_LOST h)) ∧
  (∀ r rest, h.glb.role ≠ .active → h.th.oRole = .active → h.th.lanesTx ≠ 0 → h.sd.queue = r :: rest →
    Does (.eventRecordWrite e) s fun t => Told now (.relay (.record r.2)) h t) ∧
  (∀ ent, srReady h i = true → entOk ent = true → entSize ent < unitsLen (srOf h i).units →
    Does (.streamWriteBack e i ent) s fun t => (srOf t i).prod = ((srOf h i).prod + 1) % two32 ∧ (srOf t i).gap = false) ∧
  (∀ ent a, srReady h i = true → (srOf h i).first = some a → h.getF (RG.SR_CFG i) 31 24 ≠ 0 →
    a + tUs (h.getF (RG.SR_CFG i) 31 24) ≤ now → Does (.flush e i ent) s fun t =>
      (srOf t i).prod = ((srOf h i).prod + 1) % two32 ∧ (srOf t i).dropped = 0)

/-- The host link and what follows a hand-over (R319, R334, R353, R354, R357).
Where the rules leave a point open it is the model's choice: log entries 14 and 61. -/
def Obligations.HostLinkAndReadBack : Prop := ∀ (s : State) (e : Evt),
  let h := s.at e
  let now := max s.time e.time
  (∀ unc, h.hi.speed ≠ 0 → Does (.linkDown e unc) s fun t => Raised 0xC0 h t ∧ (unc = false → t.hi.speed = 0 ∧ t.hi.width = 0)) ∧
  (∀ speed width, h.glb.dev ≠ .lullOnly → 1 ≤ speed → speed ≤ 4 → 1 ≤ width → width ≤ 2 →
    Does (.pcieLinkUp e speed width) s fun t => t.hi.speed = speed ∧ t.hi.width = width ∧
      (t.hi.msixOn, t.hi.msixMask) = Config.msix e.half now) ∧
  (h.runs = true →
    (∀ kind i, h.getF (cfgOff kind i.val) 16 0 ≠ 0 → h.hi.speed ≠ 0 → Does (.hiDmaErr e kind i) s fun t =>
      Raised 0xC2 h t ∧ match kind with
        | .cr => (crOf t i).err = true
        | .cq => (cqOf t i).err = true ∧ (cqOf t i).due = []
        | .sr => (srOf t i).err = true
        | .ev => t.hi.ev.err = true) ∧
    (∀ a, h.hi.rbAt = some a → h.glb.role = .active → h.hi.speed ≠ 0 → h.hi.rbBusy = false → a + tUs 10 ≤ now →
      Does (.readBack e) s fun t => t.hi.rbBusy = true) ∧
    (∀ mem, h.hi.rbBusy = true → h.glb.role = .active → Does (.hiReadback e mem) s fun t =>
      t.hi.rbBusy = false ∧ t.hi.rbAt = none ∧ t.hi.history = [] ∧ Raised 0xC7 h t ∧
      (h.hi.msixOn = true → isMasked h 22 = false → Sent (.msix (h.writeAt now) 22) h t) ∧
      (h.hi.msixOn = true → isMasked h 22 = true → t.getF msixPba 22 22 = 1)) ∧
    (∀ r d bad, h.glb.role = .active → h.hi.reading = some (r, d) → Does (.readDeliveryDone e false bad) s fun t =>
      t.hi.reading = none ∧ Counted RG.HI_CNT_JUDGED h t) ∧
    (∀ r d bad, h.glb.role = .active → h.hi.readingRec = some (r, d) → Does (.readDeliveryDone e true bad) s fun t =>
      t.hi.readingRec = none ∧ Counted RG.HI_CNT_JUDGED h t))

/-- Replicas of admitted commands (R335 to R337): stored once and acknowledged, compared with host memory, sent again after
2 µs, and given up with a request for the fence line after 30 µs.
Where the rules leave a point open it is the model's choice: log entry 74. -/
def Obligations.ReplicasGo : Prop := ∀ (s : State) (e : Evt) (r : Fin 8) (n : BitVec 64), (s.at e).runs = true →
  let h := s.at e
  let now := max s.time e.time
  (∀ c d, h.glb.role = .standby → h.th.lanesRx ≠ 0 → h.th.lanesTx ≠ 0 → h.xf.early = [] →
    (∀ x ∈ h.hi.stored, ¬(x.1 = r.val ∧ x.2.1 = n.toNat ∧ x.2.2.1 = d)) →
    let at_ := ((s.half e.half.other).hi.repl.filter fun x => decide (x.ring = r.val ∧ x.seq = n.toNat ∧ x.d = d)).map (·.pos)
    Does (.cmdReplica e r n c d) s fun t =>
    let p := at_.headD ((crOf h r).cons % two32)
    Told now (.replicaAck r n) h t ∧ (r.val, n.toNat, d, p) ∈ t.hi.stored ∧ (r.val, n.toNat, d) ∈ t.hi.unread ∧
    (crOf t r).cons = laterCount ((p + 1) % two32) (crOf h r).cons) ∧
  (∀ d d', h.hi.unread.find? (fun x => x.1 == r.val && x.2.1 == n.toNat) = some (r.val, n.toNat, d') → h.hi.speed ≠ 0 →
    dByte d 0 ≠ dByte d' 0 → Does (.replicaDescriptorRead e r n d) s fun t => Raised 0xC4 h t ∧
      t.hi.unread = h.hi.unread.erase (r.val, n.toNat, d')) ∧
  (h.glb.role = .active → ∀ x, h.hi.repl.find? (fun x => x.ring == r.val && x.seq == n.toNat) = some x → h.th.lanesRx ≠ 0 → Does (.replicaAck e r n) s fun t =>
    t.hi.repl = h.hi.repl.filter (· ≠ x)) ∧
  (h.glb.role = .active → ∀ x ∈ h.hi.repl, x.last + tUs 2 ≤ now → h.th.lanesTx ≠ 0 → Does (.replicaResend e) s fun t =>
    Told now (.replica x.ring (BitVec.ofNat 64 x.seq) (BitVec.ofNat 64 (dApply x.d)) x.d) h t) ∧
  (h.glb.role = .active → ∀ x ∈ h.hi.repl, x.first + tUs 30 ≤ now → Does (.replicaTimeout e) s fun t =>
    x ∉ t.hi.repl ∧ t.th.fenceReq.isSome = true)

/-- Sheepdog's own commands (R267, R277, R281 to R283): a Gust block, a fence that takes effect, a clear that is taken or
refused, and the degraded marks.
Where the rules leave a point open it is the model's choice: log entries 4, 88, 89, 109 and 110. -/
def Obligations.SheepdogActs : Prop := ∀ (s : State) (e : Evt), (s.at e).runs = true →
  let h := s.at e
  let now := max s.time e.time
  (∀ d ds, h.sd.decisions = d :: ds → d.time + tNs 20 ≤ now → Does (.gustBlock e) s fun t =>
    let cl := ((d :: ds).filter fun x => decide (x.time ≤ d.time + tNs 20)).foldl (fun m d => m ||| d.clusters) 0
    t.sd.gen = (h.sd.gen + 1) % 256 ∧ Raised 0xFC h t ∧
    ∀ k < 12, laneOn h = true → ringHasCluster h k cl = true →
      Sent (.ring now k [gustBits e.half cl d.cycle ((h.sd.gen + 1) % 256)]) h t) ∧
  (∀ f ∈ h.sd.fences, f.time + tNs 200 ≤ now → h.glb.dev ≠ .lullOnly → Does (.fenceEffect e f.unit) s fun t =>
    (∀ p < 2, f.unit = .eth p → f ∉ t.sd.fences ∧ t.sd.ethFence.getLsbD p = true) ∧
    (∀ i < 2, f.unit = .can i → f ∉ t.sd.fences ∧ t.sd.canFence.getLsbD i = true) ∧
    (isNetUnit f.unit = false → t.sd.fences = h.sd.fences)) ∧
  (∀ v, h.glb.dev ≠ .lullOnly → wbits v 2 0 ≠ 0 →
    let u := wbits v 2 0
    let i := wbits v 12 8
    let no := wbits v 17 16 ≠ 0 ∧ h.glb.role ≠ .active
    let g := matureRings (s.cx e) h
    (clearValid h u i = false → Does (.sdClear e v) s fun t => t.reg RG.SD_CLEAR_STAT = 4 ∧ t.sd.clear.length = h.sd.clear.length) ∧
    (clearValid h u i = true → clearFenced g u i = false → Does (.sdClear e v) s fun t => t.reg RG.SD_CLEAR_STAT = 3) ∧
    (clearValid h u i = true → clearFenced g u i = true → clearCause e.half now h u i = true →
      Does (.sdClear e v) s fun t => t.reg RG.SD_CLEAR_STAT = 2) ∧
    (clearValid h u i = true → clearFenced g u i = true → clearCause e.half now h u i = false →
      Does (.sdClear e v) s fun t => (¬no → t.reg RG.SD_CLEAR_STAT = 5) ∧ (no → t.reg RG.SD_CLEAR_STAT = 4) ∧
        ⟨u, i, now, false, true⟩ ∈ t.sd.clear)) ∧
  (∀ v, h.glb.dev ≠ .lullOnly → wbits v 17 16 ≠ 0 → h.glb.role = .active → Does (.sdClear e v) s fun t =>
    (1, wbits v 17 16) ∈ t.sd.degClear) ∧
  (h.glb.dev ≠ .lullOnly →
    (h.glb.role = .active → (Does (.degMv e) s fun t => (1, 1) ∈ t.sd.degClear ∧ t.reg RG.SD_CLEAR_STAT = 5) ∧
      Does (.degLv e) s fun t => (1, 2) ∈ t.sd.degClear ∧ t.reg RG.SD_CLEAR_STAT = 5) ∧
    (h.glb.role ≠ .active → (Does (.degMv e) s fun t =>
        t.sd.degClear.map (·.2) = h.sd.degClear.map (·.2) ∧ t.reg RG.SD_CLEAR_STAT = 4) ∧
      Does (.degLv e) s fun t =>
        t.sd.degClear.map (·.2) = h.sd.degClear.map (·.2) ∧ t.reg RG.SD_CLEAR_STAT = 4))

/-- The analog channels (R116 to R119, R127 to R129, R133): the words of a cycle and further words, the other half's words,
a dispute that opens, and the internal sequences.
Where the rules leave a point open it is the model's choice: log entries 15, 16, 106 and 117. -/
def Obligations.AnalogActs : Prop := ∀ (s : State) (e : Evt), (s.at e).runs = true →
  let h := s.at e
  let now := max s.time e.time
  let q := seqClock now h
  let idle := q.an.seq = [] ∧ q.an.pend = none ∧ ∀ t0, h.an.seqDone = some t0 → sameClock t0 now = false
  (∀ bits ovl, anaUp h = true → h.glb.dev.inService = true → h.glb.started = true → h.an.wordsSent = false →
    h.glb.sealedAt = none →
    (h.glb.t0 + tNs 60 ≤ now → Does (.anWordsSend e bits ovl) s fun t =>
      t.an.wordsSent = true ∧ ∀ n < 24, anEn h n = false → t.anCh n = { h.anCh n with ovr := false }) ∧
    (now < h.glb.t0 + tNs 60 → Does (.anWordsSend e bits ovl) s fun t => t.an.wordsSent = false)) ∧
  (∀ (n : ChNo) bits ovl, anaUp h = true → h.glb.dev.inService = true → h.glb.started = true → anEn h n = true →
    subFits h n = true → h.glb.t0 + tNs (nextSub h n) ≤ now → Does (.anWord e n bits ovl) s fun t =>
      (t.anCh n).hist = (bits.reverse ++ (h.anCh n).hist).take 2048 ∧
      ((t.anCh n).last.headD (0, 0)).1 = t0Ns h + nextSub h n ∧ (t.anCh n).sub = (h.anCh n).sub + 1) ∧
  (∀ ws, h.th.lanesRx ≠ 0 → h.glb.dev.inService = true → h.glb.started = true →
    (h.glb.sealedAt = none → Does (.anWords e ws) s fun t => ∀ n < 24,
      (t.anCh n).oword = some (ws.getD n (0, 0)).1.toInt ∧ (t.anCh n).oqual = (ws.getD n (0, 0)).2.toNat) ∧
    (h.glb.sealedAt ≠ none → Does (.anWords e ws) s fun t => Counted RG.TH_CNT_LATE h t)) ∧
  (∀ n : ChNo, h.glb.sealedAt ≠ none → (h.anCh n).dispute = 1 → h.bn (BK.AN_CH_PCNT n) ≤ (h.anCh n).pcount →
    Does (.disputeOpen e n) s fun t => (followsDispute h = true → t.anCh n = h.anCh n) ∧ (followsDispute h = false →
      ((selfCheckNames now h n).or (witnessNames h n) ≠ none → (t.anCh n).dispute = 0 ∧ (t.anCh n).pcount = 0 ∧ Raised 0x41 h t) ∧
      ((selfCheckNames now h n).or (witnessNames h n) = none → (t.anCh n).dispute = 2 ∧ Raised 0x42 h t))) ∧
  (∀ v, anaUp h = true → wbit v 0 = true →
    (idle → Does (.anSeqTrig e v) s fun t => t.an.seq = seqChannels h ∧ t.an.seqEnd = now + convTime) ∧
    (∀ t0, q.an.seq = [] → q.an.pend = none → h.an.seqDone = some t0 → sameClock t0 now = true → Does (.anSeqTrig e v) s fun t =>
      t.an.pend = some 1 ∧ t.an.seqFrom = some ((now / 80 + 1) * 80)) ∧
    (q.an.seq ≠ [] → q.an.pend = none → Does (.anSeqTrig e v) s fun t => t.an.pend = some 1) ∧
    (q.an.pend ≠ none → Does (.anSeqTrig e v) s fun t =>
      t.an.dropped = min 0xFFFF (h.an.dropped + 1) ∧ (q.an.dropRaised = false → Raised 0x48 h t))) ∧
  (anaUp h = true → h.getF RG.AN_SEQ_CFG 23 8 ≠ 0 → h.an.lastPeriod + tMs (h.getF RG.AN_SEQ_CFG 23 8) ≤ now → idle →
    Does (.anSeqPeriod e) s fun t => t.an.seq = seqChannels h ∧ t.an.lastPeriod = now) ∧
  (anaUp h = true → idle → Does (.housekeepingSequenceRequest e) s fun t =>
    t.an.seq = seqChannels h ∧ t.an.seqEnd = now + convTime) ∧
  (∀ v i rest, q.an.seq = i :: rest → i < 8 → rest ≠ [] → anaUp h = true → q.an.seqEnd ≤ now → Does (.anConversion e v) s fun t =>
    vget t.an.ints i = some v ∧ t.an.seq = rest ∧ t.an.seqEnd = now + convTime)

/-- The thermal monitor and the test perturbation (R478 to R480, R494): a request for a sequence, a sensor that fails, the
comparator of the LULL domain, and PERT_CTRL.ARM.
Where the rules leave a point open it is the model's choice: log entries 68 and 83. -/
def Obligations.ThermalActs : Prop := ∀ (s : State) (e : Evt),
  let h := s.at e
  let now := max s.time e.time
  (railGood h .lull = true → Does (.lullComparator e) s fun t =>
    t.tm.cmp = true ∧ (coreUp h = true → h.tm.shut = none → Raised 0xEA h t ∧ t.tm.shut = some now ∧
      t.pw.orderly = some (1, now + tUs 20))) ∧
  (railGood h .lull = true → Does (.lullComparatorRelease e) s fun t => t.tm.cmp = false) ∧
  (h.runs = true → coreUp h = true →
    (h.tm.tempAt + tMs 2 ≤ now → anaUp h = true → (seqClock now h).an.seq = [] → (seqClock now h).an.pend = none →
      (∀ t0, h.an.seqDone = some t0 → sameClock t0 now = false) → Does (.thermSeqRequest e) s fun t =>
      t.an.seq = seqChannels h ∧ t.an.seqEnd = now + convTime) ∧
    (h.tm.tempAt + tMs 5 ≤ now → h.tm.failed = false → Does (.sensorTimeout e) s fun t =>
      t.tm.failed = true ∧ t.tm.level = 2 ∧ Raised 0xEB h t) ∧
    (∀ v, wbit v 0 = true → pertMay h = true → Does (.pertArm e v) s fun t => t.getF RG.PERT_CTRL 0 0 = 1 ∧ Raised 0xF4 h t) ∧
    (∀ v, wbit v 0 = true → pertMay h = false → Does (.pertArm e v) s fun t => t.getF RG.PERT_CTRL 1 1 = 1) ∧
    (∀ v, wbit v 0 = false → Does (.pertArm e v) s fun t => t.getF RG.PERT_CTRL 0 0 = 0))

/-- Accesses that are flagged (R526 to R528): GLB_ACC_ERR takes the kind, and GLB_ACC_ADDR the first access.
Where the rules leave a point open it is the model's choice: log entries 52 and 107. -/
def Obligations.AccessesAreFlagged : Prop := ∀ (s : State) (e : Evt) (x : Access), (s.at e).runs = true →
  coreUp (s.at e) = true →
  let h := s.at e
  let held := BitVec.ofNat 32 (x.offset % 2 ^ 20 + 2 ^ 24 * b2n x.write + 2 ^ 25 * x.be.toNat + 2 ^ 31)
  let flag (n : Nat) (t : Half) : Prop := t.getF RG.GLB_ACC_ERR n n = 1 ∧
    t.getF RG.GLB_ACC_ERR 31 16 = min 0xFFFF (h.getF RG.GLB_ACC_ERR 31 16 + 1) ∧
    let free := h.getF RG.GLB_ACC_ERR 2 0 = 0 ∨ ∃ a, h.acc.clr = some a ∧ sameClock a (max s.time e.time) = true
    (free → t.reg RG.GLB_ACC_ADDR = held) ∧
    (¬free → t.getF RG.GLB_ACC_ERR 3 3 = 1 ∧ t.reg RG.GLB_ACC_ADDR = h.reg RG.GLB_ACC_ADDR)
  (x.bar ≠ 4 → x.offset % 4 ≠ 0 ∨ x.be ≠ 0xF#4 ∨ x.dwords ≠ 1 → Does (.misaligned e x) s (flag 0)) ∧
  (x.bar = 4 → inBar4 x.offset = false → Does (.unmapped e x) s (flag 1)) ∧
  (x.bar ≠ 4 → regRow (accKey x) = none → Does (.unmapped e x) s (flag 1)) ∧
  (x.bar = 0 → gated h (accDomain x.offset) = true → Does (.domainOff e x) s fun t => flag 2 t ∧ Counted RG.CLK_CNT_GATE_ERR h t)

/-- Pulse-width pairs (R220 to R229, R237 to R242): a reload takes the load presented in time, edges that have come are
taken, a force ends, and the trip and fault inputs latch and release.
Where the rules leave a point open it is the model's choice: log entries 30, 84, 85, 86 and 87. -/
def Obligations.LvOutputsAct : Prop := ∀ (s : State) (e : Evt),
  let h := s.at e
  let now := max s.time e.time
  (h.runs = true → h.glb.dev.inService = true → h.glb.started = true → ∀ n : PairNo,
    ((pairMode h n = 1 ∨ pairMode h n = 2) → (pairOf h n).lastReload < periodNo h n (lvFine now h) →
      Does (.reload e n) s fun t => (pairOf t n).lastReload = periodNo h n (lvFine now h) ∧
        ∀ l, (pairOf h n).load = some l →
          l.at_ + 8 < periodNo h n (lvFine now h) * pairF h n - h.bn (BK.LV_PAIR_PHASE n) →
          (pairOf t n).c = l.c ∧ (pairOf t n).en = l.en ∧ (pairOf t n).load = none) ∧
    Does (.commandEdge e n) s fun t =>
      (pairOf t n).edges = (pairOf h n).edges.filter (fun x => decide (lvFine now h < x.1)) ∧
      ∀ x, ((pairOf h n).edges.filter fun x => decide (x.1 ≤ lvFine now h)).getLast? = some x → (pairOf t n).cpp = x.2) ∧
  (h.runs = true → (∀ (n : Fin 13) u, n.val < 12 → (pairOf h n).force = 4 → (pairOf h n).forceEnd = some u → u ≤ now →
      Does (.forcePulseEnd e n) s fun t => (pairOf t n).force = 1 ∧ (pairOf t n).forceEnd = none) ∧
    (∀ u, h.lv.brkForce = 4 → h.lv.brkForceEnd = some u → u ≤ now → Does (.forcePulseEnd e 12) s fun t =>
      t.lv.brkForce = 1 ∧ t.lv.brkForceEnd = none) ∧
    (h.glb.lv = .precharge → 16 ≤ h.lv.preCount → Does (.lvPrechargeComplete e) s fun t => t.lv.preDone = true) ∧
    (h.glb.lv = .precharge → h.lv.preDone = false → h.lv.preRaised = false → h.lv.preAt + tMs (h.bn BK.LV_PRE_TMAX) ≤ now →
      Does (.lvPrechargeTimeout e) s fun t => Raised 0x7F h t ∧ t.lv.preRaised = true)) ∧
  (h.senses = true → (∀ n : TripNo,
      (∀ uv,
        (let was := (tripOf h n).hardNow
         let is := asserts (h.bn (BK.LV_TRIP_HARD n)) uv was
         Does (.tripCrossing e n true uv) s fun t => (tripOf t n).uv = uv ∧ (tripOf t n).hardNow = is ∧
          (tripOf t n).hardAt = (if is && !was then now else (tripOf h n).hardAt) ∧
          (tripOf t n).hardOff = (if was && !is then now else (tripOf h n).hardOff)) ∧
        (let was := (tripOf h n).softNow
         let is := asserts (h.bn (BK.LV_TRIP_SOFT n)) uv was
         Does (.tripCrossing e n false uv) s fun t => (tripOf t n).uv = uv ∧ (tripOf t n).softNow = is ∧
          (tripOf t n).softAt = (if is && !was then now else (tripOf h n).softAt) ∧
          (tripOf t n).softOff = (if was && !is then now else (tripOf h n).softOff))) ∧
      ((tripOf h n).softNow = true → isBlanked now h n = false → (tripOf h n).softAt < blankEnd now h n →
        Does (.blankEnd e n) s fun t => (tripOf t n).softAt = blankEnd now h n) ∧
      (∀ hard, tripReady now h n hard = true → Does (.tripLatch e n hard) s fun t =>
        (if hard then (tripOf t n).hardLatch else (tripOf t n).softLatch) = true ∧ Raised (0x60 + n) h t ∧
        (latched (tripOf h n) = false → ∀ x < 3, h.bn (BK.LV_TRIP_CLUSTER n) / 2 ^ x % 2 = 1 → t.sd.hold.getLsbD x = true)) ∧
      (h.glb.lv = .stopped ∨ h.glb.lv = .test ∨ h.glb.lv = .recovery →
        ((tripOf h n).hardLatch = true → (tripOf h n).hardNow = false → (tripOf h n).hardOff + tUs 10 ≤ now →
          Does (.tripRelease e n true) s fun t => (tripOf t n).hardLatch = false) ∧
        ((tripOf h n).softLatch = true → (tripOf h n).softNow = false → (tripOf h n).softOff + tUs 10 ≤ now →
          Does (.tripRelease e n false) s fun t => (tripOf t n).softLatch = false))) ∧
    ∀ (n : PairNo) since,
      (since + filtLen h (BK.LV_FLT_FILT n) ≤ now →
        (h.glb.dev ≠ .lullOnly → Does (.fltLatch ⟨e, since⟩ n) s fun t => (pairOf t n).fltIn = true ∧
          (h.bf (BK.LV_FLT_EN n) = true → (pairOf t n).flt = true ∧ ((pairOf h n).flt = false → Raised (0x70 + n) h t))) ∧
        Does (.fltDeassert ⟨e, since⟩ n) s fun t => (pairOf t n).fltIn = false) ∧
      (now < since + filtLen h (BK.LV_FLT_FILT n) →
        (Does (.fltLatch ⟨e, since⟩ n) s fun t => (pairOf t n).fltIn = (pairOf h n).fltIn) ∧
        Does (.fltDeassert ⟨e, since⟩ n) s fun t => (pairOf t n).fltIn = (pairOf h n).fltIn))

/-- The CAN controllers (R415 to R430): INIT, joining the bus and leaving it, requests, aborts and snapshots, a frame sent,
an attempt that fails, a frame received, errors and the protocol exception. A transmission starts before the command where
one may.
Where the rules leave a point open it is the model's choice: log entries 8, 42, 43 and 65. -/
def Obligations.CanControllersAct : Prop := ∀ (s : State) (e : Evt) (i : Fin 2), (s.at e).runs = true →
  let h := kick (s.cx e) i (s.at e)
  let now := max s.time e.time
  let c := canOf h i
  (netUp h = true →
    (canInit h i = false → c.tx = none → receives (s.cx e) h i = false → Does (.initSet e i) s fun t => t.getF (RG.CAN_CTRL i) 0 0 = 1 ∧ (canOf t i).st = 0) ∧
    (canInit h i = false → c.dead = false → c.tx ≠ none ∨ receives (s.cx e) h i = true → Does (.initSet e i) s fun t => (canOf t i).initWait = true) ∧
    (canInit h i = true → canCfgOk h i = true → Does (.initRelease e i) s fun t =>
      t.getF (RG.CAN_CTRL i) 0 0 = 0 ∧ (canOf t i).tec = 0 ∧ (canOf t i).rec_ = 0) ∧
    (canInit h i = true → canCfgOk h i = false → Does (.initRelease e i) s fun t =>
      t.getF (RG.CAN_STATUS i) 8 8 = 1 ∧ t.reg (RG.CAN_CTRL i) = h.reg (RG.CAN_CTRL i)) ∧
    (∀ v, objF h i (wbits v 6 0) 0 0 = 1 → objF h i (wbits v 6 0) 1 1 = 1 → objSt h i (wbits v 6 0) 2 = false →
      (objF h i (wbits v 6 0) 3 3 = 1 → h.getF (RG.CAN_CFG i) 0 0 = 1) →
      (objF h i (wbits v 6 0) 3 3 = 0 → objF h i (wbits v 6 0) 4 4 = 0) →
      Does (.canTxreq e i v) s fun t => objSt t i (wbits v 6 0) 2 = true) ∧
    (∀ v, objSt h i (wbits v 6 0) 2 = true → c.tx ≠ some (wbits v 6 0) → Does (.canTxabort e i v) s fun t =>
      objSt t i (wbits v 6 0) 2 = false ∧ objSt t i (wbits v 6 0) 4 = true ∧ Raised 0xE2 h t) ∧
    (∀ v, objSt h i (wbits v 6 0) 2 = false →
      (objF h i (wbits v 6 0) 3 3 = 0 ∧ objF h i (wbits v 6 0) 4 4 = 1 ∨
        objF h i (wbits v 6 0) 3 3 = 1 ∧ h.getF (RG.CAN_CFG i) 0 0 = 0) →
      Does (.canTxreq e i v) s fun t => t.getF (RG.CAN_STATUS i) 9 9 = 1 ∧ objSt t i (wbits v 6 0) 2 = false) ∧
    (∀ v, (∀ x, c.held = some x → x.obj ≠ wbits v 6 0 ∨ sameClock x.at_ now = false) → Does (.canRxsnap e i v) s fun t =>
      t.reg (RG.CAN_SNAP i 0) = h.reg (RG.CAN_OBJ_ST i (wbits v 6 0)) ∧
      objSt t i (wbits v 6 0) 0 = false ∧ objSt t i (wbits v 6 0) 1 = false) ∧
    (∀ v x f, c.held = some x → x.obj = wbits v 6 0 → sameClock x.at_ now = true →
      x.old = (rxRegs i x.obj).map f → Does (.canRxsnap e i v) s fun t =>
      t.reg (RG.CAN_SNAP i 0) = f (RG.CAN_OBJ_ST i x.obj) ∧ objSt t i x.obj 0 = true ∧ objSt t i x.obj 1 = false ∧
      t.reg (RG.CAN_OBJ_RXID i x.obj) = wset (x.frame.id.setWidth 32) 31 31 (b2n x.frame.ide))) ∧
  (canOn h i = true → canFenced h i = false →
    (c.st = 0 → c.at_ + 11 * canBit h i ≤ now → (h.glb.role = .off → c.served = false) →
      Does (.busIntegration e i) s fun t => (canOf t i).st = 1 ∧ (canOf t i).tec = c.tec ∧ (canOf t i).rec_ = c.rec_) ∧
    (c.st = 3 → h.getF (RG.CAN_CFG i) 2 2 = 1 → c.at_ + 1408 * canBit h i ≤ now →
      Does (.busOffRecovery e i) s fun t => Raised 0xE7 h t ∧ (canOf t i).tec = 0 ∧ (canOf t i).rec_ = 0 ∧
        ((canOf t i).st = 1 ∨ (canOf t i).dead = true))) ∧
  (joined h i = true →
    (∀ o, c.tx = some o → (Does (.canTxSuccess e i) s fun t =>
        Sent (.can now i c.frame) h t ∧ objSt t i o 3 = true ∧ objSt t i o 2 = false) ∧
      ∀ err, Does (.canTxError ⟨e, err⟩ i) s fun t => t.getF (RG.CAN_OBJ_ST i o) 11 8 = min 15 (h.getF (RG.CAN_OBJ_ST i o) 11 8 + 1) ∧
        (canOf t i).tec = c.tec + tecStep c err) ∧
    (∀ f, f.fdf = false ∨ h.getF (RG.CAN_CFG i) 0 0 = 1 → Does (.canRxFrame e i f) s fun t =>
      Counted (RG.CAN_CNT_RXOK i) h t ∧ (f.rtr = true → Counted (RG.CAN_CNT_RTR i) h t) ∧
      (f.rtr = false → rxObj h i f = none → Counted (RG.CAN_CNT_NOMATCH i) h t) ∧
      (∀ o, f.rtr = false → rxObj h i f = some o → objSt h i o 0 = false →
        t.reg (RG.CAN_OBJ_RXID i o) = wset (f.id.setWidth 32) 31 31 (b2n f.ide) ∧ t.reg (RG.CAN_OBJ_TIME i o) = BitVec.ofNat 32 (h.before now f.sof).ns)) ∧
    (∀ inc, canListen h i = false → Does (.canRxError e i inc) s fun t => (canOf t i).rec_ = min (c.rec_ + inc) 255) ∧
    (h.getF (RG.CAN_CFG i) 0 0 = 1 → Does (.protocolException e i) s fun t =>
      Counted (RG.CAN_CNT_PEXC i) h t ∧ Raised 0xE6 h t ∧ (canOf t i).st = 0)) ∧
  (canInit h i = false → (vget h.ck.pll 3).locked = true →
    let t := unfence now 5 i h
    canFenced t i = false ∧ (canOf t i).st = 0 ∧ (canOf t i).tec = 0 ∧ (canOf t i).rec_ = 0 ∧ (canOf t i).at_ = now)

/-- The crystal, the PLLs and the gated clocks (R359 to R365).
Where the rules leave a point open it is the model's choice: log entry 44. -/
def Obligations.ClocksAct : Prop := ∀ (s : State) (e : Evt),
  let h := s.at e
  let now := max s.time e.time
  (railGood h .lull = true → h.ck.xtalOk = false →
    (h.ck.xtalStart + tMs 1 ≤ now → Does (.xtalGood e) s fun t => t.ck.xtalOk = true ∧ t.getF RG.CLK_START 0 0 = 1) ∧
    (h.ck.xtalStart + tMs 20 ≤ now → Does (.xtalFail e) s fun t => t.getF RG.CLK_START 1 1 = 1) ∧
    (h.ck.xtalStart + tMs 100 ≤ now → Does (.xtalRestart e) s fun t =>
      t.ck.xtalStart = now ∧ t.getF RG.CLK_START 1 1 = 0)) ∧
  (refPasses (s.cx e) h = true → h.pw.up ≠ 0 → Does (.clkRefFail e) s fun t =>
    t.ck.refOk = false ∧ Raised 0xB0 h t ∧ ∀ p < 6, (pllOf h p).on = true → (pllOf t p).locked = false) ∧
  (∀ p : PllNo, (pllOf h p).on = true →
    ((pllOf h p).locked = true → Does (.pllUnlock e p) s fun t =>
      (pllOf t p).locked = false ∧ (pllOf t p).fallback = true ∧ (pllOf t p).lostAt = now ∧
      t.getF (RG.CLK_PLL_STAT p) 23 16 = min 255 (h.getF (RG.CLK_PLL_STAT p) 23 16 + 1) ∧
      (p ≠ 2 → Raised ([0xB1, 0xB2, 0, 0xB3, 0xB4, 0xB5].getD p 0) h t)) ∧
    ((pllOf h p).locked = false → refPasses (s.cx e) h = true → (pllOf h p).lostAt + tUs 4 ≤ now → ∀ band, bandFits now p band.toNat h = true →
      Does (.pllLock e p band) s fun t => (pllOf t p).locked = true ∧ (pllOf t p).fallback = false ∧
        t.getF (RG.CLK_PLL_STAT p) 5 0 = band.toNat ∧ t.getF (RG.CLK_PLL_STAT p) 6 6 = 1 ∧ (pllOf t p).found = true ∧
        (pllOf t p).mult = refMul h p)) ∧
  (h.runs = true → h.glb.dev ≠ .lullOnly →
    (∀ (p : PllNo) v, Does (.relock e p v) s fun t => t.getF (RG.CLK_PLL_CFG p) 1 0 = wbits v 1 0 ∧
      (wbit v 8 = true → (pllOf h p).on = true → (pllOf t p).locked = false ∧ (pllOf t p).lostAt = now ∧
        (p ≠ 2 → Raised ([0xB1, 0xB2, 0, 0xB3, 0xB4, 0xB5].getD p 0) h t))) ∧
    (∀ (d : Fin 5) since, gating h d = true → since + tUs (max 1 (h.getF RG.CLK_GATE 7 0)) ≤ now →
      Does (.clkGateTimeout ⟨e, since⟩ d) s fun t => Counted RG.CLK_CNT_GATE_TO h t ∧ Raised 0xB6 h t ∧
        Sent (.abort now d) h t))

/-- The timebase (R371, R372, R374, R380, R391): alignment messages, edges of REFIN_PPS and their absence, and the reads
that latch.
Where the rules leave a point open it is the model's choice: log entries 34, 95 and 96. -/
def Obligations.TimebaseActs : Prop := ∀ (s : State) (e : Evt), (s.at e).runs = true →
  let h := s.at e
  let now := max s.time e.time
  (h.glb.dev ≠ .lullOnly →
    (h.tb.alignSent < h.ns / 8000 → Does (.timeAlignSend e) s fun t => t.tb.alignSent = h.ns / 8000 ∧
      (h.th.lanesTx ≠ 0 → let x := h.tb.lastRx.getD (0, 0, 0)
        Told now (.timeAlign (h.ns * 65536) x.1 x.2.1 x.2.2 h.adj) h t)) ∧
    (∀ t1 t2 t3 t4 adj, h.th.lanesRx ≠ 0 → Does (.timeAlign e t1 t2 t3 t4 adj) s fun t =>
      t.tb.offAlign = alignTheta t1 t2 t3 t4 ∧ t.tb.alignAt = some now ∧ t.tb.lastRx = some (t4, t1, ((h.tb.now / 65536 : Nat) : Int)) ∧
      (h.th.oRole = .active → h.glb.role = .standby → h.tb.fallback = false → t.tb.freq = adj ∧
        t.tb.align = clampI (-(alignTheta t1 t2 t3 t4) * 64) (-858993) 858993)) ∧
    (Does (.tbNowLo e) s fun t => t.tb.hi = (h.stamp >>> 32).setWidth 32) ∧
    (Does (.glbCycleLo e) s fun t => t.glb.cycHi = BitVec.ofNat 32 (h.glb.cycle / 2 ^ 32))) ∧
  (h.tb.disc = 2 →
    (∀ up, up ≠ h.bf BK.TB_PPS_EDGE → h.glb.dev.inService = true → (ppsTheta h).natAbs ≤ 100000 → Does (.ppsEdge ⟨e, up⟩) s fun t =>
      t.tb.ppsAt = now ∧ t.tb.theta = ppsTheta h * 65536) ∧
    (h.tb.st = 1 → h.tb.ppsAt + tSec (h.bn BK.TB_PPS_MISS) + tUs 100 ≤ now → Does (.ppsMiss e) s fun t =>
      t.tb.st = 2 ∧ t.tb.holdAt = now ∧ Raised 0xB9 h t))

/-- The memories (R458 to R465): the scrubbers read, correct, count and report; a half that an uncorrectable word has fenced
restarts; a pass that is late; refresh.
Where the rules leave a point open it is the model's choice: log entries 45, 46 and 67. -/
def Obligations.MemoriesAct : Prop := ∀ (s : State) (e : Evt), (s.at e).runs = true →
  let h := s.at e
  let now := max s.time e.time
  (h.glb.dev ≠ .lullOnly → ∀ row, let n := eccErrors row h.me.sramPos
    Does (.sramScrub e row) s fun t =>
      t.me.sramPos = (if h.me.sramPos + 1 < 524288 then h.me.sramPos + 1 else 0) ∧
      (n = 1 → Counted RG.MEM_CNT_SRAM_CE1 h t) ∧
      (n = 2 → Counted RG.MEM_CNT_SRAM_CE2 h t ∧ Raised 0xA0 h t ∧ t.reg RG.MEM_ERR_ADDR = BitVec.ofNat 32 h.me.sramPos) ∧
      (n = 3 → Counted RG.MEM_CNT_SRAM_UE h t ∧ Raised 0xA1 h t ∧ t.reg RG.MEM_ERR_ADDR = BitVec.ofNat 32 h.me.sramPos)) ∧
  (h.glb.dev ≠ .lullOnly → ddrUp h = true → ∀ row, let n := eccErrors row (8 * h.me.ddrPos)
    Does (.ddrScrub e [row]) s fun t =>
      t.me.ddrPos = (if h.me.ddrPos + 1 < 12582912 then h.me.ddrPos + 1 else 0) ∧
      (n = 1 → Counted RG.MEM_CNT_DDR_CE1 h t) ∧
      (n = 2 → Counted RG.MEM_CNT_DDR_CE2 h t ∧ Raised 0xA2 h t) ∧
      (n = 3 → Counted RG.MEM_CNT_DDR_UE h t ∧ Raised 0xA3 h t)) ∧
  (∀ a, h.glb.role = .fenced → h.me.ueAt = some a → a + tUs 10 ≤ now → Does (.sramUeRestart e) s fun t => t.me.ueAt = none) ∧
  (h.glb.dev ≠ .lullOnly → h.me.ddrLate = false → h.me.ddrFrom + tUs 6800 * 12582912 * 3 / 2 ≤ now →
    Does (.memScrubLate e true) s fun t => t.me.ddrLate = true ∧ Raised 0xA6 h t) ∧
  (h.glb.dev ≠ .lullOnly → h.me.sramLate = false → h.me.sramFrom + tUs 19 * 524288 * 3 / 2 ≤ now →
    Does (.memScrubLate e false) s fun t => t.me.sramLate = true ∧ Raised 0xA6 h t) ∧
  (ddrUp h = true → (Does (.refresh e) s fun t =>
      t.me.refMult = max (if h.tm.failed then 4 else 2 ^ h.tm.band) (max 1 h.me.mr4)) ∧
    ∀ m, Does (.mr4Poll e m) s fun t => t.me.mr4 = m)

/-- Domains come up (R435, R436, R442): the sequencer starts, a ramp ends, a rail becomes good, rails that stay away, and
the two waits after which it starts anew.
Where the rules leave a point open it is the model's choice: log entries 4 and 101. -/
def Obligations.DomainsComeUp : Prop := ∀ (s : State) (e : Evt),
  let h := s.at e
  let now := max s.time e.time
  (canPowerUp (s.cx e) h = true → Does (.powerUp e) s fun t =>
    t.pw.ramp = some (0, now) ∧ t.pw.seqUp = true ∧ t.pw.whole = none ∧ t.ck.refOk = true) ∧
  (∀ d t0 b, h.pw.ramp = some (d, t0) → d < 5 → t0 + tUs 200 ≤ now →
    (Does (.rampEnd e b) s fun t => domUp t d = true ∧ t.pw.rampedAt = t0 + tUs 200) ∧
    (h.pw.wholeWait = none → h.pw.seqUp = true →
      (d < 4 → railsOk h (d + 1) = true → Does (.rampEnd e b) s fun t => t.pw.ramp = some (d + 1, t0 + tUs 220)) ∧
      (d < 4 → railsOk h (d + 1) = false → Does (.rampEnd e b) s fun t =>
        t.pw.ramp = none ∧ t.pw.wait = some (d + 1, t0 + tUs 220)) ∧
      (d = 4 → now < t0 + tUs 220 → Does (.rampEnd e b) s fun t => t.pw.ramp = some (5, t0 + tUs 220)) ∧
      (d = 4 → t0 + tUs 220 ≤ now → Does (.rampEnd e b) s fun t =>
        t.glb.dev = .booting ∧ t.pw.ramp = none ∧ t.pw.seqUp = false ∧ t.tm.bootSel = b))) ∧
  (∀ t0 b, h.pw.ramp = some (5, t0) → t0 ≤ now → Does (.rampEnd e b) s fun t =>
    t.glb.dev = .booting ∧ t.pw.ramp = none ∧ t.pw.seqUp = false ∧ t.tm.bootSel = b) ∧
  (∀ r uv since,
    ((railLevels now h r).1 < uv → since + tUs 20 ≤ now → Does (.railPowerGood ⟨⟨e, uv⟩, since⟩ r) s fun t => railGood t r = true ∧
      ∀ d t0, h.pw.wait = some (d, t0) → railsOk t d = true → t.pw.ramp = some (d, max t0 now)) ∧
    (uv ≤ (railLevels now h r).1 ∨ now < since + tUs 20 → Does (.railPowerGood ⟨⟨e, uv⟩, since⟩ r) s fun t =>
      t.pw.rails = h.pw.rails)) ∧
  (∀ d t0, h.pw.wait = some (d, t0) → t0 + tMs 10 ≤ now →
    (h.pw.seqUp = true → Does (.pwrSeq e) s fun t =>
      t.pw.whole = some 11 ∧ t.pw.report = some 11 ∧ t.pw.cause = 11 ∧ t.pw.causeDom = d ∧ t.pw.wait = none) ∧
    (h.pw.seqUp = false → Does (.pwrSeq e) s (Raised 0xBF h))) ∧
  (∀ t0, h.pw.hold = some t0 →
    (h.pw.again = true → t0 ≤ now → Does (.sequencerRetry e) s fun t => t.pw.hold = none ∧ t.pw.again = false ∧
      (canPowerUp (s.cx e) { h with pw := { h.pw with hold := none, again := false } } = true →
        t.pw.ramp = some (0, now) ∧ t.pw.seqUp = true)) ∧
    (h.pw.again = false → t0 ≤ now + tSec h.pw.holdS / 50 → Does (.holdExpiry e) s fun t => t.pw.hold = none ∧
      (canPowerUp (s.cx e) { h with pw := { h.pw with hold := none } } = true →
        t.pw.ramp = some (0, now) ∧ t.pw.seqUp = true)))

/-- Domains go down (R437, R441 to R444): a rail that is lost, a protective and an orderly power-down of the whole half, and
one domain after the other.
Where the rules leave a point open it is the model's choice: log entry 101. -/
def Obligations.DomainsGoDown : Prop := ∀ (s : State) (e : Evt),
  let h := s.at e
  let now := max s.time e.time
  let whole (c : Nat) (t : Half) : Prop := t.pw.whole = some c ∧ t.pw.report = some c ∧ t.pw.cause = c ∧
    t.pw.downs = namedIn [4, 3, 2, 1, 0] (powered now h) ∧ t.glb.own = false ∧ t.th.roleLine = false
  (∀ r uv since, uv < (railLevels now h r).2 → since + tUs 2 ≤ now →
    (Does (.pwrRailUv ⟨⟨e, uv⟩, since⟩ r) s fun t => railGood t r = false) ∧
    (mayProtect now h = true →
      (r = .core → coreDriven now h = true → Does (.pwrRailUv ⟨⟨e, uv⟩, since⟩ r) s (whole 8)) ∧
      (r = .io → Does (.pwrRailUv ⟨⟨e, uv⟩, since⟩ r) s (whole 9)) ∧
      (r = .lull → Does (.pwrRailUv ⟨⟨e, uv⟩, since⟩ r) s (whole 10))) ∧
    ∀ d, (r = .lane ∨ r = .laneh) ∧ d = 2 ∨ r = .ddq ∧ d = 1 ∨ r = .ana ∧ d = 4 → domUp h d = true →
      Does (.pwrRailUv ⟨⟨e, uv⟩, since⟩ r) s fun t => Raised 0xBA h t ∧ domUp t d = false) ∧
  (∀ c, 5 ≤ c → c ≤ 10 → mayProtect now h = true → Does (.protectivePowerDown e c) s (whole c)) ∧
  (∀ c t0, h.pw.orderly = some (c, t0) → t0 ≤ now → c ≠ 1 ∨ h.glb.role ≠ .active → h.pw.whole = none →
    (h.pw.ramp = none → Does (.halfPowerDown e) s fun t =>
      t.pw.whole = some c ∧ t.pw.cause = c ∧ t.pw.downs = namedIn [4, 3, 2, 1, 0] h.pw.up) ∧
    (h.pw.ramp ≠ none → Does (.halfPowerDown e) s fun t => t.pw.wholeWait = some c)) ∧
  (∀ d l, h.pw.downs = d :: l → d < 5 → h.pw.downAt ≤ now → Does (.domainDown e) s fun t =>
    domUp t d = false ∧ (l ≠ [] → t.pw.downs = l ∧ t.pw.downAt = now + tUs 50) ∧ (d = 0 → t.glb.dev = .lullOnly)) ∧
  (Does (.lullReset e) s fun t => t.glb.dev = .lullOnly ∧ t.pw.up = 0 ∧ t.pw.cause = 0 ∧ railGood t .lull = false) ∧
  (∀ x, Does (.lullPowerUp e x) s fun t => railGood t .lull = true ∧ t.glb.preferred = decide (x = e.half) ∧
    t.ck.xtalStart = now ∧ t.ck.xtalOk = false)

/-- Requests through PWR_REQ (R439, R440): domains up, domains down, the whole half down.
Where the rules leave a point open it is the model's choice: log entry 101. -/
def Obligations.PowerRequestsAct : Prop := ∀ (s : State) (e : Evt) (v : Word), (s.at e).runs = true →
  (s.at e).glb.dev ≠ .lullOnly →
  let h := s.at e
  let now := max s.time e.time
  let new := reqMask v &&& ~~~h.pw.up
  (wbits v 1 0 = 1 → domUp h 0 = false ∨ new = 0 → Does (.domainPowerUp e v) s fun t => t.reg RG.PWR_REQ_STAT = 4#32) ∧
  (wbits v 1 0 = 1 → domUp h 0 = true → new ≠ 0 → busy h = true → Does (.domainPowerUp e v) s fun t =>
    t.reg RG.PWR_REQ_STAT = 2#32 ∧ t.pw.heldUp = h.pw.heldUp ||| new ∧ t.pw.heldDown = h.pw.heldDown &&& ~~~new) ∧
  (∀ d l, wbits v 1 0 = 1 → domUp h 0 = true → namedIn [1, 2, 3, 4] new = d :: l → busy h = false →
    h.pw.wholeWait = none → h.pw.heldDown = 0 → h.pw.heldUp = 0 →
    (railsOk h d = true → Does (.domainPowerUp e v) s fun t =>
      t.pw.ramp = some (d, max now (h.pw.rampedAt + tUs 20)) ∧ t.reg RG.PWR_REQ_STAT = if l = [] then 1#32 else 2#32) ∧
    (railsOk h d = false → Does (.domainPowerUp e v) s fun t =>
      t.pw.wait = some (d, max now (h.pw.rampedAt + tUs 20)) ∧ t.reg RG.PWR_REQ_STAT = if l = [] then 1#32 else 2#32)) ∧
  (wbits v 1 0 = 2 → reqMask v = 0 → Does (.domainPowerDown e v) s fun t => t.reg RG.PWR_REQ_STAT = 4#32) ∧
  (wbits v 1 0 = 2 → reqMask v ≠ 0 → inServiceRole h.glb.role = true → Does (.domainPowerDown e v) s fun t =>
    t.reg RG.PWR_REQ_STAT = 3#32) ∧
  (wbits v 1 0 = 2 → reqMask v ≠ 0 → inServiceRole h.glb.role = false → busy h = true →
    Does (.domainPowerDown e v) s fun t => t.reg RG.PWR_REQ_STAT = 2#32) ∧
  (wbits v 1 0 = 2 → reqMask v ≠ 0 → inServiceRole h.glb.role = false → busy h = false → h.pw.wholeWait = none →
    h.pw.heldDown = 0 → h.pw.heldUp = 0 →
    (reqMask v &&& h.pw.up = 0 → Does (.domainPowerDown e v) s fun t => t.reg RG.PWR_REQ_STAT = 1#32 ∧ t.pw.downs = []) ∧
    (reqMask v &&& h.pw.up ≠ 0 → Does (.domainPowerDown e v) s fun t => t.reg RG.PWR_REQ_STAT = 1#32 ∧
      t.pw.downs = namedIn [4, 3, 2, 1] (reqMask v &&& h.pw.up) ∧ t.pw.downAt = now + tUs 50)) ∧
  (wbits v 1 0 = 3 → inServiceRole h.glb.role = true → Does (.halfDown e v) s fun t => t.reg RG.PWR_REQ_STAT = 3#32) ∧
  (wbits v 1 0 = 3 → inServiceRole h.glb.role = false → h.pw.whole = none → h.pw.ramp = none → Does (.halfDown e v) s fun t =>
    t.reg RG.PWR_REQ_STAT = 1#32 ∧ t.pw.holdS = max 1 (wbits v 31 16) ∧ t.pw.whole = some 3 ∧ t.pw.cause = 3 ∧
    t.pw.downs = namedIn [4, 3, 2, 1, 0] h.pw.up ∧ t.pw.downAt = now + tUs 50) ∧
  (wbits v 1 0 = 3 → inServiceRole h.glb.role = false → h.pw.whole = none → h.pw.ramp ≠ none → Does (.halfDown e v) s fun t =>
    t.reg RG.PWR_REQ_STAT = 1#32 ∧ t.pw.holdS = max 1 (wbits v 31 16) ∧ t.pw.wholeWait = some 3)

/-- The core supply controller (R445 to R454): its target, its slew, and what it reports or shuts down for.
Where the rules leave a point open it is the model's choice: log entries 4 and 101. -/
def Obligations.CoreSupplyActs : Prop := ∀ (s : State) (e : Evt),
  let h := s.at e
  let now := max s.time e.time
  let down (c : Nat) (t : Half) : Prop := t.pw.whole = some c ∧ t.glb.own = false ∧ t.th.roleLine = false
  (∀ sel, Does (.vselChange e sel) s fun t => t.pw.sel = sel.toNat ∧ (h.glb.role ≠ .active → t.pw.target = vTarget t)) ∧
  (∀ v, h.runs = true → h.glb.dev ≠ .lullOnly → Does (.pwrVcfg e v) s fun t =>
    t.reg RG.PWR_VCFG = v &&& 0xF07#32 ∧ (h.glb.role ≠ .active → t.pw.target = vTarget t)) ∧
  (∀ i v, h.runs = true → h.glb.dev ≠ .lullOnly → Does (.pwrVtab e i v) s fun t =>
    (650 ≤ wbits v 9 0 ∧ wbits v 9 0 ≤ 900 ∧ wbits v 9 0 % 5 = 0 → t.reg (RG.PWR_VTAB i) = BitVec.ofNat 32 (wbits v 9 0) ∧
      (vIndex h = i → h.glb.role ≠ .active → t.pw.target = 4 * wbits v 9 0)) ∧
    (¬(650 ≤ wbits v 9 0 ∧ wbits v 9 0 ≤ 900 ∧ wbits v 9 0 % 5 = 0) → t.reg (RG.PWR_VTAB i) = h.reg (RG.PWR_VTAB i) ∧
      t.getF RG.PWR_STATUS 20 20 = 1)) ∧
  (h.pw.slewing = true → setNow now h = h.pw.target → h.pw.pend = false → Does (.slewEnd e) s fun t =>
    t.pw.slewing = false ∧ t.pw.set = h.pw.target) ∧
  (∀ (p : Fin 2) imon, h.pw.phases.getLsbD p = true → coreDriven now h = true → imonBad imon = false → imonAbove h imon (limFast h) = true →
    Does (.fastLimit ⟨e, imon⟩ p) s fun t =>
    Counted RG.PWR_CNT_FASTLIM h t ∧
    (now ≤ vget h.pw.fastAt p + 100000 → vget h.pw.fastRun p = 15 → h.protecting = false → down 5 t)) ∧
  (∀ current since, domUp h 0 = true → coreDriven now h = true → h.pw.orderly = none → since + tMs 1 ≤ now →
    (if h.pw.phases = 3 then 10 else 5) * limSlow h < current → Does (.vcoreOverload ⟨⟨e, current⟩, since⟩) s fun t =>
    Raised 0xBB h t ∧ t.pw.orderly = some (4, now + tUs 200)) ∧
  (∀ (p : Fin 2) imon since, h.pw.phases.getLsbD p = true → coreDriven now h = true → imonBad imon = true → since + tUs 2 ≤ now →
    Does (.vcorePhase ⟨⟨e, imon⟩, since⟩ p) s fun t => (domUp h 0 = true → Raised 0xBC h t) ∧
    t.pw.phases = setBit h.pw.phases p false ∧ (setBit h.pw.phases p false = 0 → h.protecting = false → down 7 t)) ∧
  (∀ mean vr vl since, h.pw.localSense = false → since + tUs 2 ≤ now →
    60000 < max (vr - vl) (vl - vr) ∨ vr < 300000 ∨ 1000000 < vr → Does (.vcoreSense ⟨⟨e, since⟩, vr, vl⟩ mean) s fun t => t.pw.localSense = true ∧
    (domUp h 0 = true → t.pw.delta = clampI mean 0 40 ∧ Raised 0xBD h t) ∧
    (domUp h 0 = false → h.pw.ramp = none → t.pw.delta = 0)) ∧
  (∀ uv since, coreDriven now h = true → h.protecting = false → 250 * setNow now h + 100000 < uv → since + tUs 1 ≤ now →
    Does (.overvoltage ⟨⟨e, uv⟩, since⟩) s (down 6))

/-- The balls and the TAP (R504 to R508): reset held and released, PERST, and the TAP's instructions.
Where the rules leave a point open it is the model's choice: log entries 48 and 61. -/
def Obligations.HalvesResetAndHalt : Prop := ∀ (s : State) (e : Evt),
  let h := s.at e
  (Does (.reset e) s fun t => t.pk.low = true ∧ t.runs = false ∧ t.glb.role = .off ∧ t.glb.own = false ∧
    (h.glb.dev ≠ .lullOnly → t.glb.dev = .booting)) ∧
  (∀ b, h.pk.low = true → Does (.resetRelease e b) s fun t => t.pk.low = false ∧
    (h.glb.dev ≠ .lullOnly → t.glb.dev = .booting ∧ t.tm.bootSel = b)) ∧
  (h.hi.speed ≠ 0 → Does (.pciePerst e) s fun t => Raised 0xC0 h t ∧ t.hi.speed = 0 ∧ t.hi.width = 0) ∧
  (tapOk h = true →
    (∀ x ∈ [(Instr.halt e, 0x20#8), (.extest e, 0x00#8), (.clamp e, 0x04#8), (.highz e, 0x05#8)],
      Does x.1 s fun t => t.pk.ir = x.2 ∧ t.runs = false ∧ t.glb.own = false ∧
        (takesBalls h.pk.ir = false → t.glb.dev.inService = h.glb.dev.inService)) ∧
    (∀ b, Does (.resume e b) s fun t => t.pk.ir = 0x21#8 ∧ t.pk.halt = false ∧
      (h.pk.halt = true → h.glb.dev ≠ .lullOnly → t.glb.dev = .booting)) ∧
    (∀ balls, Does (.samplePreload e balls) s fun t => t.pk.ir = 0x01#8 ∧ t.pk.bsr = balls) ∧
    (Does (.idcode e) s fun t => t.pk.ir = 0x02#8 ∧ Sent (.jtag (max s.time e.time) (idWord e.half)) h t) ∧
    (Does (.bypass e) s fun t => t.pk.ir = 0xFF#8 ∧
      (takesBalls h.pk.ir = true → h.glb.dev ≠ .lullOnly → t.glb.dev = .booting)))

/-- Heartbeats (R31, R289, R290, R307): one is sent and one is noted, their loss is acted on, and a half in service takes
the role where no ACTIVE half is heard. It keeps the role where the
sources that it raises with it are configured to record only, or below HANDOVER where they fence another unit.
Where the rules leave a point open it is the model's choice: log entries 90 and 94. -/
def Obligations.HeartbeatsCarryRoles : Prop := ∀ (s : State) (e : Evt), (s.at e).runs = true →
  (s.at e).glb.dev ≠ .lullOnly →
  let h := s.at e
  let now := max s.time e.time
  (h.th.hbSent < h.ns / 1000 → Does (.heartbeatSend e) s fun t => t.th.hbSent = h.ns / 1000 ∧
    (h.th.lanesTx ≠ 0 → Told now (.heartbeat (ownHeartbeat now h)) h t) ∧
    (h.th.oRole ≠ .off → h.th.hbAt + tUs 1 < now → Counted RG.TH_CNT_HB_MISS h t)) ∧
  (∀ m, h.th.lanesRx = 0 → Does (.heartbeat e m) s fun t => t.th.hbAt = h.th.hbAt ∧ t.th.oRole = h.th.oRole) ∧
  (∀ m, h.th.lanesRx ≠ 0 → Does (.heartbeat e m) s fun t => (m.dev = 1 → t.sd.oadcFence = 0) ∧ t.th.hbAt = now ∧ t.th.hbOk = true ∧ t.th.oRoleHb = m.role ∧
    (staleRole h m = false → t.th.oRole = Role.ofCode m.role) ∧
    (staleRole h m = false → m.role = 3 → h.glb.role = .off → h.glb.dev.inService = true → h.th.stayOff = false →
      t.glb.role = .syncing)) ∧
  (h.th.hbOk = true → h.th.hbAt + tUs 3 ≤ now → Does (.heartbeatLost e) s fun t => t.th.hbOk = false ∧
    (h.glb.role = .active → h.th.oRole = .standby ∨ h.th.oRole = .syncing → h.th.oLeaving = false →
      Raised 0x93 h t ∧ t.th.oRole = .fenced) ∧
    (h.glb.role = .standby ∨ h.glb.role = .syncing → h.th.oRole = .active → t.th.lostAt = some now)) ∧
  (∀ t0, h.th.lostAt = some t0 → h.th.fenced = false → t0 + tNs 200 ≤ now → h.glb.dev.inService = true →
    h.glb.role = .standby ∨ h.glb.role = .syncing → Does (.otherLost e) s fun t =>
      Raised 0x93 h t ∧ t.th.oRole = .fenced ∧
      (h.glb.role = .standby → Raised 0x97 h t ∧ Counted RG.TH_CNT_HANDOVER h t ∧ t.th.lastCause = 4 ∧
        (h.below 4 0x93 = true → h.below 2 0x97 = true → h.below 4 0xF5 = true → t.glb.role = .active)) ∧
      (h.glb.role = .syncing → h.pw.whole = none → h.pw.ramp = none → t.pw.whole = some 2)) ∧
  (h.glb.role = .off → h.glb.dev.inService = true → h.th.stayOff = false → h.th.fenced = false →
    max h.th.activeHbAt h.th.confAt + tUs 3 ≤ now → h.glb.preferred = true ∨ together h = false → h.below 4 0xF5 = true →
    Does (.noActiveHeartbeat e) s fun t => t.glb.role = .active ∧ t.th.activeAt = now)

/-- The lines between the halves (R292 to R295, R299, R307): a ROLE line that drops, two that are asserted, the fence line,
the grant of the shared balls, and the entry to STANDBY.
Where the rules leave a point open it is the model's choice: log entries 93 and 94. -/
def Obligations.RoleAndFenceLinesAct : Prop := ∀ (s : State) (e : Evt),
  let h := s.at e
  let now := max s.time e.time
  let o := (s.cx e).other
  (h.runs = true → h.glb.dev.inService = true → h.glb.role = .standby → h.th.fenced = false → roleOn now o.th = false →
    h.th.oRole = .active ∨ h.th.oFencedMsg = true → o.th.roleLow + tNs 200 ≤ now → dropAnnounced (s.cx e) h = false →
    Does (.roleLineDrop e) s fun t => Raised 0x97 h t ∧ t.th.oRole = .fenced ∧ Counted RG.TH_CNT_HANDOVER h t ∧
      t.th.lastCause = (if h.th.oFencedMsg then 3 else 5) ∧ (h.th.oFencedMsg = false → Raised 0x93 h t) ∧
      (h.below 4 0x93 = true → h.below 2 0x97 = true → h.below 4 0xF5 = true → t.glb.role = .active)) ∧
  (h.runs = true → h.glb.preferred = true → h.th.roleLine = true → o.th.roleLine = true →
    liveReq h.th.fenceReq o.pk.rstAt = none → max h.th.roleHigh o.th.roleHigh + tNs 50 < now →
    Does (.roleConflict e) s fun t => Raised 0x96 h t ∧ t.th.lastCause = 6) ∧
  (arbiter (s.cx e) h = true → h.th.fenced = false → h.glb.dev ≠ .lullOnly → Does (.fenceLine e) s fun t =>
    t.th.fenced = true ∧ t.glb.own = false ∧ t.th.fenceReq = none ∧ t.th.roleLine = false ∧
    (h.glb.dev.inService = true → h.glb.role = .syncing ∨ h.glb.role = .standby ∨ h.glb.role = .active →
      t.glb.role = .fenced)) ∧
  (h.runs = true → h.glb.dev.inService = true → h.glb.role = .active → h.th.fenced = false → h.glb.own = false →
    roleOn now h.th = true → h.protecting = false → roleOn now o.th = false → o.th.roleHigh ≤ now →
    o.glb.own = false → o.th.roleLow + tNs (10 * h.bn BK.RED_GAP_NS) ≤ now →
    Does (.ownershipGrant e) s fun t => t.glb.own = true) ∧
  (h.runs = true → h.glb.dev.inService = true → h.glb.role = .syncing → 1024 ≤ h.th.run → h.th.compared = false →
    h.glb.sealedAt = none → h.below 4 0xF5 = true → h.below 2 0x99 = true → Does (.standbyEntry e) s fun t =>
      t.glb.role = .standby ∧
      (isBarred now h = true → t.th.barRaised = true ∧ (h.th.barRaised = false → Raised 0x99 h t)))

/-- Gander (R302 to R305): the digests of a cycle are compared or not, and what follows from a mismatch.
Where the rules leave a point open it is the model's choice: log entries 91 and 92. -/
def Obligations.GanderJudges : Prop := ∀ (s : State) (e : Evt), (s.at e).runs = true →
  let h := s.at e
  let now := max s.time e.time
  (∀ c st d, h.th.lanesRx ≠ 0 → h.glb.dev.inService = true → h.glb.started = true → c.toNat = h.glb.cycle % 65536 →
    Does (.digest e c st d) s fun t => t.th.oDigest = some (h.glb.cycle, st, d) ∧
      ∀ d0, h.th.ownDigest = some (h.glb.cycle, .normal, d0) → h.th.compared = false → t.th.compared = true ∧
        (st = .normal → d0 = d → t.th.outcome = 0 ∧ t.th.run = min 0xFFFF (h.th.run + 1)) ∧
        (st = .normal → d0 ≠ d → t.th.outcome = 1 ∧ t.th.run = 0 ∧ Raised 0x90 h t ∧ Counted RG.TH_CNT_MISMATCH h t ∧
          (h.th.check = none ∨ h.th.checkAt + verdictWait ≤ now → h.th.failAt = none → t.th.check = some h.glb.cycle)) ∧
        (st ≠ .normal → t.th.outcome = 2 ∧ t.th.run = 0)) ∧
  (h.glb.dev.inService = true → h.glb.started = true → h.th.ownDigest ≠ none → h.th.compared = false →
    h.glb.t0 + tNs (h.glb.ts + 400 + wrapNs h.glb) ≤ now → Does (.digestDeadline e) s fun t =>
      t.th.compared = true ∧ t.th.outcome = 2 ∧ t.th.run = 0) ∧
  (h.glb.role = .active → h.th.oRole = .standby → 16 ≤ h.th.notCmp → h.th.notCmp < 1000 → Does (.ganderBlind e) s fun t =>
    Raised 0x9A h t ∧ t.th.notCmp = 1000) ∧
  (∀ res x, h.th.check ≠ none → h.th.ownVerdict = none → h.glb.dev.inService = true →
    Does (.selfCheck e res x) s fun t => t.th.ownVerdict = some (selfVerdict h res x) ∧
      (selfVerdict h res x ≠ 0 → h.glb.role = .standby ∨ h.glb.role = .syncing ∨
        (h.glb.role = .active ∧ hasFollower h = false) → Raised 0x91 h t) ∧
      (selfVerdict h res x ≠ 0 → h.glb.role = .active → hasFollower h = true → h.th.oVerdict = none →
        t.th.failAt = some (h.th.checkAt + verdictWait))) ∧
  (∀ t0, h.th.failAt = some t0 → h.glb.role = .active → t0 ≤ now → Does (.activeSelfCheckFail e) s fun t =>
    Raised 0x91 h t ∧ t.th.failAt = none ∧ t.th.check = none)

/-- Leaving, restarting and reverting (R311 to R314), and the Tether's own errors (R286, R288).
Where the rules leave a point open it is the model's choice: log entry 4. -/
def Obligations.HalvesLeaveAndReturn : Prop := ∀ (s : State) (e : Evt),
  let h := s.at e
  let now := max s.time e.time
  (h.runs = true →
    (revertReady now h = true → announced h = none → h.glb.started = true → Does (.revert e) s fun t =>
      t.th.planned = h.th.planned ++ [(h.glb.cycle + ceilDiv (now + tMs 1 - h.glb.t0) (tcNow h), e.half.other, 2)]) ∧
    (∀ v, h.glb.dev ≠ .lullOnly → wbit v 0 = true → Does (.leave e v) s fun t =>
      (h.glb.role = .standby ∨ h.glb.role = .syncing ∨ h.glb.role = .fenced →
        t.reg RG.TH_CTRL_STAT = 1#32 ∧ (h.th.leaving = none → t.th.leaving = some now)) ∧
      (h.glb.role = .off ∨ h.glb.role = .active ∨ h.glb.role = .updating →
        t.reg RG.TH_CTRL_STAT = 2#32 ∧ t.th.leaving = h.th.leaving)) ∧
    (∀ t0, h.th.leaving = some t0 → t0 + tUs 10 ≤ now →
      (mayLeave h = true → Does (.leaveOff e) s fun t => t.glb.role = .off ∧ t.th.stayOff = true ∧ t.th.leaving = none) ∧
      (mayLeave h = false → Does (.leaveOff e) s fun t => t.th.stayOff = h.th.stayOff ∧ t.th.leaving = none)) ∧
    (∀ v, h.glb.dev ≠ .lullOnly → wbit v 1 = true → Does (.restart e v) s fun t =>
      (h.glb.role = .standby ∨ h.glb.role = .active → t.reg RG.TH_CTRL_STAT = 2#32 ∧ t.pw.whole = h.pw.whole) ∧
      (h.glb.role = .off ∨ h.glb.role = .syncing ∨ h.glb.role = .fenced ∨ h.glb.role = .updating →
        t.reg RG.TH_CTRL_STAT = 1#32 ∧ (h.pw.whole = none → h.pw.ramp = none → t.pw.whole = some 2))) ∧
    (∀ v, h.glb.dev ≠ .lullOnly → wbit v 2 = true → Does (.clrHist e v) s fun t =>
      t.reg RG.TH_CTRL_STAT = 1#32 ∧ t.th.fenceHist = [] ∧ t.th.barRaised = false) ∧
    (h.th.lanesRx ≠ 0 → Does (.tetherMessageCrc e) s fun t => Counted RG.TH_CNT_MSG_CRC h t ∧
      (15 ≤ (h.th.crcHist.filter fun a => decide (now < a + tMs 1)).length → Raised 0x9B h t ∧ t.th.crcHist = []))) ∧
  (∀ up, laneOn h = true → Does (.tetherLane e up) s fun t => t.th.lanesRx = up ∧
    (laneCount up < laneCount h.th.lanesRx → Raised 0x95 h t))

/-- What the other half's messages do (R57, R58, R103, R127, R145, R265, R268, R270, R272, R273, R278, R282, R287, R288, R377,
R471): every kind of RELAY, and the three parts of the state that a half takes (R297, R298, R491). In every state and for every
message both complete.
Where the rules leave a point open it is the model's choice: log entries 2, 76, 88, 111 and 117. -/
def Obligations.RelaysAndTransfersArrive : Prop := ∀ (s : State) (e : Evt), (s.at e).runs = true →
  let h := s.at e
  let now := max s.time e.time
  let o := (s.cx e).other
  (∀ m, h.th.lanesRx = 0 ∨ h.glb.dev = .lullOnly → Does (.relay e m) s fun t => t.sd = h.sd ∧ t.rings = h.rings ∧
    t.svc = h.svc ∧ t.tb = h.tb) ∧
  (h.th.lanesRx ≠ 0 → h.glb.dev ≠ .lullOnly →
    (∀ k pos b, (h.glb.dev.inService = false → Does (.relay e (.wrap k pos b)) s fun t => t.rings = h.rings) ∧
      (h.glb.dev.inService = true → Does (.relay e (.wrap k pos b)) s fun t =>
        (b = false → (t.ring k).nextA = max (h.ring k).nextA pos) ∧
        (b = true → (t.ring k).nextB = if (h.ring k).nextB = 0 then pos else min (h.ring k).nextB pos))) ∧
    (∀ k f, (onRings h = false → Does (.relay e (.svc k f)) s fun t => t.svc = h.svc) ∧ (onRings h = true →
      (svcFrom f = 0 → laneOn h = false ∨ h.th.fenced = true → Does (.relay e (.svc k f)) s fun t => t.svc = h.svc) ∧
      (svcFrom f = 0 → laneOn h = true → h.th.fenced = false → Does (.relay e (.svc k f)) s fun t =>
        Sent (.svc (svcStart now k f.data.length h) k (svcFrame e.half (svcTo f) (svcKind f) (vget h.svc k).seq false f.data)) h t) ∧
      (svcFrom f ≠ 0 → svcFrom f ≤ 16 → svcKind f = 0x05 → Does (.relay e (.svc k f)) s fun t =>
        ∀ w ∈ (vget t.svc k).wait, w.pos = svcFrom f → w.seq = bits (svcPay f 0) 15 0 → w.kind = 0x20) ∧
      (svcFrom f ≠ 0 → svcFrom f ≤ 16 → svcKind f = 0x10 → h.glb.role = .active → ∀ c, boundAt h k (svcFrom f) = some c →
        waveRing h c = none → Does (.relay e (.svc k f)) s fun t => Counted RG.HI_CNT_WAVE_UNROUTED h t) ∧
      (16 < svcFrom f → Does (.relay e (.svc k f)) s fun t => t.svc = h.svc ∧ t.rings = h.rings))) ∧
    (∀ r, (h.glb.role = .active → r.shared = false ∨ h.sd.sharedRecs.contains (recKey r) = false → h.sd.queue.length < 512 →
        Does (.relay e (.record r)) s fun t => t.sd.queue = insRec (raisedWhen (s.cx e) r, r) h.sd.queue) ∧
      (h.glb.role = .active → r.shared = false ∨ h.sd.sharedRecs.contains (recKey r) = false → 512 ≤ h.sd.queue.length →
        Does (.relay e (.record r)) s fun t => t.sd.queue = h.sd.queue ∧ Counted RG.SD_CNT_DROP h t) ∧
      (h.glb.role ≠ .active ∨ (r.shared = true ∧ h.sd.sharedRecs.contains (recKey r) = true) →
        Does (.relay e (.record r)) s fun t => t.sd.queue = h.sd.queue)) ∧
    (∀ u, (isFenced e.half h u = false → Does (.relay e (.fence u)) s fun t =>
        t.sd.fences = h.sd.fences ++ [⟨u, relayFenceAt (s.cx e) u⟩]) ∧
      (isFenced e.half h u = true → Does (.relay e (.fence u)) s fun t => t.sd.fences = h.sd.fences)) ∧
    (∀ mv lv gust src cyc, Does (.relay e (.trip mv lv gust src cyc)) s fun t =>
      (∃ x ∈ t.sd.trips, x.stages = b2n mv + 2 * b2n lv ∧ x.gust = gust) ∧
      (mv = true → h.glb.mv ≠ .stopped → h.glb.mv ≠ .tripped → hasDecided h src.toNat cyc.toNat = false →
        t.sd.hold = 7 ∧ t.sd.decisions.length = h.sd.decisions.length + 1) ∧
      (mv = false ∨ h.glb.mv = .stopped ∨ h.glb.mv = .tripped ∨ hasDecided h src.toNat cyc.toNat = true →
        t.sd.decisions = h.sd.decisions)) ∧
    (∀ cl tr st, Does (.relay e (.hold cl tr st)) s fun t => t.sd.hold = h.sd.hold ||| cl) ∧
    (∀ cl, Does (.relay e (.holdRelease cl)) s fun t => t.sd.holdRelease = h.sd.holdRelease ||| (cl &&& h.sd.hold)) ∧
    (∀ (k : RingNo) n src sp cu,
      let later := (h.ring k).wrapped || (h.glb.dev.inService && h.glb.started && decide (h.glb.cycle < n.toNat))
      (later = true → Does (.relay e (.hops k n src sp cu)) s fun t =>
        (t.ring k).newDelays = some (n.toNat, src.val, sp, cu) ∧ (t.ring k).spans = (h.ring k).spans) ∧
      (later = false → Does (.relay e (.hops k n src sp cu)) s fun t =>
        (t.ring k).newDelays = none ∧ (t.ring k).spans = sp ∧ (t.ring k).cuts = cu ∧ (t.ring k).src = src.val)) ∧
    (∀ k x, Does (.relay e (.loop k x)) s fun t => (t.ring k).otherLoop = some x) ∧
    (∀ p c, Does (.relay e (.clear p c)) s fun t =>
      (∀ i < 13, p.getLsbD i = true → ∃ q ∈ t.sd.clear, q.unit = 11 ∧ q.index = i) ∧
      (∀ i < 24, c.getLsbD i = true → ∃ q ∈ t.sd.clear, q.unit = 10 ∧ q.index = i)) ∧
    (∀ mv lv, let d := b2n mv + 2 * b2n lv
      (Does (.relay e (.degClear mv lv)) s fun t => t.sd.degClear = h.sd.degClear ++ [(0, d)]) ∧
      (Does (.relay e (.degrade mv lv)) s fun t => t.sd.deg = h.sd.deg ||| BitVec.ofNat 2 d) ∧
      Does (.relay e (.degBack mv lv)) s fun t => t.sd.deg = h.sd.deg &&& ~~~(BitVec.ofNat 2 d)) ∧
    (∀ c, (h.glb.role = .active → Does (.relay e (.trigger c)) s fun t => (c, e.half.other.bit, h.glb.cycle) ∈ t.me.trigs) ∧
      (h.glb.role ≠ .active → Does (.relay e (.trigger c)) s fun t => t.me.opened = h.me.opened)) ∧
    (∀ n c, (h.me.armed = true → h.glb.role = .standby → h.me.opened.any (fun r => r.num == n) = false →
        (h.me.frozen.length < 16 → h.me.opened = none → Does (.relay e (.recOpen n c)) s fun t => t.me.opened.isSome = true) ∧
        (16 ≤ h.me.frozen.length → Does (.relay e (.recOpen n c)) s (Raised 0xA9 h))) ∧
      (h.me.armed = false ∨ h.glb.role ≠ .standby → Does (.relay e (.recOpen n c)) s fun t => t.me.opened = h.me.opened)) ∧
    (∀ n d, (h.glb.role ≠ .active → h.tb.step = none → Does (.relay e (.timeStep n d)) s fun t => t.tb.step = some (n, d)) ∧
      (h.glb.role = .active ∨ h.tb.step ≠ none → Does (.relay e (.timeStep n d)) s fun t => t.tb.step = h.tb.step)) ∧
    (∀ c n lost, (followsDispute h = false → Does (.relay e (.dispute c n lost)) s fun t => t.an = h.an) ∧
      (followsDispute h = true → c.toNat = h.glb.cycle % 2 ^ 32 → h.glb.sealedAt = none →
        Does (.relay e (.dispute c n lost)) s fun t => t.an.verdicts = h.an.verdicts ++ [(c.toNat, n.val, lost)]))) ∧
  (∀ (c : Chunk) (x : BitVec 64), let i := partIdx c.part
    let fits := c.offset = 0 ∨ vget h.xf.next i = some c.offset
    (h.th.lanesRx = 0 ∨ takesPart c.part h = false → Does (.stateXfer e c x Config.tetherMajor) s fun t =>
      t.xf = h.xf ∧ t.th.gotSlow = h.th.gotSlow) ∧
    (h.th.lanesRx ≠ 0 → takesPart c.part h = true → fits → c.last = false →
      Does (.stateXfer e c x Config.tetherMajor) s fun t => vget t.xf.next i = some (c.offset + c.len.val) ∧
        t.xf.oxIn = h.xf.oxIn ∧ t.xf.ltIn = h.xf.ltIn ∧ t.th.gotSlow = h.th.gotSlow) ∧
    (h.th.lanesRx ≠ 0 → takesPart c.part h = true → ¬fits → Does (.stateXfer e c x Config.tetherMajor) s fun t =>
      vget t.xf.next i = none ∧ t.xf.oxIn = h.xf.oxIn ∧ t.xf.ltIn = h.xf.ltIn ∧ t.th.gotSlow = h.th.gotSlow) ∧
    (h.th.lanesRx ≠ 0 → takesPart c.part h = true → fits → c.last = true →
      Does (.stateXfer e c x Config.tetherMajor) s fun t => vget t.xf.next i = none ∧
        (c.part = .slow → let q := o.xf.slowOut.getD (slowOf o)
          t.th.gotSlow = true ∧ t.ox.installAt = some x.toNat ∧ t.glb.live = q.glb.live ∧ t.glb.pend = q.glb.pend ∧
          t.glb.commits = q.glb.commits ∧ t.glb.mv = q.glb.mv ∧ t.glb.lv = q.glb.lv) ∧
        (c.part = .ox → t.xf.oxIn = o.xf.oxOut.filter (fun q => q.1 == x.toNat) ∧ t.cells = h.cells) ∧
        (c.part = .lt → t.xf.ltIn = o.xf.ltOut.filter (fun q => q.1 == x.toNat) ∧ t.lt = h.lt)) ∧
    ∀ m, m ≠ Config.tetherMajor → let f : Evt := { e with half := e.half.other }
      (h.glb.role ≠ .syncing → h.th.lanesRx ≠ 0 → takesPart c.part h = true → fits → c.last = false →
        Does (.stateXfer e c x m) s fun t => vget t.xf.next i = some (c.offset + c.len.val)) ∧
      (h.glb.role = .syncing → h.th.lanesRx ≠ 0 → ∃ t, exec (.stateXfer e c x m) s = .next t ∧
        (t.half e.half).xf = (s.half e.half).xf ∧ (t.half e.half).th.gotSlow = (s.half e.half).th.gotSlow ∧
        ((s.at f).runs = true → (s.at f).glb.role = .active → Raised 0x94 (s.at f) (t.half e.half.other))))

/-- The cycle's instants up to SEAL (R25, R145 to R150, R318, R341): T0 and what the TH registers show of it, the header of the snapshot, the slot maps and records
of the other half, and SEAL itself.
Where the rules leave a point open it is the model's choice: log entries 77, 78, 97, 100, 106 and 108. -/
def Obligations.CyclesSeal : Prop := ∀ (s : State) (e : Evt), (s.at e).runs = true →
  let h := s.at e
  let now := max s.time e.time
  (t0Due h = true → h.glb.role ≠ .updating ∨ h.tm.upd ≠ 4 → Does (.t0 e) s fun t =>
    t.glb.cycle = (if h.glb.started then h.glb.cycle + 1 else 0) ∧ t.glb.t0 = now ∧ t.glb.sealedAt = none ∧
    t.glb.dispAt = none ∧ (∀ x ∈ t.hi.held, t.glb.cycle ≤ x.cycle) ∧
    (t.glb.dev.inService = true → ∀ n < 13, vget t.th.shown n = thWord now t n)) ∧
  (h.glb.role = .active → h.glb.dev.inService = true → h.glb.started = true → h.glb.sealedAt = none → h.th.hdrSent = false →
    h.glb.t0 + tNs (h.glb.ts - 40) ≤ now → Does (.snapshotSend e) s fun t => t.th.hdrSent = true ∧
      ∃ d, t.th.hdr = some d ∧ d.cycle = BitVec.ofNat 64 h.glb.cycle ∧ d.commits = h.glb.commits ∧
        (hasFollower h = true → h.th.lanesTx ≠ 0 →
          Told now (.snap (.header d.cycle d.commits d.w3 d.nCmd d.fences d.throttle)) h t)) ∧
  (∀ k : RingNo, gathering h = true → (h.ring k).trains = 0 → h.glb.t0 + tNs (h.glb.ts - 20) ≤ now →
    Does (.slotMapDeadline e k) s fun t => (t.ring k).mapSent = true ∧ (t.ring k).trains = 1 ∧
      (h.th.lanesTx ≠ 0 → h.glb.role ≠ .active ∨ hasFollower h = true → Told now (.slotMap k (slotMask (h.ring k).slots)) h t)) ∧
  (sealDue now h = true → Does (.seal e) s fun t => t.glb.sealedAt = some now ∧ t.glb.cycle = h.glb.cycle ∧
    t.glb.t0 = h.glb.t0) ∧
  (h.th.lanesRx ≠ 0 → h.glb.dev.inService = true → h.glb.role = .standby ∨ h.glb.role = .syncing →
    (∀ c n w f z q, Does (.snapshot e (.header c n w z f q)) s fun t =>
      (h.glb.sealedAt = none → t.th.hdr = some ⟨c, n, w, z, f, q⟩) ∧
      (h.glb.sealedAt ≠ none → Counted RG.TH_CNT_LATE h t ∧ t.th.hdr = h.th.hdr)) ∧
    (∀ d, Does (.snapshot e (.digest d)) s fun t => t.th.oSnapDigest = some d ∧
      (h.glb.role = .standby → h.glb.sealedAt ≠ none → h.ox.abstain = false → d ≠ h.ox.snapDigest →
        t.ox.abstain = true ∧ Raised 0x86 h t ∧ Counted RG.OX_CNT_ABSTAIN h t))) ∧
  (h.th.lanesRx ≠ 0 → h.glb.dev.inService = true → h.glb.started = true →
    (∀ k m, Does (.slotMap e k m) s fun t =>
      (h.glb.sealedAt = none → (t.ring k).omap = some ((h.ring k).omap.getD 0 ||| m) ∧
        (h.th.lanesTx ≠ 0 → h.glb.role ≠ .active ∨ hasFollower h = true →
          ∀ x ∈ (h.ring k).slots, m.getLsbD x.pos.val = false → (h.ring k).sentRecs.getLsbD x.pos.val = false →
          (∀ y ∈ (h.ring k).slots, y.pos = x.pos → y = x) → Told now (.slotRec x) h t)) ∧
      (h.glb.sealedAt ≠ none → Counted RG.TH_CNT_LATE h t)) ∧
    (∀ rs, Does (.slotRec e rs) s fun t =>
      (h.glb.sealedAt = none → ∀ x ∈ rs, hasSlot (t.ring x.ring).oslots (x.pos.val + 1) = true) ∧
      (h.glb.sealedAt ≠ none → t.reg RG.TH_CNT_LATE = sat32 (h.reg RG.TH_CNT_LATE) rs.length)))

/-- What follows SEAL (R154, R159, R165, R176, R179, R180, R197, R220, R302, R340): the sources of the cells, DISPATCH, the
end of the Loop Table's pass, and the apply instant.
Where the rules leave a point open it is the model's choice: log entries 81 and 102. -/
def Obligations.CyclesDispatch : Prop := ∀ (s : State) (e : Evt), (s.at e).runs = true →
  let h := s.at e
  let now := max s.time e.time
  (∀ c : CtxNo, afterSeal h = true →
    ((h.cell c).satCnt = 100 → Does (.cellDabSat e c) s (Raised 0x2B h)) ∧
    ((h.cell c).isenseCnt = h.bn BK.OX_ISENSE_CNT → Does (.cellIsenseDev e c) s fun t =>
      Raised 0x2A h t ∧ (t.cell c).isenseCnt = h.bn BK.OX_ISENSE_CNT + 1) ∧
    (aged now h (h.cell c).id.capSince (h.cell c).id.capLatch = true → Does (.cellCapAgeing e c false) s fun t =>
      Raised 0x28 h t ∧ (t.cell c).id.capLatch = true) ∧
    (aged now h (h.cell c).id.indSince (h.cell c).id.indLatch = true → Does (.cellCapAgeing e c true) s fun t =>
      Raised 0x29 h t ∧ (t.cell c).id.indLatch = true)) ∧
  (h.ox.prePhase = 1 → h.ox.preRaised = false → h.ox.preAt + tMs (h.bn BK.OX_PRE_TPASS) ≤ now →
    Does (.oxPrechargeTimeout e) s fun t => Raised 0x84 h t ∧ t.ox.preRaised = true) ∧
  (∀ residue, dispatchDue now h = true → Does (.dispatch ⟨e, residue⟩) s fun t =>
    let st := digStatus (noteResidue residue h)
    t.glb.dispAt = some now ∧
    t.ox.digest = crc64 (digestBytes h) ∧ t.th.ownDigest = some (h.glb.cycle, st, crc64 (digestBytes h)) ∧
    t.lv.refs = (List.range 32).map (fun i => sinkRaw h (1540 + i)) ∧ t.hi.outcomes = [] ∧
    (h.th.lanesTx ≠ 0 → Told now (.digest (BitVec.ofNat 16 h.glb.cycle) st (crc64 (digestBytes h))) h t) ∧
    RaisedTimes residue 0x80 h t ∧ (residue ≠ 0 → t.ox.residue = true ∧ st = .residue ∧
      t.reg RG.OX_CNT_RESIDUE = sat32 (h.reg RG.OX_CNT_RESIDUE) residue)) ∧
  (∀ p residue, h.glb.dev.inService = true → h.lt.pass = some p → p.start + passLen h p * ltClk h ≤ now →
    Does (.passComplete ⟨e, residue⟩) s fun t => t.lt.pass = none ∧ t.lt.overrun = false ∧
      t.reg RG.LT_PASS = BitVec.ofNat 32 (min (passLen h p) 0x1FFFF)) ∧
  (h.glb.dev.inService = true → h.glb.started = true → h.glb.applied = false → h.glb.t0 + tNs h.glb.ta ≤ now →
    Does (.applyInstant e) s fun t => t.glb.applied = true ∧ t.lv.starting = false ∧ t.lv.stopNow = false ∧
      t.lv.forceCmds = [])

/-- PTP (R381 to R393, R412): links, masters, offsets, peer delay.
Where the rules leave a point open it is the model's choice: log entries 41 and 62. -/
def Obligations.PtpFollowsItsMaster : Prop := ∀ (s : State) (e : Evt), (s.at e).runs = true → netUp (s.at e) = true →
  (s.at e).below 4 0xDC = true →
  let h := s.at e
  let now := max s.time e.time
  (Does (.ptpGmLo e) s fun t =>
    t.net.gmHi = ((selMaster h).map fun (x : Master) => (x.m.gm >>> 32).setWidth 32).getD (0 : Word)) ∧
  (h.tb.disc = 1 → h.net.lost = false → h.net.usedAt + tMs (h.bn BK.PTP_LOSS_MS) ≤ now → Does (.noOffsetTimeout e) s fun t =>
    t.net.lost = true ∧ t.net.cause = 1 ∧ Raised 0xDE h t) ∧
  ∀ p : PortNo,
    (∀ up bad, Does (.ethLink e p up bad) s fun t => (portOf t p).link = (up && !bad) ∧
      ((portOf h p).link = true → (up && !bad) = false → Raised 0xD0 h t)) ∧
    (Does (.followUpTimeout e p) s fun t =>
      t.reg RG.PTP_CNT_FUP_MISS = sat32 (h.reg RG.PTP_CNT_FUP_MISS)
        ((portOf h p).pend.filter fun x => decide (x.2.2.2 + tSec 1 < now)).length ∧
      ∀ x ∈ (portOf t p).pend, now ≤ x.2.2.2 + tSec 1) ∧
    (∀ src, h.net.masters.any (fun x => x.port == p && x.m.source == src &&
        decide (x.lastAt + h.bn BK.PTP_ANN_TIMEOUT * annInterval x.m ≤ now)) = true →
      Does (.announceTimeout e p src) s fun t => ∀ x ∈ t.net.masters, x.port = p → x.m.source = src →
        now < x.lastAt + h.bn BK.PTP_ANN_TIMEOUT * annInterval x.m) ∧
    (portOk h p = true →
      (∀ m, Does (.announce e p m) s fun t =>
        (annOk h m = true → ∃ x ∈ t.net.masters, x.port = p ∧ x.m = m ∧ x.lastAt = now) ∧
        (annOk h m = false → ∀ x ∈ t.net.masters, x.port = p → x.m.source ≠ m.source)) ∧
      (∀ m, h.net.sel = some (p.val, m.source) → m.domain = h.bn BK.PTP_DOMAIN → Does (.sync e p m) s fun t =>
        Counted RG.PTP_CNT_SYNC h t ∧
        (m.twoStep = true → (m.source, m.seq, ethStamp h p false, now) ∈ (portOf t p).pend) ∧
        (m.twoStep = false → h.tb.disc = 1 → h.tb.st ≠ 1 → t.net.usedAt = now ∧ t.net.lost = false)) ∧
      (∀ m x, h.net.sel = some (p.val, m.source) → m.domain = h.bn BK.PTP_DOMAIN → x ∈ (portOf h p).pend →
        x.1 = m.source → x.2.1 = m.seq → now ≤ x.2.2.2 + tSec 1 → Does (.followUp e p m) s fun t =>
          x ∉ (portOf t p).pend ∧ (h.tb.disc = 1 → h.tb.st ≠ 1 → t.net.usedAt = now ∧ t.net.lost = false)) ∧
      ((portOf h p).req = none ∨ (portOf h p).reqAt + tSec 1 ≤ now → (portOf h p).egress = [] →
        Does (.pdelayReqSend e p) s fun t => (portOf t p).reqSeq = (portOf h p).reqSeq + 1 ∧ (portOf t p).reqAt = now ∧
          ((portOf h p).busy ≤ now → Sent (.eth now p (.pdelayReq (ptpTag h) ((portOf h p).reqSeq + 1))) h t)) ∧
      (∀ src q, (portOf h p).egress = [] → Does (.pdelayReq e p src q) s fun t =>
        ((portOf h p).busy ≤ now → Sent (.eth now p (.pdelayResp (ptpTag h) src q 0)) h t) ∧
        (now < (portOf h p).busy → (portOf t p).egress = [(0, now, .pdelayResp (ptpTag h) src q 0)])) ∧
      (∀ q two t2 corr t1, (portOf h p).egress = [] → openReq now h p q = some t1 → Does (.pdelayResp e p q two t2 corr) s fun t =>
        (two = true → (portOf t p).two = some (t2 * 65536, ethStamp h p false, corr)) ∧
        (two = false → (portOf t p).pds =
          (((ethStamp h p false - t1 - corr) / 2) :: (portOf h p).pds).take 16)) ∧
      (∀ q t3 corr t1 t2 t4 c, (portOf h p).egress = [] → openReq now h p q = some t1 → (portOf h p).two = some (t2, t4, c) →
        Does (.pdelayRespFollowUp e p q t3 corr) s fun t => (portOf t p).two = none ∧
          (portOf t p).pds = (((t4 - t1 - (t3 * 65536 - t2) - c - corr) / 2) :: (portOf h p).pds).take 16))

/-- The frames of the station network (R382, R392, R394 to R408): forwarding, sampled values, GOOSE, PRP, and frames that
are discarded.
Where the rules leave a point open it is the model's choice: log entries 40, 62, 63 and 64. -/
def Obligations.StationFramesAct : Prop := ∀ (s : State) (e : Evt), (s.at e).runs = true → netUp (s.at e) = true →
  (s.at e).below 4 0xDC = true →
  let h := s.at e
  let now := max s.time e.time
  let idle (p : Nat) : Prop := (portOf h p).egress = [] ∧ (portOf h p).busy ≤ now
  (∀ (i : Fin 8) x, nextFrame h i = some x → h.glb.dev.inService = true →
    addI (x.tLast i) x.shift + 1000 * publishDelay h x.cfg.bank i ≤ h.ns → Does (.svFrame e i) s fun t =>
      (vget t.net.sv i).from_ = x.tLast i + 1 ∧ (vget t.net.sv i).smpCnt = x.j ∧
      let due := addI (x.tLast i) x.shift + 1000 * publishDelay h x.cfg.bank i
      (wasActive (now - tNs (h.ns - due)) h = true → h.below 4 0xD6 = true →
        (∀ p ∈ svPorts h x.cfg.bank i, idle p → Sent (.eth now p (.sv i due (svFrame (s.cx e) h x i p))) h t) ∧
        (idle 0 → idle 1 → svPorts h x.cfg.bank i ≠ [] → due + 20000 < h.ns → (vget h.net.sv i).late ≠ some due →
          Raised 0xDC h t ∧ Counted RG.SV_CNT_LATE h t))) ∧
  (∀ b : Fin 16, goAlive h b = true → (goOf h b).expiry < now → Does (.gooseExpiry e b) s fun t =>
    (goOf t b).expired = true ∧ (goOf t b).sim = false ∧ (h.glb.role = .active → h.below 4 0xD8 = true → h.below 4 0xD9 = true → h.below 4 0xDA = true → h.below 4 0xDB = true → Raised 0xD4 h t) ∧
    ∀ j ∈ pointsOf h b, (h.bn (BK.GO_PT_FAIL j) = 1 → t.net.points.getLsbD j = false) ∧
      (h.bn (BK.GO_PT_FAIL j) = 2 → t.net.points.getLsbD j = true)) ∧
  (h.glb.dev.inService = true → ethMode h = 1 → h.net.supAt + tMs (h.bn BK.PRP_LIFE_MS) ≤ now →
    Does (.prpSupervisionSend e) s fun t => t.net.supAt = now ∧ t.net.prpSeq = h.net.prpSeq + 1 ∧
      ∀ p ∈ [0, 1], portOk h p = true → idle p →
        Sent (.eth now p (.supervision (supFrame e.half h p))) h t) ∧
  (∀ src, Does (.nodeTableAgeing e src) s fun t => ∀ x ∈ t.net.nodes, x.src = src → now < x.at_ + tSec 60) ∧
  ∀ p : PortNo,
    (h.glb.dev.inService = true → ethMode h = 1 → (portOf h p).lanQuiet = false → h.sd.ethFence.getLsbD p = false →
      (portOf h p).trailAt + tMs (3 * h.bn BK.PRP_LIFE_MS) ≤ now → Does (.prpLan e p) s fun t =>
        Raised 0xD7 h t ∧ (portOf t p).lanQuiet = true) ∧
    ((portOf h p).link = true →
      (∀ src x, Does (.ethFrameDiscard e p (.oversize src x)) s (Counted RG.ETH_CNT_OVERSIZE h)) ∧
      (∀ src x, Does (.ethFrameDiscard e p (.notTaken src x)) s fun t => Counted RG.ETH_CNT_DISCARD h t ∧
        (∀ y, x = some y → y.suffix = 0x88FB → ethMode h = 1 → portOk h p = true → (portOf t p).trailAt = now)) ∧
      (Does (.ethFrameDiscard e p .fcs) s fun t => Counted RG.ETH_CNT_FCS h t ∧
        (15 ≤ (h.net.fcs.filter fun a => decide (now ≤ a + tSec 1)).length → Raised 0xD1 h t))) ∧
    (∀ f, forwarding h = true → f.fcsOk = true → f.dst ≠ Config.mac e.half 0 → f.dst ≠ Config.mac e.half 1 →
      f.kind ≠ .pdelay → f.kind ≠ .delayReqResp → idle (1 - p.val) → Does (.forward e p f) s fun t =>
        Sent (.eth now (1 - p.val) (.frame f)) h t) ∧
    (portOk h p = true →
      (∀ src x, x.suffix = 0x88FB → ethMode h = 1 → Does (.prpSupervision e p src x) s fun t => (portOf t p).trailAt = now ∧
        (portOf t p).lanQuiet = false ∧
        (h.net.nodes.length < 128 → ∃ n ∈ t.net.nodes, n.src = src ∧ n.at_ = now)) ∧
      (∀ f x, f.prp = some x → (prpAccept now p f.src x h).1 = false → Does (.goose e p f) s fun t =>
        Counted RG.PRP_CNT_DUP h t ∧ t.net.go = h.net.go ∧ t.net.points = h.net.points) ∧
      (∀ f b, (∀ x, f.prp = some x → (prpAccept now p f.src x h).1 = true) → goMatch h p f = some b →
        let rev := h.bw (BK.GO_CB_CONFREV b)
        let good := f.ndsCom = false ∧ (rev = 0 ∨ f.confRev = rev) ∧ ∀ j ∈ pointsOf h b, (pointValue h f.data j).isSome = true
        let fresh := goAlive h b = false ∨ (goOf h b).st ≠ f.stNum ∨ (goOf h b).sq.toNat < f.sqNum.toNat
        Does (.goose e p f) s fun t =>
          (f.sim = true → h.bf BK.GO_SIM = false → Counted RG.GO_CNT_SIM h t ∧ t.net.go = h.net.go) ∧
          (f.sim = false → (goOf h b).sim = true → t.net.go = h.net.go ∧ t.net.points = h.net.points) ∧
          ((f.sim = true → h.bf BK.GO_SIM = true) → (f.sim = false → (goOf h b).sim = false) →
            (¬ good → Counted RG.GO_CNT_MISMATCH h t ∧ (goOf t b).badRun = true ∧ ((goOf h b).badRun = false → Raised 0xD5 h t)) ∧
            (good → (goOf t b).seen = true ∧ (goOf t b).expired = false ∧
              (goOf t b).expiry = now + tMs (max f.tal (h.bn BK.GO_TAL_MIN)) ∧
              (fresh → (goOf t b).st = f.stNum ∧ (goOf t b).sq = f.sqNum ∧
                ∀ j ∈ pointsOf h b, ∀ v, pointValue h f.data j = some v → t.net.points.getLsbD j = v) ∧
              (¬ fresh → Counted RG.GO_CNT_STALE h t ∧ t.net.points = h.net.points)))))

/-- Boot, trial and update (R484 to R493): the images that verify are taken, the key hash is programmed, an image that has
been read is judged, and a trial that is not confirmed ends.
Where the rules leave a point open it is the model's choice: log entries 5, 6, 49 and 50. -/
def Obligations.ImagesAreTaken : Prop := ∀ (s : State) (e : Evt), (s.at e).runs = true →
  let h := s.at e
  let now := max s.time e.time
  let took (f : Flash) (t : Half) : Prop := ∀ c,
    (bootOrder h f.cfgActive).find? (fun x => verifies e.half h 1 (cfgImage f x)) = some c →
    t.tm.cfgSlot = c ∧ t.tm.bootEnd = now ∧ t.glb.live = imageBank (imgPayload (cfgImage f c)) ∧ t.glb.started = false ∧
    (t.glb.dev.inService = true ∨ t.glb.dev = .safe)
  (∀ f, h.glb.dev = .booting → h.tm.waitKey = none → (pllOf h 0).locked = true → h.pw.whole = none →
    Does (.bootComplete e f) s fun t =>
      ((∀ x, verifies e.half h 0 (fwImage f x) = false) → t.pw.whole = some 0 ∧ t.pw.cause = h.pw.cause) ∧
      (∀ x, (bootOrder h f.fwActive).find? (fun x => verifies e.half h 0 (fwImage f x)) = some x →
        t.tm.fwSlot = x ∧ (ckeySet e.half h = false → t.tm.waitKey = some f ∧ t.glb.dev = .booting) ∧
        (ckeySet e.half h = true → took f t))) ∧
  (∀ f v, h.tm.waitKey = some f → h.glb.dev = .booting → wbits v 15 8 = 0xA5 → Does (.secOtpProg e v) s fun t =>
    t.tm.ckey = some (ckeyRegs h) ∧ t.tm.waitKey = none) ∧
  (∀ img, h.tm.upd = 1 → h.tm.updDesc ≠ none → h.glb.dev.inService = true → Does (.stageComplete e img) s fun t =>
    t.tm.updImg = some img ∧
    (∃ x, Sent (.flash now h.tm.updImage x img) h t) ∧
    (verifies e.half h h.tm.updImage img = false → t.tm.upd = 5 ∧ Raised 0xF1 h t) ∧
    (verifies e.half h h.tm.updImage img = true →
      (h.tm.updImage ≤ 1 → t.tm.upd = 4 ∧ Raised 0xF2 h t) ∧
      (h.tm.updImage = 2 → h.tm.fwNodes = [] → t.tm.upd = 4 ∧ Raised 0xF2 h t) ∧
      (h.tm.updImage = 2 → h.tm.fwNodes ≠ [] → t.tm.upd = 2 ∧ t.tm.fwNext = h.tm.fwNodes.map fun c => (c, 0)))) ∧
  (h.tm.trialFw = true ∨ h.tm.trialCfg = true → h.glb.dev ≠ .lullOnly → h.glb.dev ≠ .booting → h.tm.bootEnd + tSec 60 ≤ now →
    Does (.trialTimeout e) s fun t => t.glb.dev = .booting ∧ t.tm.report = h.tm.report ++ [1] ∧
      ∃ x y, Sent (.slots now (h.tm.markFw != h.tm.trialFw) (h.tm.markCfg != h.tm.trialCfg) x y) h t)

/-- A write of 4 bytes to BAR0 (R4, R5, R526 to R528; log entry 52): plain and write-1-to-clear bits, the counter-clear
registers, and what no register takes; and one that masks or unmasks a vector of BAR4's MSI-X table (R348, R529).
Where the rules leave a point open it is the model's choice: log entries 52, 107 and 119. -/
def Obligations.WritesReachRegisters : Prop := ∀ (s : State) (e : Evt) (o : Nat) (v : Word), (s.at e).runs = true →
  coreUp (s.at e) = true →
  let h := s.at e
  let now := max s.time e.time
  (∀ n < 32, ∀ i ∈ [Instr.w1cClear e (msixKey n 3) v, .counterClear e (msixKey n 3) v, .registerWrite e (msixKey n 3) v],
    Does i s fun t => t.getF (msixKey n 3) 0 0 = b2n (wbit v 0) ∧
      (wbit v 0 = false → h.getF msixPba n n = 1 → canWrite h = true → h.hi.msixOn = true → h.hi.msixMask = false →
        t.getF msixPba n n = 0 ∧ Sent (.msix (h.writeAt now) n) h t)) ∧
  (o < 0x100000 → ∀ i ∈ [Instr.w1cClear e o v, .counterClear e o v, .registerWrite e o v], Does i s fun t =>
    (o % 4 ≠ 0 → t.getF RG.GLB_ACC_ERR 0 0 = 1) ∧
    (o % 4 = 0 → regRow o = none → t.getF RG.GLB_ACC_ERR 1 1 = 1) ∧
    (o % 4 = 0 → regRow o ≠ none → gated h (accDomain o) = true → t.getF RG.GLB_ACC_ERR 2 2 = 1 ∧
      Counted RG.CLK_CNT_GATE_ERR h t) ∧
    (gated h (accDomain o) = false →
      (∀ r, o % 4 = 0 → regRow o = some r → ownRule o = false → counterWrite o v h = none →
        t.reg o = (((h.reg o &&& ~~~r.rw) ||| (v &&& r.rw)) &&& ~~~(v &&& r.w1c &&& ~~~h.w1cKept now o)) ∧
        OnlyRegs [o] h t) ∧
      (∀ x ∈ [(RG.OX_CNT_CLR, RG.OX_CNT_RESIDUE, 2), (RG.TH_CNT_CLR, RG.TH_CNT_MISMATCH, 5), (RG.HI_CNT_CLR, RG.HI_CNT_JUDGED, 8),
          (RG.CLK_CNT_CLR, RG.CLK_CNT_GATE_TO, 2), (RG.ETH_CNT_CLR, RG.ETH_CNT_FCS, 6), (RG.PTP_CNT_CLR, RG.PTP_CNT_SYNC, 4),
          (RG.SV_CNT_CLR, RG.SV_CNT_LATE, 5), (RG.CAN_CNT_CLR 0, RG.CAN_CNT_NOMATCH 0, 4),
          (RG.CAN_CNT_CLR 1, RG.CAN_CNT_NOMATCH 1, 4), (RG.PWR_CNT_CLR, RG.PWR_CNT_FASTLIM, 1),
          (RG.MEM_CNT_CLR, RG.MEM_CNT_SRAM_CE1, 7)], o = x.1 → ∀ j < x.2.2,
        t.reg (x.2.1 + 4 * j) = if wbit v j then 0#32 else h.reg (x.2.1 + 4 * j))))

/-- Command descriptors (R328 to R336): every row's descriptor is judged as it is fetched, and held for its cycle where it
is accepted; the hand-over of CMD_ROLE is set at once (R306), and CMD_UPDATE_STAGE keeps the header it has read.
Where the rules leave a point open it is the model's choice: log entries 14, 51 and 71. -/
def Obligations.DescriptorsAreJudged : Prop := ∀ (s : State) (e : Evt) (r : Fin 8) (d : Desc), (s.at e).runs = true →
  nextRing (s.at e) = some r.val →
  let h := s.at e
  let op (n : Nat) : Desc := dSetByte d 0 n
  (∀ x ∈ [(Instr.cmdNop e r d, 0x00), (.cmdSetReference e r d, 0x01), (.cmdWritePending e r d, 0x02), (.cmdCommit e r d, 0x03),
      (.cmdCellBypass e r d, 0x04), (.cmdCellRestore e r d, 0x05), (.cmdRingControl e r d, 0x06), (.cmdPwmForce e r d, 0x07),
      (.cmdRecorder e r d, 0x08), (.cmdSvControl e r d, 0x09), (.cmdTimeStepAuthorise e r d, 0x0A), (.cmdRole e r d, 0x0B),
      (.cmdUpdateActivate e r d, 0x0D), (.cmdReadState e r d, 0x0E),
      (.unknownOpcode e r d, if dOp d ≤ 0x0E then 0xFF else dOp d)], Judges x.1 r (op x.2) s) ∧
  (∀ v m, Judges (.cmdUpdateStage e r d v m) r (op 0x0C) s ∧
    ((judge e.half h r (op 0x0C)).status = 1 → Does (.cmdUpdateStage e r d v m) s fun t =>
      (r.val, dSeq (op 0x0C), leHalf v, leHalf m) ∈ t.hi.updHdr)) ∧
  ((judge e.half h r (op 0x0B)).status = 1 → Does (.cmdRole e r d) s fun t =>
    t.th.planned = h.th.planned ++ [((judge e.half h r (op 0x0B)).cycle, halfOf (dByte (op 0x0B) 24), 1)])

/-- What a held command does at T0 of its cycle (R32, R59, R174, R229, R281, R339, R376): status, RESULT and effect.
Where the rules leave a point open it is the model's choice: log entries 53 and 98. -/
def Obligations.HeldCommandsAct : Prop := ∀ (cx : Cx) (h : Half) (x : Held),
  let d := x.d
  let q := runCommand cx x h
  let t := q.2.2
  (dOp d = 0x00 → q = (2, 0#32, h)) ∧
  (dOp d = 0x04 → dByte d 24 < 144 → q.2.1 = stCode t (dByte d 24) ∧
    ((h.cell (dByte d 24)).st = .blocked ∨ (h.cell (dByte d 24)).st = .charging ∨ (h.cell (dByte d 24)).st = .active ∨
        (h.cell (dByte d 24)).st = .bypassed →
      q.1 = 2 ∧ (t.cell (dByte d 24)).st = .bypassed ∧ (t.cell (dByte d 24)).byCmd = true ∧ (t.cell (dByte d 24)).queued = false) ∧
    ((h.cell (dByte d 24)).st = .absent ∨ (h.cell (dByte d 24)).st = .faulted → q.1 = 5 ∧ t = h)) ∧
  (dOp d = 0x05 → dByte d 24 < 144 → q.2.1 = stCode t (dByte d 24) ∧
    (flagsFence (h.cell (dByte d 24)) = true → q.1 = 5 ∧ t = h) ∧
    (flagsFence (h.cell (dByte d 24)) = false →
      (h.cell (dByte d 24)).fenced = true ∨ (h.cell (dByte d 24)).byCmd = true → q.1 = 2 ∧
        (t.cell (dByte d 24)).fenced = false ∧ (t.cell (dByte d 24)).byCmd = false)) ∧
  (dOp d = 0x06 → dByte d 25 ≠ 0 → ∀ i < 16, q.1 = 2 ∧ t.reg (RG.HL_POS (dByte d 24 % 12) i) = 0#32) ∧
  (dOp d = 0x07 →
    (h.glb.lv = .stopped ∨ h.glb.lv = .test ∨ h.glb.lv = .recovery → q.1 = 2 ∧
      t.lv.forceCmds = h.lv.forceCmds ++ [(dHalf d 24, dByte d 26, (dWord d 7).toNat)]) ∧
    (h.glb.lv = .run ∨ h.glb.lv = .precharge ∨ h.glb.lv = .tripped → q.1 = 5 ∧ t = h)) ∧
  (dOp d = 0x0A → h.tb.step.isSome = true → q.1 = 5 ∧ t = h) ∧
  (dOp d = 0x0B → h.glb.role = .active →
    (halfOf (dByte d 24) = cx.me → q.1 = 2 ∧ q.2.1 = 1#32 ∧ t.glb = h.glb ∧ (h.glb.cycle, cx.me, 1) ∉ t.th.planned) ∧
    (halfOf (dByte d 24) ≠ cx.me → h.th.oRole ≠ .standby → q.1 = 5 ∧ (h.glb.cycle, halfOf (dByte d 24), 1) ∉ t.th.planned) ∧
    (halfOf (dByte d 24) ≠ cx.me → h.th.oRole = .standby → h.th.run < 1024 → q.1 = 7 ∧
      (h.glb.cycle, halfOf (dByte d 24), 1) ∉ t.th.planned) ∧
    (halfOf (dByte d 24) ≠ cx.me → h.th.oRole = .standby → 1024 ≤ h.th.run → q.1 = 2 ∧ t = h)) ∧
  (dOp d = 0x0E ∨ 0x0F ≤ dOp d → q.1 = 5 ∧ t = h)

/-- The frames of the lane and ring commands: the parts of a half and the registers that each may change.
Where the rules leave a point open it is the model's choice: log entry 4. -/
def Obligations.FramesOfLanesAndRings : Prop :=
  (∀ e k, Keeps (.markerSend e k) [.out, .svc] []) ∧
  (∀ e k m0 m1 follows, KeepsR (.marker e k m0 m1 follows) [.rings, .glb] ([RG.HL_CNT_BLK k, RG.HL_CNT_MKR k, RG.HL_LOOP k, RG.HL_ASYM k] ++ (List.range 16).map (RG.HL_POS k) ++ (List.range 17).map (RG.HL_SPAN k) ++ (List.range 16).map (RG.HL_HOP k)) [0x0C, 0x0E, 0x0F, 0x10]) ∧
  (∀ e k, Keeps (.signalDetect e k) [.rings] []) ∧
  (∀ e k eyes, Keeps (.ctleSelect e k eyes) [.regs, .rings] [RG.HL_EQ k, RG.HL_EQ2 k]) ∧
  (∀ e k, Keeps (.blockLock e k) [.rings] []) ∧
  (∀ e k, Keeps (.markerLoss e k) [.rings] []) ∧
  (∀ e k los badHeaders, KeepsR (.laneDown e k los badHeaders) [.rings] [RG.HL_CNT_LOS k, RG.HL_CNT_SH k, RG.HL_CNT_DOWN k] [k]) ∧
  (∀ e k err decisions, Keeps (.dfeUpdate e k err decisions) [.regs] [RG.HL_EQ k, RG.HL_EQ2 k]) ∧
  (∀ e k, Keeps (.readaptationEnd e k) [.rings] []) ∧
  (∀ e k invalid, KeepsR (.berWindow e k invalid) [.rings] [RG.HL_CNT_SH k] [0x0D]) ∧
  (∀ e, KeepsR (.commandTrain e) [.glb] [] [0x1B]) ∧
  (∀ e k, KeepsR (.collGo e k) [.rings, .glb] [] [0x10]) ∧
  (∀ e k ctl data follows tail, KeepsR (.collSlot e k ctl data follows tail) [.svc, .rings] [RG.HL_CNT_BLK k, RG.HR_CNT_SLOT_CRC k, RG.HR_CNT_SLOT_LATE k] [0x17]) ∧
  (∀ e k blk, Keeps (.wrap e k blk) [.regs, .rings, .out] [RG.HL_CNT_BLK k, RG.HR_CNT_WRAP k]) ∧
  (∀ e k p, Keeps (.enumQuery e k p) [.out, .svc, .rings] []) ∧
  (∀ e k p, Keeps (.grant e k p) [.out, .svc, .rings] []) ∧
  (∀ e k p, Keeps (.timeSet e k p) [.rings, .out, .svc] []) ∧
  (∀ e k, Keeps (.autoUnwrap e k) [.out, .svc, .rings] []) ∧
  (∀ e k p, KeepsR (.svcResend e k p) [.svc, .rings, .tm] [RG.HR_CNT_SVC_RETRY k] [0x19, 0xF3, 0xF2]) ∧
  (∀ e k f, KeepsR (.enumReply e k f) [.svc, .rings, .ox, .tm, .hi, .xf] [RG.HR_CNT_SVC_CRC k, RG.HI_CNT_WAVE_UNROUTED] [0x1A, 0x1D, 0x16, 0x13, 0xF3, 0xF2, 0xC5]) ∧
  (∀ e k f, KeepsR (.ack e k f) [.svc, .rings, .ox, .tm, .hi, .xf] [RG.HR_CNT_SVC_CRC k, RG.HI_CNT_WAVE_UNROUTED] [0x1A, 0x1D, 0x16, 0x13, 0xF3, 0xF2, 0xC5]) ∧
  (∀ e k p, KeepsR (.nodeLost e k p) [.ox, .rings, .xf] [] [0x14]) ∧
  (∀ e k p, Keeps (.bindingAbandoned e k p) [.rings, .xf, .out] []) ∧
  (∀ e k, KeepsR (.svcFrameDropped e k) [.svc] [RG.HR_CNT_SVC_CRC k] [0x1A])

/-- The frames of the conversion, cell and Loop Table commands.
Where the rules leave a point open it is the model's choice: log entry 4. -/
def Obligations.FramesOfAnalogAndOx : Prop :=
  (∀ e n, KeepsR (.disputeOpen e n) [.an] [] [0x41, 0x42]) ∧
  (∀ e bits ovl, KeepsR (.anWordsSend e bits ovl) [.an, .lv] [] [0x44, 0x7D]) ∧
  (∀ e n bits ovl, KeepsR (.anWord e n bits ovl) [.an, .lv] [] [0x7D]) ∧
  (∀ e v, KeepsR (.anSeqTrig e v) [.an] [] [0x48]) ∧
  (∀ e, KeepsR (.anSeqPeriod e) [.an] [] [0x48]) ∧
  (∀ e result, KeepsR (.anConversion e result) [.an, .tm, .rings, .pw] [RG.THERM_STATUS, RG.THERM_MAX] [0x46, 0x47, 0x49, 0xE8, 0xE9, 0xEA, 0xEB]) ∧
  (∀ e words, Keeps (.anWords e words) [.regs, .an] [RG.TH_CNT_LATE]) ∧
  (∀ e, KeepsR (.housekeepingSequenceRequest e) [.an] [] [0x48]) ∧
  (∀ e, Keeps (.snapshotSend e) [.cells, .sd, .th, .out] []) ∧
  (∀ e k, Keeps (.slotMapDeadline e k) [.out, .rings] []) ∧
  (∀ e, KeepsR (.seal e) [.xf, .ox, .lv, .glb, .an, .rings, .svc] [RG.OX_CNT_ABSTAIN] ([0x45, 0x43, 0x41, 0x42, 0x40, 0x18, 0x1C, 0x15, 0x86, 0x82, 0x83, 0x87, 0x81, 0x85] ++ (List.range 32).map (0x20 + ·))) ∧
  (∀ e c, KeepsR (.cellDabSat e c) [.ox] [] [0x2B, 0x2D, 0x87, 0x82, 0x81, 0x85]) ∧
  (∀ e c, KeepsR (.cellIsenseDev e c) [.ox] [] [0x2A, 0x2D, 0x87, 0x82, 0x81, 0x85]) ∧
  (∀ e c ind, KeepsR (.cellCapAgeing e c ind) [.ox] [] [0x29, 0x2D, 0x87, 0x82, 0x81, 0x85, 0x28]) ∧
  (∀ e, KeepsR (.oxPrechargeTimeout e) [.ox] [] [0x84]) ∧
  (∀ e residue, KeepsR (.dispatch ⟨e, residue⟩) [.ox, .glb, .lv, .hi, .lt, .xf] ([RG.OX_CNT_RESIDUE, RG.HI_CNT_REC_LOST, RG.LT_CNT_NONFINITE, RG.TH_CNT_MISMATCH] ++ (List.range 144).map RG.OX_CELL_V ++ (List.range 144).map RG.OX_CELL_C ++ (List.range 144).map RG.OX_CELL_L ++ (List.range 144).map RG.OX_CELL_P ++ (List.range 144).map RG.OX_CELL_REF ++ (List.range 144).map RG.OX_CELL_OFS ++ (List.range 144).map RG.OX_CELL_FLG) [0x80, 0x89, 0x8A, 0x8B, 0x8C, 0x8D, 0x90, 0x94]) ∧
  (∀ e m, KeepsR (.snapshot e m) [.ox] [RG.TH_CNT_LATE, RG.OX_CNT_ABSTAIN] [0x86]) ∧
  (∀ e k mask, Keeps (.slotMap e k mask) [.regs, .out, .rings] [RG.TH_CNT_LATE]) ∧
  (∀ e rs, Keeps (.slotRec e rs) [.regs, .rings] [RG.TH_CNT_LATE]) ∧
  (∀ e residue, Keeps (.passComplete ⟨e, residue⟩) [.lt, .regs, .th, .xf, .out] [RG.LT_PASS, RG.LT_PASS_MAX]) ∧
  (∀ e, Keeps (.applyInstant e) [.lv, .glb] []) ∧
  (∀ e, KeepsR (.noActiveHeartbeat e) [.xf, .ox, .hi, .tm] [] [0xF5]) ∧
  (∀ e, Keeps (.glbCycleLo e) [.glb] [])

/-- The frames of the commands of the pulse-width outputs.
Where the rules leave a point open it is the model's choice: log entry 4. -/
def Obligations.FramesOfLvOutputs : Prop :=
  (∀ e n, Keeps (.reload e n) [.lv, .regs] [RG.LV_PAIR_DEFER n, RG.LV_PAIR_SHORT n]) ∧
  (∀ e n, Keeps (.forcePulseEnd e n) [.lv] []) ∧
  (∀ e n hard uv, Keeps (.tripCrossing e n hard uv) [.lv] []) ∧
  (∀ e n, Keeps (.blankEnd e n) [.lv] []) ∧
  (∀ e n hard, KeepsR (.tripLatch e n hard) [.lv] [RG.LV_TRIP_ST n] [0x60 + n.val, 0x7C]) ∧
  (∀ e n hard, Keeps (.tripRelease e n hard) [.lv] []) ∧
  (∀ e n since, KeepsR (.fltLatch ⟨e, since⟩ n) [.lv] [] [0x70 + n.val]) ∧
  (∀ e, Keeps (.lvPrechargeComplete e) [.lv] []) ∧
  (∀ e, KeepsR (.lvPrechargeTimeout e) [.lv] [] [0x7F]) ∧
  (∀ e n, Keeps (.commandEdge e n) [.lv] []) ∧
  (∀ e n since, Keeps (.fltDeassert ⟨e, since⟩ n) [.lv] [])

/-- The frames of the Sheepdog and redundancy commands.
Where the rules leave a point open it is the model's choice: log entry 4. -/
def Obligations.FramesOfSheepdogAndRedundancy : Prop :=
  (∀ e, KeepsR (.gustBlock e) [.svc] [] [0xFC]) ∧
  (∀ e, KeepsR (.eventRecordWrite e) [.hi] [msixPba, RG.HI_CNT_REC_LOST] [0xFD]) ∧
  (∀ e u, KeepsCan (.fenceEffect e u) [.net, .tb, .can] ([RG.CAN_CTRL 0, RG.CAN_CTRL 1, RG.PTP_CNT_TC_FUP, RG.SV_CNT_LATE] ++ (List.range 128).map (RG.CAN_OBJ_ST 0) ++ (List.range 128).map (RG.CAN_OBJ_ST 1)) [0xB9, 0xDE, 0xD2, 0xE2, 0xE5, 0xDC]) ∧
  (∀ e v, Keeps (.sdClear e v) [.regs, .sd, .out] [RG.SD_CLEAR_STAT]) ∧
  (∀ e, Keeps (.degMv e) [.sd, .regs, .out] [RG.SD_CLEAR_STAT]) ∧
  (∀ e, Keeps (.degLv e) [.sd, .regs, .out] [RG.SD_CLEAR_STAT]) ∧
  (∀ e, Keeps (.heartbeatSend e) [.th, .out, .regs, .sd, .xf] [RG.TH_CNT_HB_MISS]) ∧
  (∀ e m, KeepsR (.heartbeat e m) [.ox, .xf] [] [0x91, 0x92]) ∧
  (∀ e, KeepsR (.heartbeatLost e) [] [] [0x93]) ∧
  (∀ e, KeepsR (.otherLost e) [.ox, .hi, .tm, .pw, .xf] [RG.TH_CNT_HANDOVER] [0x93, 0xF5, 0x97]) ∧
  (∀ e, KeepsR (.roleLineDrop e) [.ox, .hi, .tm, .xf] [RG.TH_CNT_HANDOVER] [0x93, 0xF5, 0x97]) ∧
  (∀ e, KeepsR (.roleConflict e) [] [] [0x96]) ∧
  (∀ e, KeepsR (.fenceLine e) [] [] []) ∧
  (∀ e, Keeps (.ownershipGrant e) [.role, .lv, .th] []) ∧
  (∀ e, KeepsR (.standbyEntry e) [.hi, .tm] [] [0xF5, 0x99]) ∧
  (∀ e cycle st d, KeepsR (.digest e cycle st d) [] [RG.TH_CNT_MISMATCH] [0x94, 0x90]) ∧
  (∀ e, KeepsR (.digestDeadline e) [] [] [0x94]) ∧
  (∀ e, KeepsR (.ganderBlind e) [] [] [0x9A]) ∧
  (∀ e loopResidue bankOk, KeepsR (.selfCheck e loopResidue bankOk) [.ox, .lt] [] [0x91, 0x92]) ∧
  (∀ e, KeepsR (.activeSelfCheckFail e) [] [] [0x91]) ∧
  (∀ e m, KeepsR (.relay e m) [.rings, .svc, .ox, .tm, .hi, .glb, .tb, .an] ([RG.HI_CNT_WAVE_UNROUTED, RG.SD_CNT_DROP] ++ (List.range 12).map RG.HL_ASYM ++ (List.range 12).flatMap (fun k => (List.range 17).map (RG.HL_SPAN k)) ++ (List.range 12).flatMap (fun k => (List.range 16).map (RG.HL_HOP k))) [0x1D, 0x16, 0x13, 0xF3, 0xF2, 0xC5, 0x10, 0x0E, 0xA9, 0x41, 0x42]) ∧
  (∀ e up, KeepsR (.tetherLane e up) [] [] [0x95]) ∧
  (∀ e, Keeps (.revert e) [.th] []) ∧
  (∀ e v, Keeps (.leave e v) [.th, .regs] [RG.TH_CTRL_STAT]) ∧
  (∀ e, Keeps (.leaveOff e) [.role, .th] []) ∧
  (∀ e v, Keeps (.restart e v) [.regs, .pw] [RG.TH_CTRL_STAT]) ∧
  (∀ e v, Keeps (.clrHist e v) [.th, .regs] [RG.TH_CTRL_STAT]) ∧
  (∀ e, KeepsR (.tetherMessageCrc e) [] [RG.TH_CNT_MSG_CRC] [0x9B])

/-- The frames of the host interface's commands.
Where the rules leave a point open it is the model's choice: log entry 4. -/
def Obligations.FramesOfTheHostInterface : Prop :=
  (∀ e k f, KeepsR (.wave e k f) [.svc, .rings, .ox, .tm, .hi] [RG.HR_CNT_SVC_CRC k, RG.HI_CNT_WAVE_UNROUTED] [0x1A, 0x1D, 0x16, 0x13, 0xF3, 0xF2, 0xC5]) ∧
  (∀ e k f, KeepsR (.nodeEvent e k f) [.svc, .rings, .ox, .tm, .hi] [RG.HR_CNT_SVC_CRC k, RG.HI_CNT_WAVE_UNROUTED] [0x1A, 0x1D, 0x16, 0x13, 0xF3, 0xF2, 0xC5]) ∧
  (∀ e ring seq cycle d, Keeps (.cmdReplica e ring seq cycle d) [.out, .hi, .th, .regs, .xf] [RG.HI_CNT_REC_LOST]) ∧
  (∀ e ring seq d, KeepsR (.replicaDescriptorRead e ring seq d) [.hi] [] [0xC4]) ∧
  (∀ e ring seq, Keeps (.replicaAck e ring seq) [.hi, .regs] [RG.HI_CNT_REC_LOST]) ∧
  (∀ e, Keeps (.replicaResend e) [.out, .regs, .hi] [RG.HI_CNT_RESEND]) ∧
  (∀ e, KeepsR (.replicaTimeout e) [.hi] [RG.HI_CNT_REC_LOST] [0xC3]) ∧
  (∀ e r v, KeepsR (.crTail e r v) [] [RG.HI_CNT_DB_IGNORED, RG.HI_CNT_DB_BAD, RG.DB_CR_TAIL r] [0xC1]) ∧
  (∀ e q v, KeepsR (.cqHead e q v) [.hi] [RG.HI_CNT_DB_IGNORED, RG.HI_CNT_DB_BAD, RG.DB_CQ_HEAD q] [0xC1]) ∧
  (∀ e s v, KeepsR (.srTail e s v) [] [RG.HI_CNT_DB_IGNORED, RG.HI_CNT_DB_BAD, RG.DB_SR_TAIL s] [0xC1]) ∧
  (∀ e v, KeepsR (.evHead e v) [] [RG.HI_CNT_DB_IGNORED, RG.HI_CNT_DB_BAD, RG.DB_EV_HEAD] [0xC1]) ∧
  (∀ e q, Keeps (.completionRecord e q) [.hi, .out, .regs] [msixPba]) ∧
  (∀ e q, Keeps (.moderationEnd e q) [.out, .hi, .regs] [msixPba]) ∧
  (∀ e s entry, KeepsR (.streamWriteBack e s entry) [.hi] [msixPba] [0xC5]) ∧
  (∀ e s entry, KeepsR (.flush e s entry) [.hi] [msixPba] [0xC5]) ∧
  (∀ e, Keeps (.readBack e) [.hi] []) ∧
  (∀ e mem, KeepsR (.hiReadback e mem) [.hi] [msixPba] [0xC7]) ∧
  (∀ e uncorrectable, KeepsR (.linkDown e uncorrectable) [.hi] [] [0xC0]) ∧
  (∀ e kind i, KeepsR (.hiDmaErr e kind i) [.hi] [RG.HI_CNT_REC_LOST] [0xC2]) ∧
  (∀ e r, Keeps (.crSeqLo e r) [.hi] []) ∧
  (∀ e speed width, Keeps (.pcieLinkUp e speed width) [.hi] []) ∧
  (∀ e q, KeepsR (.hiCqStall e q) [.hi] [] [0xC6]) ∧
  (∀ e recorder bad, KeepsR (.readDeliveryDone e recorder bad) [.hi] [RG.HI_CNT_JUDGED, RG.HI_CNT_DUP, RG.HI_CNT_REJECT, RG.HI_CNT_REC_LOST] [0xC5]) ∧
  (∀ e kind i v, Keeps (.ringSizeWrite e kind i v) [.acc, .hi, .regs] [cfgOff kind i, RG.HI_STATUS, RG.DB_CR_TAIL i, RG.DB_CQ_HEAD i, RG.DB_SR_TAIL i, RG.DB_EV_HEAD, RG.HI_CNT_REC_LOST])

/-- The frames of the clock, timebase and memory commands.
Where the rules leave a point open it is the model's choice: log entry 4. -/
def Obligations.FramesOfClocksAndMemories : Prop :=
  (∀ e, Keeps (.timeAlignSend e) [.out, .tb] []) ∧
  (∀ e t1 t2 t3 t4 adj, KeepsR (.timeAlign e t1 t2 t3 t4 adj) [.tb, .glb] [] [0xB7]) ∧
  (∀ e, Keeps (.tbNowLo e) [.tb] []) ∧
  (∀ e, Keeps (.xtalGood e) [.regs, .ck] [RG.CLK_START]) ∧
  (∀ e, Keeps (.xtalFail e) [.regs] [RG.CLK_START]) ∧
  (∀ e, Keeps (.xtalRestart e) [.regs, .ck] [RG.CLK_START]) ∧
  (∀ e, KeepsCan (.clkRefFail e) [.ck, .tb, .rings, .lv, .net, .can, .an] ((List.range 128).map (RG.CAN_OBJ_ST 0) ++ (List.range 128).map (RG.CAN_OBJ_ST 1) ++ [RG.CAN_CTRL 0, RG.CAN_CTRL 1, RG.CLK_START] ++ (List.range 6).map RG.CLK_PLL_STAT ++ (List.range 12).map RG.HL_CNT_DOWN) ([0xB1, 0xB2, 0x7E, 0xD0, 0xE2, 0xE5, 0xB3, 0xB4, 0xB5, 0xB0] ++ List.range 12)) ∧
  (∀ e p, KeepsCan (.pllUnlock e p) [.ck, .tb, .rings, .lv, .net, .can, .an] ((List.range 128).map (RG.CAN_OBJ_ST 0) ++ (List.range 128).map (RG.CAN_OBJ_ST 1) ++ [RG.CLK_PLL_STAT p, RG.CAN_CTRL 0, RG.CAN_CTRL 1] ++ (List.range 12).map RG.HL_CNT_DOWN) ([0xB1, 0xB2, 0x7E, 0xD0, 0xE2, 0xE5, 0xB3, 0xB4, 0xB5] ++ List.range 12)) ∧
  (∀ e p band, KeepsR (.pllLock e p band) [.ck, .tb, .lv, .can, .an, .svc] [RG.CLK_PLL_STAT p] [0x7E]) ∧
  (∀ e p v, KeepsCan (.relock e p v) [.ck, .tb, .rings, .lv, .net, .can, .an] ((List.range 128).map (RG.CAN_OBJ_ST 0) ++ (List.range 128).map (RG.CAN_OBJ_ST 1) ++ [RG.CLK_PLL_CFG p, RG.CLK_PLL_STAT p, RG.CAN_CTRL 0, RG.CAN_CTRL 1] ++ (List.range 12).map RG.HL_CNT_DOWN) ([0xB1, 0xB2, 0x7E, 0xD0, 0xE2, 0xE5, 0xB3, 0xB4, 0xB5] ++ List.range 12)) ∧
  (∀ e dom since, KeepsR (.clkGateTimeout ⟨e, since⟩ dom) [.pw] [RG.CLK_CNT_GATE_TO] [0xB6]) ∧
  (∀ e up, KeepsR (.ppsEdge ⟨e, up⟩) [.tb, .rings, .glb, .svc, .lv] [] [0xB8]) ∧
  (∀ e, KeepsR (.ppsMiss e) [.tb] [] [0xB9]) ∧
  (∀ e prefer, Keeps (.lullPowerUp e prefer) [.pw, .glb, .ck] []) ∧
  (∀ e row, KeepsR (.sramScrub e row) [] [RG.MEM_CNT_SRAM_CE1, RG.MEM_CNT_DDR_CE1, RG.MEM_CNT_SRAM_CE2, RG.MEM_ERR_ADDR, RG.MEM_ERR_INFO, RG.MEM_CNT_SRAM_UE] [0xA7, 0xA0, 0xA1]) ∧
  (∀ e rows, KeepsR (.ddrScrub e rows) [] [RG.MEM_CNT_SRAM_CE1, RG.MEM_CNT_DDR_CE1, RG.MEM_CNT_DDR_CE2, RG.MEM_ERR_ADDR, RG.MEM_ERR_INFO, RG.MEM_CNT_DDR_UE, RG.MEM_CNT_REMAP] [0xA7, 0xA2, 0xA3, 0xA4, 0xA5]) ∧
  (∀ e, Keeps (.sramUeRestart e) [.me, .regs, .pw] [RG.TH_CTRL_STAT]) ∧
  (∀ e ddr, KeepsR (.memScrubLate e ddr) [] [] [0xA6]) ∧
  (∀ e, Keeps (.refresh e) [.me] []) ∧
  (∀ e mult, Keeps (.mr4Poll e mult) [.me] [])

/-- The frames of the station network's commands.
Where the rules leave a point open it is the model's choice: log entry 4. -/
def Obligations.FramesOfTheStationNetwork : Prop :=
  (∀ e, Keeps (.ptpGmLo e) [.net] []) ∧
  (∀ e p up speedErr, KeepsR (.ethLink e p up speedErr) [.net] [RG.PTP_CNT_TC_FUP, RG.SV_CNT_LATE] [0xD0, 0xDC]) ∧
  (∀ e p m, KeepsR (.sync e p m) [.net, .tb, .rings, .glb, .svc, .lv] [RG.PTP_CNT_TC_FUP, RG.PTP_CNT_SYNC, RG.PTP_CNT_SPIKE, RG.ETH_CNT_FWD_DROP, RG.SV_CNT_LATE] [0xB9, 0xDE, 0xB8, 0xDD, 0xDC]) ∧
  (∀ e p m, KeepsR (.followUp e p m) [.net, .tb, .rings, .glb, .svc, .lv] [RG.PTP_CNT_TC_FUP, RG.PTP_CNT_SPIKE, RG.ETH_CNT_FWD_DROP, RG.SV_CNT_LATE] [0xB9, 0xDE, 0xB8, 0xDD, 0xDC]) ∧
  (∀ e p, Keeps (.followUpTimeout e p) [.regs, .net] [RG.PTP_CNT_FUP_MISS]) ∧
  (∀ e p m, KeepsR (.announce e p m) [.net, .tb] [RG.PTP_CNT_TC_FUP, RG.SV_CNT_LATE] [0xB9, 0xDE, 0xD2, 0xDC]) ∧
  (∀ e p source, KeepsR (.announceTimeout e p source) [.net, .tb] [RG.PTP_CNT_TC_FUP, RG.SV_CNT_LATE] [0xB9, 0xDE, 0xD2, 0xDC]) ∧
  (∀ e, KeepsR (.noOffsetTimeout e) [.net, .tb] [] [0xB9, 0xDE]) ∧
  (∀ e p, KeepsR (.pdelayReqSend e p) [.net, .tb] [RG.PTP_CNT_TC_FUP, RG.ETH_CNT_FWD_DROP, RG.SV_CNT_LATE] [0xD3, 0xB9, 0xDE, 0xD2, 0xDD, 0xDC]) ∧
  (∀ e p source seq, KeepsR (.pdelayReq e p source seq) [.net] [RG.PTP_CNT_TC_FUP, RG.ETH_CNT_FWD_DROP, RG.SV_CNT_LATE] [0xDD, 0xDC]) ∧
  (∀ e p seq twoStep t2 corr, KeepsR (.pdelayResp e p seq twoStep t2 corr) [.net, .tb] [RG.PTP_CNT_TC_FUP, RG.SV_CNT_LATE] [0xD3, 0xB9, 0xDE, 0xD2, 0xDC]) ∧
  (∀ e p seq t3 corr, KeepsR (.pdelayRespFollowUp e p seq t3 corr) [.net, .tb] [RG.PTP_CNT_TC_FUP, RG.SV_CNT_LATE] [0xD3, 0xB9, 0xDE, 0xD2, 0xDC]) ∧
  (∀ e p f, KeepsR (.forward e p f) [.net] [RG.PTP_CNT_TC_FUP, RG.ETH_CNT_FWD_DROP, RG.SV_CNT_LATE] [0xDD, 0xDC]) ∧
  (∀ e i, KeepsR (.svFrame e i) [.net] [RG.PTP_CNT_TC_FUP, RG.ETH_CNT_FWD_DROP, RG.SV_CNT_LATE] [0xD6, 0xDD, 0xDC]) ∧
  (∀ e p f, KeepsR (.goose e p f) [.net] [RG.PTP_CNT_TC_FUP, RG.GO_CNT_SIM, RG.GO_CNT_MISMATCH, RG.GO_CNT_STALE, RG.PRP_CNT_WRONG_LAN, RG.PRP_CNT_DUP, RG.SV_CNT_LATE] [0xD5, 0xD8, 0xD9, 0xDA, 0xDB, 0xDC]) ∧
  (∀ e b, KeepsR (.gooseExpiry e b) [.net] [] [0xD4, 0xD8, 0xD9, 0xDA, 0xDB]) ∧
  (∀ e p src t, KeepsR (.prpSupervision e p src t) [.net] [RG.PTP_CNT_TC_FUP, RG.PRP_CNT_WRONG_LAN, RG.PRP_CNT_DUP, RG.SV_CNT_LATE] [0xDC]) ∧
  (∀ e, KeepsR (.prpSupervisionSend e) [.net] [RG.PTP_CNT_TC_FUP, RG.ETH_CNT_FWD_DROP, RG.SV_CNT_LATE] [0xDD, 0xDC]) ∧
  (∀ e p, KeepsR (.prpLan e p) [.net] [] [0xD7]) ∧
  (∀ e src, Keeps (.nodeTableAgeing e src) [.net] []) ∧
  (∀ e p why, KeepsR (.ethFrameDiscard e p why) [.net] [RG.ETH_CNT_OVERSIZE, RG.ETH_CNT_DISCARD, RG.ETH_CNT_FCS, RG.PRP_CNT_WRONG_LAN, RG.PRP_CNT_DUP] [0xD1])

/-- The frames of the CAN commands.
Where the rules leave a point open it is the model's choice: log entry 4. -/
def Obligations.FramesOfCanControllers : Prop :=
  (∀ e i, KeepsCan (.initSet e i) [.can] ([RG.CAN_CTRL i] ++ (List.range 128).map (RG.CAN_OBJ_ST i)) [0xE2]) ∧
  (∀ e i, KeepsCan (.initRelease e i) [.acc, .can] ([RG.CAN_CTRL i, RG.CAN_STATUS i] ++ (List.range 128).map (RG.CAN_OBJ_ST i)) [0xE2]) ∧
  (∀ e i, KeepsCan (.busIntegration e i) [.can] ([RG.CAN_CTRL i] ++ (List.range 128).map (RG.CAN_OBJ_ST i)) [0xE2]) ∧
  (∀ e i v, KeepsCan (.canTxreq e i v) [.acc, .can] ([RG.CAN_STATUS i, RG.CAN_CTRL i] ++ (List.range 128).map (RG.CAN_OBJ_ST i)) [0xE2]) ∧
  (∀ e i v, KeepsCan (.canTxabort e i v) [.can] ([RG.CAN_CTRL i] ++ (List.range 128).map (RG.CAN_OBJ_ST i)) [0xE2]) ∧
  (∀ e i v, KeepsCan (.canRxsnap e i v) [.can] ((List.range 29).map (RG.CAN_SNAP i) ++ [RG.CAN_CTRL i] ++ (List.range 128).map (RG.CAN_OBJ_ST i) ++ rxRegs i (wbits v 6 0)) [0xE2, 0xE3, 0xE0]) ∧
  (∀ e i f, KeepsCan (.canRxFrame e i f) [.can] ([RG.CAN_CTRL i, RG.CAN_CNT_RXOK i, RG.CAN_CNT_RTR i, RG.CAN_CNT_NOMATCH i] ++ (List.range 128).map (RG.CAN_OBJ_ST i) ++ ((List.range 128).flatMap fun o => (List.range 16).map fun j => RG.CAN_OBJ_DATA i o j) ++ (List.range 128).map (RG.CAN_OBJ_RXID i) ++ (List.range 128).map (RG.CAN_OBJ_TIME i)) [0xE2, 0xE5, 0xE4, 0xE3, 0xE0]) ∧
  (∀ e i, KeepsCan (.canTxSuccess e i) [.can] ([RG.CAN_CTRL i] ++ (List.range 128).map (RG.CAN_OBJ_ST i) ++ (List.range 128).map (RG.CAN_OBJ_TIME i)) [0xE2, 0xE5, 0xE4, 0xE1]) ∧
  (∀ e i, KeepsCan (.canTxError e i) [.can] ([RG.CAN_CTRL i] ++ (List.range 128).map (RG.CAN_OBJ_ST i)) [0xE2, 0xE5, 0xE4]) ∧
  (∀ e i, KeepsCan (.busOffRecovery e i) [.can] ([RG.CAN_CTRL i] ++ (List.range 128).map (RG.CAN_OBJ_ST i)) [0xE2, 0xE7]) ∧
  (∀ e i inc, KeepsCan (.canRxError e i inc) [.can] ([RG.CAN_CTRL i] ++ (List.range 128).map (RG.CAN_OBJ_ST i)) [0xE2, 0xE5, 0xE4]) ∧
  (∀ e i, KeepsCan (.protocolException e i) [.can] ([RG.CAN_CNT_PEXC i, RG.CAN_CTRL i] ++ (List.range 128).map (RG.CAN_OBJ_ST i)) [0xE2, 0xE6])

/-- The frames of the supply, thermal and access commands.
Where the rules leave a point open it is the model's choice: log entry 4. -/
def Obligations.FramesOfSuppliesAndHeat : Prop :=
  (∀ e, Keeps (.powerUp e) [.ck, .pw] []) ∧
  (∀ e, KeepsR (.pwrSeq e) [.pw] [RG.PWR_REQ_STAT] [0xBF]) ∧
  (∀ e, Keeps (.sequencerRetry e) [.pw, .ck] []) ∧
  (∀ e cause, Keeps (.protectivePowerDown e cause) [.pw, .role] []) ∧
  (∀ e, Keeps (.halfPowerDown e) [.pw] []) ∧
  (∀ e v, Keeps (.domainPowerUp e v) [.regs, .pw] [RG.PWR_REQ_STAT]) ∧
  (∀ e v, Keeps (.domainPowerDown e v) [.regs, .pw] [RG.PWR_REQ_STAT]) ∧
  (∀ e v, Keeps (.halfDown e v) [.regs, .pw] [RG.PWR_REQ_STAT]) ∧
  (∀ e, Keeps (.holdExpiry e) [.pw, .ck] []) ∧
  (∀ e sel, Keeps (.vselChange e sel) [.pw] []) ∧
  (∀ e v, Keeps (.pwrVcfg e v) [.pw, .regs] [RG.PWR_VCFG]) ∧
  (∀ e i v, Keeps (.pwrVtab e i v) [.acc, .regs, .pw] [RG.PWR_VTAB i, RG.PWR_STATUS]) ∧
  (∀ e, Keeps (.slewEnd e) [.pw] []) ∧
  (∀ e p imon, Keeps (.fastLimit ⟨e, imon⟩ p) [.regs, .pw, .role] [RG.PWR_CNT_FASTLIM]) ∧
  (∀ e current since, KeepsR (.vcoreOverload ⟨⟨e, current⟩, since⟩) [.pw] [] [0xBB]) ∧
  (∀ e p imon since, KeepsR (.vcorePhase ⟨⟨e, imon⟩, since⟩ p) [.pw] [] [0xBC]) ∧
  (∀ e meanDiff vr vl since, KeepsR (.vcoreSense ⟨⟨e, since⟩, vr, vl⟩ meanDiff) [.pw] [] [0xBD]) ∧
  (∀ e uv since, Keeps (.overvoltage ⟨⟨e, uv⟩, since⟩) [.pw, .role] []) ∧
  (∀ e r uv since, Keeps (.railPowerGood ⟨⟨e, uv⟩, since⟩ r) [.pw] []) ∧
  (∀ e, KeepsR (.thermSeqRequest e) [.an] [] [0x48]) ∧
  (∀ e, KeepsR (.sensorTimeout e) [.tm] [RG.THERM_STATUS] [0xEB]) ∧
  (∀ e, KeepsR (.lullComparator e) [.tm, .pw] [RG.THERM_STATUS] [0xEA]) ∧
  (∀ e img, KeepsR (.stageComplete e img) [.tm, .svc] [] [0xF1, 0xF2]) ∧
  (∀ e v, KeepsR (.pertArm e v) [.acc] [RG.PERT_CTRL] [0xF4]) ∧
  (∀ e, Keeps (.lullComparatorRelease e) [.tm, .regs] [RG.THERM_STATUS]) ∧
  (∀ e x, Keeps (.misaligned e x) [.acc, .regs] [RG.GLB_ACC_ERR, RG.GLB_ACC_ADDR]) ∧
  (∀ e x, Keeps (.unmapped e x) [.acc, .regs] [RG.GLB_ACC_ERR, RG.GLB_ACC_ADDR]) ∧
  (∀ e x, Keeps (.domainOff e x) [.acc, .regs] [RG.CLK_CNT_GATE_ERR, RG.GLB_ACC_ERR, RG.GLB_ACC_ADDR]) ∧
  (∀ e, KeepsR (.pciePerst e) [.hi] [] [0xC0]) ∧
  (∀ e r uv since, KeepsParts (.pwrRailUv ⟨⟨e, uv⟩, since⟩ r) ([.pw, .an, .net, .can, .rings, .svc, .ck] ++ reaction)) ∧
  (∀ e f, KeepsParts (.bootComplete e f) ([.pw, .tm, .glb, .hi, .ck, .tb, .rings, .svc, .lv, .net, .can, .an] ++ reaction)) ∧
  (∀ e v, KeepsParts (.secOtpProg e v) ([.pw, .tm, .glb, .hi, .ck, .tb, .rings, .svc, .lv, .net, .can, .an] ++ reaction))

/-- A step takes the command at the front of the queue and runs it with the queue's rest; on an empty queue the block
idles (log entry 3).
Where the rules leave a point open it is the model's choice: log entry 3. -/
def Obligations.StepRunsTheFront : Prop :=
  (∀ (c : Instr) (q : List Instr) (s : State), step { s with pending := c :: q } = exec c { s with pending := q }) ∧
  ∀ s : State, s.pending = [] → step s = .next s

/-- The package right after reset is safe, its registers are in their one form, and nothing waits or has been sent.
Where the rules leave a point open it is the model's choice: log entry 20. -/
def Obligations.ResetIsSafe : Prop :=
  State.reset.safe = true ∧ State.reset.regsOk = true ∧ State.reset.pending = [] ∧ State.reset.a.out = [] ∧ State.reset.b.out = [] ∧
  ∀ i : HalfId, (State.reset.half i).glb.dev = .lullOnly ∧ (State.reset.half i).glb.role = .off ∧
    ∀ o, (State.reset.half i).reg o = regDefault o

/-- Every step keeps the package safe (R8, R29 to R31, R291 to R293, R413): at most one half drives the shared balls, and that
half is ACTIVE and unfenced; the ROLE lines, the device states, the roles and the CAN controllers agree.
Where the rules leave a point open it is the model's choice: log entries 48 and 90. -/
def Obligations.EveryStepKeepsThePackageSafe : Prop := ∀ s t : State, s.safe = true → step s = .next t → t.safe = true

/-- Every step keeps the registers of both halves in their one form, so that equal registers are equal data.
Where the rules leave a point open it is the model's choice: log entry 4. -/
def Obligations.EveryStepKeepsTheRegistersCanonical : Prop :=
  ∀ s t : State, s.regsOk = true → step s = .next t → t.regsOk = true

/-- A command changes its own half alone (R7): in the other half nothing but time passes. The clock of the model never runs
back, and no command touches the queue. STATE_XFER alone may act on the other half (R491).
Where the rules leave a point open it is the model's choice: log entries 1 and 2. -/
def Obligations.TheOtherHalfOnlySeesTimePass : Prop := ∀ (c : Instr) (s t : State), exec c s = .next t →
  t.time = max s.time c.evt.time ∧ t.pending = s.pending ∧
  ((∀ e k x m, c ≠ .stateXfer e k x m) →
    t.half c.evt.half.other = (s.half c.evt.half.other).tick s.time (max s.time c.evt.time))

/-- A half that is halted through its TAP or held in reset takes no command but those of its supplies, clocks, comparators,
lines and balls (R252, R504).
Where the rules leave a point open it is the model's choice: log entries 4 and 48. -/
def Obligations.HaltedHalvesWait : Prop := ∀ (c : Instr) (s t : State), always c = false → (s.at c.evt).runs = false →
  exec c s = .next t → Framed [] (s.at c.evt) (t.half c.evt.half) ∧ OnlyRegs [] (s.at c.evt) (t.half c.evt.half)

/-- What a reset through the ball leaves (R312, R504, R530): the LULL domain's registers, the supplies, the customer key and
the rollback counters, the fence count and the strap, and what has been sent.
Where the rules leave a point open it is the model's choice: log entry 48. -/
def Obligations.ResetKeepsTheLullDomain : Prop := ∀ (s t : State) (e : Evt) (b : Bool), 
  let h := s.at e
  exec (.reset e) s = .next t ∨ exec (.resetRelease e b) s = .next t →
  let g := t.half e.half
  (∀ o, regDomain o = .lull → g.reg o = h.reg o) ∧ (h.pw.pend = false → g.pw = h.pw) ∧ g.tm.ckey = h.tm.ckey ∧
  g.tm.otpFw = h.tm.otpFw ∧ g.tm.otpCfg = h.tm.otpCfg ∧ g.th.fenceHist = h.th.fenceHist ∧ g.glb.preferred = h.glb.preferred ∧
  g.pk.ir = h.pk.ir ∧ g.pk.bsr = h.pk.bsr ∧ (h.me.trig = [] → g.out = h.out)

/-- A cycle boundary leaves the supplies and the order of their power-down alone (R25).
Where the rules leave a point open it is the model's choice: log entry 4. -/
def Obligations.BoundariesLeaveTheSupplies : Prop := ∀ (s t : State) (e : Evt), exec (.t0 e) s = .next t →
  Part.pw.same (s.at e) (t.half e.half)

/-- A command that names a ring leaves the other rings of its half alone (R46, R88, R95, R101).
Where the rules leave a point open it is the model's choice: log entry 4. -/
def Obligations.RingsStayApart : Prop := ∀ (s t : State) (e : Evt) (k : RingNo) (p : PosNo)
  (los fo tail : Bool) (bad inv : Nat) (eyes : List Nat) (err : Int) (ds : List Int) (m0 m1 : Block) (mask : BitVec 16) (f : SvcFrame),
  ∀ i ∈ [Instr.signalDetect e k, .ctleSelect e k eyes, .blockLock e k, .markerLoss e k, .laneDown e k los bad,
      .dfeUpdate e k err ds, .readaptationEnd e k, .berWindow e k inv, .marker e k m0 m1 fo, .markerSend e k, .collGo e k,
      .collSlot e k m0 m1 fo tail, .wrap e k m0, .slotMapDeadline e k, .slotMap e k mask, .enumQuery e k p, .grant e k p,
      .timeSet e k p, .autoUnwrap e k, .svcResend e k p, .enumReply e k f, .ack e k f, .wave e k f, .nodeEvent e k f,
      .nodeLost e k p, .bindingAbandoned e k p, .svcFrameDropped e k],
    exec i s = .next t → OnlyRing k (s.at e) (t.half e.half)

/-- A command that names a pulse-width output leaves the other pairs of its half alone (R223, R229).
Where the rules leave a point open it is the model's choice: log entry 4. -/
def Obligations.PairsStayApart : Prop := ∀ (s t : State) (e : Evt) (n : Nat), n < 12 →
  (∀ m : PairNo, m.val ≠ n → exec (.reload e m) s = .next t ∨ exec (.commandEdge e m) s = .next t →
    pairOf (t.half e.half) n = pairOf (s.at e) n) ∧
  (∀ m : Fin 13, m.val ≠ n → exec (.forcePulseEnd e m) s = .next t → pairOf (t.half e.half) n = pairOf (s.at e) n)

/-- An access to BAR0 or BAR2 that is not a naturally aligned 32-bit one is ignored and flagged, and a read of it returns 0
(R3, R526, R529); BAR4 takes naturally aligned accesses of 64 bits too (R529). -/
def Obligations.MisalignedAccessesAreIgnored : Prop := ∀ (s : State) (e : Evt) (x : Access), (s.at e).runs = true →
  coreUp (s.at e) = true → x.offset % 4 ≠ 0 ∨ x.be ≠ 0xF#4 ∨ x.dwords ≠ 1 →
  (x.bar ≠ 4 ∨ x.offset % 8 ≠ 0 ∨ x.be ≠ 0xF#4 ∨ x.dwords ≠ 2 → s.read e.half x = some 0#32) ∧
  (x.bar ≠ 4 → Does (.misaligned e x) s fun t => t.getF RG.GLB_ACC_ERR 0 0 = 1 ∧ Framed [.regs, .acc] (s.at e) t ∧
    OnlyRegs [RG.GLB_ACC_ERR, RG.GLB_ACC_ADDR] (s.at e) t)

/-- An access to a register whose domain is off or whose clock is gated writes nothing, is counted and flagged, and a read
of it returns no data (R527); the power registers are reached through CORE. -/
def Obligations.GatedAccessesAreRefused : Prop := ∀ (s : State) (e : Evt) (x : Access), (s.at e).runs = true →
  coreUp (s.at e) = true → accAligned x = true → x.bar = 0 → regRow x.offset ≠ none →
  gated (s.at e) (accDomain x.offset) = true →
  s.read e.half x = none ∧
  (Does (.domainOff e x) s fun t => t.getF RG.GLB_ACC_ERR 2 2 = 1 ∧ Counted RG.CLK_CNT_GATE_ERR (s.at e) t ∧
    Framed [.regs, .acc] (s.at e) t ∧ OnlyRegs [RG.CLK_CNT_GATE_ERR, RG.GLB_ACC_ERR, RG.GLB_ACC_ADDR] (s.at e) t) ∧
  ∀ o, 0x1000 ≤ o → o < 0x2000 → accDomain o = 0

/-- PWR_VTABi takes 650 mV to 900 mV in steps of 5 mV, and nothing else (R448). -/
def Obligations.TheSupplyTableTakesItsRange : Prop := ∀ (s : State) (e : Evt) (i : Fin 4) (v : Word), (s.at e).runs = true →
  (s.at e).glb.dev ≠ .lullOnly →
  let h := s.at e
  let mv := wbits v 9 0
  let ok := 650 ≤ mv ∧ mv ≤ 900 ∧ mv % 5 = 0
  (¬ ok → Does (.pwrVtab e i v) s fun t => t.getF RG.PWR_STATUS 20 20 = 1 ∧ OnlyRegs [RG.PWR_STATUS] h t ∧
    Framed [.regs, .acc] h t) ∧
  (ok → vIndex h = i.val → Does (.pwrVtab e i v) s fun t => t.reg (RG.PWR_VTAB i) = BitVec.ofNat 32 mv ∧
    (domUp h 0 = true → h.glb.role ≠ .active → t.pw.target = 4 * mv ∧ t.pw.set = setNow (max s.time e.time) h ∧
      t.pw.slewing = decide (setNow (max s.time e.time) h ≠ 4 * mv)) ∧
    (domUp h 0 = true → h.glb.role = .active → h.glb.dev.inService = true → 4 * mv ≠ h.pw.target →
      t.pw.pend = true ∧ t.pw.target = h.pw.target))

/-- The other half's heartbeat is lost when 3 µs pass without one, and not before (R290). -/
def Obligations.HeartbeatsAreLostAfterThreeMicroseconds : Prop := ∀ (s : State) (e : Evt), (s.at e).runs = true →
  (s.at e).glb.dev ≠ .lullOnly → (s.at e).th.hbOk = true → Does (.heartbeatLost e) s fun t =>
    t.th.hbOk = decide (max s.time e.time < (s.at e).th.hbAt + tUs 3)

/-- What reads return (01_architecture.md, 08_sheepdog_gust.md, 09_redundancy.md, 16_thermal_security_update.md, R3, R526): the half's own
bits, the state word, the counts of the sources, and 0 where no register is.
Where the rules leave a point open it is the model's choice: log entries 54 and 100. -/
def Obligations.ReadsShowTheState : Prop := ∀ (s : State) (i : HalfId),
  let h := s.half i
  let word (o : Nat) : Option Word := s.read i ⟨0, o, false, 0xF#4, 1⟩
  let cx : Cx := { me := i, now := s.time, other := s.half i.other }
  coreUp h = true →
  (∀ o, o % 4 = 0 → regRow o = none → word o = some 0#32) ∧
  (gated h 0 = false → ∃ w, word RG.GLB_HALF = some w ∧ wbits w 0 0 = i.bit ∧ wbits w 1 1 = b2n h.glb.preferred ∧
    wbits w 2 2 = b2n (drivesBalls cx h) ∧ wbits w 31 3 = 0) ∧
  (gated h 0 = false → word RG.GLB_STATE = some (BitVec.ofNat 32 (glbState h))) ∧
  (gated h 0 = false → ∀ n < 256, ∃ w, word (RG.SD_SRC n) = some w ∧ wbits w 15 0 = h.getF (RG.SD_SRC n) 15 0 ∧
    wbits w 18 16 = h.sev n % 8) ∧
  (gated h 0 = false → ∀ n, 2 ≤ n → n ≤ 12 → word (0x58000 + 4 * n) = some (vget h.th.shown n)) ∧
  (gated h 0 = false → word RG.SEC_FWVER = some h.tm.fwVer ∧ word RG.GLB_CYCLE_LO = some (BitVec.ofNat 32 h.glb.cycle))
end

