-- ==== Sys2Proof/Laws/Maps.lean ====
section
/-! SUPPORT. Laws of the sparse word maps, of the registers over them, and of the vectors read by a number: a read after a
write gives the value written, a write leaves every other place alone, and every operation keeps the canonical form. -/
namespace Sys2Proof.Machine

/-! ### Sparse word maps -/

theorem WMap.get_keep_of_mem (d : Nat → Word) (p : Nat → Bool) (m : WMap) (k : Nat) (hp : p k = true) :
    WMap.get d (WMap.keep p m) k = WMap.get d m k := by
  induction m with
  | nil => rfl
  | cons x m ih =>
    obtain ⟨j, w⟩ := x
    by_cases hj : p j = true
    · simp [WMap.keep, hj, WMap.get, ih]
    · have hk : k ≠ j := fun e => hj (e ▸ hp)
      simp [WMap.keep, hj, WMap.get, ih, hk]

theorem WMap.get_keep_of_not_mem (d : Nat → Word) (p : Nat → Bool) (m : WMap) (k : Nat) (hp : p k = false) :
    WMap.get d (WMap.keep p m) k = d k := by
  induction m with
  | nil => rfl
  | cons x m ih =>
    obtain ⟨j, w⟩ := x
    by_cases hj : p j = true
    · have hk : k ≠ j := fun e => by simp [e, hj] at hp
      simp [WMap.keep, hj, WMap.get, ih, hk]
    · simp [WMap.keep, hj, ih]

theorem WMap.get_put_same (d : Nat → Word) (m : WMap) (k : Nat) (v : Word) : WMap.get d (WMap.put m k v) k = v := by
  induction m with
  | nil => simp [WMap.put, WMap.get]
  | cons x m ih =>
    obtain ⟨j, w⟩ := x
    unfold WMap.put
    by_cases h1 : k < j
    · simp [h1, WMap.get]
    · by_cases h2 : k = j
      · simp [h2, WMap.get]
      · simp [h1, h2, WMap.get, ih]

theorem WMap.get_put_other (d : Nat → Word) (m : WMap) (k l : Nat) (v : Word) (hl : l ≠ k) :
    WMap.get d (WMap.put m k v) l = WMap.get d m l := by
  induction m with
  | nil => simp [WMap.put, WMap.get, hl]
  | cons x m ih =>
    obtain ⟨j, w⟩ := x
    unfold WMap.put
    by_cases h1 : k < j
    · simp [h1, WMap.get, hl]
    · by_cases h2 : k = j
      · subst h2; simp [WMap.get, hl]
      · simp [h1, h2, WMap.get, ih]

@[simp] theorem WMap.get_set_same (d : Nat → Word) (m : WMap) (k : Nat) (v : Word) :
    WMap.get d (WMap.set d m k v) k = v := by
  unfold WMap.set
  split
  · rename_i h; rw [WMap.get_keep_of_not_mem d _ m k (by simp)]; exact h.symm
  · exact WMap.get_put_same d m k v

theorem WMap.get_set_other (d : Nat → Word) (m : WMap) (k l : Nat) (v : Word) (hl : l ≠ k) :
    WMap.get d (WMap.set d m k v) l = WMap.get d m l := by
  unfold WMap.set
  split
  · exact WMap.get_keep_of_mem d _ m l (by simp [hl])
  · exact WMap.get_put_other d m k l v hl

theorem WMap.wfFrom_mono (d : Nat → Word) (m : WMap) (a b : Nat) (hab : a ≤ b) (h : WMap.wfFrom d b m = true) :
    WMap.wfFrom d a m = true := by
  cases m with
  | nil => rfl
  | cons x m =>
    obtain ⟨j, w⟩ := x
    simp only [WMap.wfFrom, Bool.and_eq_true, decide_eq_true_eq] at h ⊢
    exact ⟨⟨by omega, h.1.2⟩, h.2⟩

theorem WMap.wfFrom_keep (d : Nat → Word) (p : Nat → Bool) (m : WMap) (a : Nat) (h : WMap.wfFrom d a m = true) :
    WMap.wfFrom d a (WMap.keep p m) = true := by
  induction m generalizing a with
  | nil => rfl
  | cons x m ih =>
    obtain ⟨j, w⟩ := x
    simp only [WMap.wfFrom, Bool.and_eq_true, decide_eq_true_eq] at h
    by_cases hj : p j = true
    · simp only [WMap.keep, hj, if_true, WMap.wfFrom, Bool.and_eq_true, decide_eq_true_eq]
      exact ⟨h.1, ih _ h.2⟩
    · simp only [WMap.keep, hj]
      exact WMap.wfFrom_mono d _ a (j + 1) (by omega) (ih _ h.2)

theorem WMap.wfFrom_put (d : Nat → Word) (m : WMap) (a k : Nat) (v : Word) (hv : v ≠ d k) (hk : a ≤ k)
    (h : WMap.wfFrom d a m = true) : WMap.wfFrom d a (WMap.put m k v) = true := by
  induction m generalizing a with
  | nil => simp [WMap.put, WMap.wfFrom, hv, hk]
  | cons x m ih =>
    obtain ⟨j, w⟩ := x
    simp only [WMap.wfFrom, Bool.and_eq_true, decide_eq_true_eq] at h
    unfold WMap.put
    by_cases h1 : k < j
    · simp only [h1, if_true, WMap.wfFrom, Bool.and_eq_true, decide_eq_true_eq]
      exact ⟨⟨hk, hv⟩, ⟨⟨by omega, h.1.2⟩, h.2⟩⟩
    · by_cases h2 : k = j
      · subst h2
        simp only [h1, if_false, if_true, WMap.wfFrom, Bool.and_eq_true, decide_eq_true_eq]
        exact ⟨⟨hk, hv⟩, h.2⟩
      · simp only [h1, h2, if_false, WMap.wfFrom, Bool.and_eq_true, decide_eq_true_eq]
        exact ⟨h.1, ih _ (by omega) h.2⟩

/-- Every write keeps the canonical form. -/
theorem WMap.wf_set (d : Nat → Word) (m : WMap) (k : Nat) (v : Word) (h : WMap.wf d m = true) :
    WMap.wf d (WMap.set d m k v) = true := by
  unfold WMap.set
  split
  · exact WMap.wfFrom_keep d _ m 0 h
  · rename_i hv; exact WMap.wfFrom_put d m 0 k v hv (Nat.zero_le k) h

/-- Leaving entries out keeps the canonical form. -/
theorem WMap.wf_keep (d : Nat → Word) (p : Nat → Bool) (m : WMap) (h : WMap.wf d m = true) :
    WMap.wf d (WMap.keep p m) = true := WMap.wfFrom_keep d p m 0 h

/-! ### Registers -/

@[simp] theorem Half.reg_put_same (h : Half) (o : Nat) (v : Word) : (h.put o v).reg o = v := by
  simp [Half.reg, Half.put]

theorem Half.reg_put_other (h : Half) (o p : Nat) (v : Word) (hp : p ≠ o) : (h.put o v).reg p = h.reg p :=
  WMap.get_set_other _ _ _ _ _ hp

@[simp] theorem Half.reg_putF_same (h : Half) (o a b v : Nat) : (h.putF o a b v).reg o = wset (h.reg o) a b v := by
  simp [Half.putF]

theorem Half.reg_putF_other (h : Half) (o a b v p : Nat) (hp : p ≠ o) : (h.putF o a b v).reg p = h.reg p :=
  Half.reg_put_other h o p _ hp

@[simp] theorem Half.reg_count_same (h : Half) (o : Nat) : (h.count o).reg o = sat32 (h.reg o) 1 := by
  simp [Half.count]

theorem Half.reg_count_other (h : Half) (o p : Nat) (hp : p ≠ o) : (h.count o).reg p = h.reg p :=
  Half.reg_put_other h o p _ hp

/-- A register write keeps the register file's canonical form. -/
theorem Half.put_wf (h : Half) (o : Nat) (v : Word) (w : WMap.wf regDefault h.regs = true) :
    WMap.wf regDefault (h.put o v).regs = true := WMap.wf_set _ _ _ _ w

/-! ### Vectors by a number -/

section
variable {α : Type} {n : Nat}

theorem vget_lt [Inhabited α] (v : Vector α n) (i : Nat) (hi : i < n) : vget v i = v[i] := by simp [vget, hi]

@[simp] theorem vget_vmod_same [Inhabited α] (v : Vector α n) (i : Nat) (f : α → α) (hi : i < n) :
    vget (vmod v i f) i = f (vget v i) := by
  simp [vget, vmod, hi]

theorem vget_vmod_other [Inhabited α] (v : Vector α n) (i j : Nat) (f : α → α) (hj : j ≠ i) :
    vget (vmod v i f) j = vget v j := by
  unfold vget vmod
  split
  · split
    · rw [Vector.getElem_set_ne]; omega
    · rfl
  · rfl

@[simp] theorem vget_vset_same [Inhabited α] (v : Vector α n) (i : Nat) (x : α) (hi : i < n) :
    vget (vset v i x) i = x := by
  simp [vget, vset, hi]

end

/-! ### Rings, positions, contexts and channels -/

theorem Half.ring_modRing_same (h : Half) (k : Nat) (f : Ring → Ring) (hk : k < 12) : (h.modRing k f).ring k = f (h.ring k) := by
  simp [Half.ring, Half.modRing, hk]

theorem Half.ring_modRing_other (h : Half) (k j : Nat) (f : Ring → Ring) (hj : j ≠ k) : (h.modRing k f).ring j = h.ring j := by
  simp [Half.ring, Half.modRing, vget_vmod_other _ _ _ _ hj]

theorem Half.cell_modCell_same (h : Half) (c : Nat) (f : Cell → Cell) (hc : c < 144) : (h.modCell c f).cell c = f (h.cell c) := by
  simp [Half.cell, Half.modCell, hc]

theorem Half.cell_modCell_other (h : Half) (c j : Nat) (f : Cell → Cell) (hj : j ≠ c) : (h.modCell c f).cell j = h.cell j := by
  simp [Half.cell, Half.modCell, vget_vmod_other _ _ _ _ hj]

/-- A ring is read from the rings alone. -/
theorem Half.ring_of_rings {a b : Half} (e : a.rings = b.rings) (k : Nat) : a.ring k = b.ring k := by simp [Half.ring, e]

/-- A register is read from the registers alone. -/
theorem Half.reg_of_regs {a b : Half} (e : a.regs = b.regs) (o : Nat) : a.reg o = b.reg o := by simp [Half.reg, e]

end Sys2Proof.Machine
end

