-- ==== Sys2Proof/Laws/State.lean ====
section
/-! SUPPORT. One lemma for each field and each update of a half: no proof unfolds a record update. -/
namespace Sys2Proof.Machine

@[simp] theorem Half.modGlb_id (h : Half) (f : Glb → Glb) : (h.modGlb f).id = h.id := rfl
@[simp] theorem Half.modGlb_glb (h : Half) (f : Glb → Glb) : (h.modGlb f).glb = f h.glb := rfl
@[simp] theorem Half.modGlb_sd (h : Half) (f : Glb → Glb) : (h.modGlb f).sd = h.sd := rfl
@[simp] theorem Half.modGlb_hi (h : Half) (f : Glb → Glb) : (h.modGlb f).hi = h.hi := rfl
@[simp] theorem Half.modGlb_rings (h : Half) (f : Glb → Glb) : (h.modGlb f).rings = h.rings := rfl
@[simp] theorem Half.modGlb_svc (h : Half) (f : Glb → Glb) : (h.modGlb f).svc = h.svc := rfl
@[simp] theorem Half.modGlb_cells (h : Half) (f : Glb → Glb) : (h.modGlb f).cells = h.cells := rfl
@[simp] theorem Half.modGlb_an (h : Half) (f : Glb → Glb) : (h.modGlb f).an = h.an := rfl
@[simp] theorem Half.modGlb_ox (h : Half) (f : Glb → Glb) : (h.modGlb f).ox = h.ox := rfl
@[simp] theorem Half.modGlb_lt (h : Half) (f : Glb → Glb) : (h.modGlb f).lt = h.lt := rfl
@[simp] theorem Half.modGlb_lv (h : Half) (f : Glb → Glb) : (h.modGlb f).lv = h.lv := rfl
@[simp] theorem Half.modGlb_th (h : Half) (f : Glb → Glb) : (h.modGlb f).th = h.th := rfl
@[simp] theorem Half.modGlb_xf (h : Half) (f : Glb → Glb) : (h.modGlb f).xf = h.xf := rfl
@[simp] theorem Half.modGlb_acc (h : Half) (f : Glb → Glb) : (h.modGlb f).acc = h.acc := rfl
@[simp] theorem Half.modGlb_tb (h : Half) (f : Glb → Glb) : (h.modGlb f).tb = h.tb := rfl
@[simp] theorem Half.modGlb_ck (h : Half) (f : Glb → Glb) : (h.modGlb f).ck = h.ck := rfl
@[simp] theorem Half.modGlb_net (h : Half) (f : Glb → Glb) : (h.modGlb f).net = h.net := rfl
@[simp] theorem Half.modGlb_can (h : Half) (f : Glb → Glb) : (h.modGlb f).can = h.can := rfl
@[simp] theorem Half.modGlb_pw (h : Half) (f : Glb → Glb) : (h.modGlb f).pw = h.pw := rfl
@[simp] theorem Half.modGlb_me (h : Half) (f : Glb → Glb) : (h.modGlb f).me = h.me := rfl
@[simp] theorem Half.modGlb_tm (h : Half) (f : Glb → Glb) : (h.modGlb f).tm = h.tm := rfl
@[simp] theorem Half.modGlb_pk (h : Half) (f : Glb → Glb) : (h.modGlb f).pk = h.pk := rfl
@[simp] theorem Half.modGlb_regs (h : Half) (f : Glb → Glb) : (h.modGlb f).regs = h.regs := rfl
@[simp] theorem Half.modGlb_out (h : Half) (f : Glb → Glb) : (h.modGlb f).out = h.out := rfl

@[simp] theorem Half.modSd_id (h : Half) (f : Sd → Sd) : (h.modSd f).id = h.id := rfl
@[simp] theorem Half.modSd_glb (h : Half) (f : Sd → Sd) : (h.modSd f).glb = h.glb := rfl
@[simp] theorem Half.modSd_sd (h : Half) (f : Sd → Sd) : (h.modSd f).sd = f h.sd := rfl
@[simp] theorem Half.modSd_hi (h : Half) (f : Sd → Sd) : (h.modSd f).hi = h.hi := rfl
@[simp] theorem Half.modSd_rings (h : Half) (f : Sd → Sd) : (h.modSd f).rings = h.rings := rfl
@[simp] theorem Half.modSd_svc (h : Half) (f : Sd → Sd) : (h.modSd f).svc = h.svc := rfl
@[simp] theorem Half.modSd_cells (h : Half) (f : Sd → Sd) : (h.modSd f).cells = h.cells := rfl
@[simp] theorem Half.modSd_an (h : Half) (f : Sd → Sd) : (h.modSd f).an = h.an := rfl
@[simp] theorem Half.modSd_ox (h : Half) (f : Sd → Sd) : (h.modSd f).ox = h.ox := rfl
@[simp] theorem Half.modSd_lt (h : Half) (f : Sd → Sd) : (h.modSd f).lt = h.lt := rfl
@[simp] theorem Half.modSd_lv (h : Half) (f : Sd → Sd) : (h.modSd f).lv = h.lv := rfl
@[simp] theorem Half.modSd_th (h : Half) (f : Sd → Sd) : (h.modSd f).th = h.th := rfl
@[simp] theorem Half.modSd_xf (h : Half) (f : Sd → Sd) : (h.modSd f).xf = h.xf := rfl
@[simp] theorem Half.modSd_acc (h : Half) (f : Sd → Sd) : (h.modSd f).acc = h.acc := rfl
@[simp] theorem Half.modSd_tb (h : Half) (f : Sd → Sd) : (h.modSd f).tb = h.tb := rfl
@[simp] theorem Half.modSd_ck (h : Half) (f : Sd → Sd) : (h.modSd f).ck = h.ck := rfl
@[simp] theorem Half.modSd_net (h : Half) (f : Sd → Sd) : (h.modSd f).net = h.net := rfl
@[simp] theorem Half.modSd_can (h : Half) (f : Sd → Sd) : (h.modSd f).can = h.can := rfl
@[simp] theorem Half.modSd_pw (h : Half) (f : Sd → Sd) : (h.modSd f).pw = h.pw := rfl
@[simp] theorem Half.modSd_me (h : Half) (f : Sd → Sd) : (h.modSd f).me = h.me := rfl
@[simp] theorem Half.modSd_tm (h : Half) (f : Sd → Sd) : (h.modSd f).tm = h.tm := rfl
@[simp] theorem Half.modSd_pk (h : Half) (f : Sd → Sd) : (h.modSd f).pk = h.pk := rfl
@[simp] theorem Half.modSd_regs (h : Half) (f : Sd → Sd) : (h.modSd f).regs = h.regs := rfl
@[simp] theorem Half.modSd_out (h : Half) (f : Sd → Sd) : (h.modSd f).out = h.out := rfl

@[simp] theorem Half.modHi_id (h : Half) (f : Hi → Hi) : (h.modHi f).id = h.id := rfl
@[simp] theorem Half.modHi_glb (h : Half) (f : Hi → Hi) : (h.modHi f).glb = h.glb := rfl
@[simp] theorem Half.modHi_sd (h : Half) (f : Hi → Hi) : (h.modHi f).sd = h.sd := rfl
@[simp] theorem Half.modHi_hi (h : Half) (f : Hi → Hi) : (h.modHi f).hi = f h.hi := rfl
@[simp] theorem Half.modHi_rings (h : Half) (f : Hi → Hi) : (h.modHi f).rings = h.rings := rfl
@[simp] theorem Half.modHi_svc (h : Half) (f : Hi → Hi) : (h.modHi f).svc = h.svc := rfl
@[simp] theorem Half.modHi_cells (h : Half) (f : Hi → Hi) : (h.modHi f).cells = h.cells := rfl
@[simp] theorem Half.modHi_an (h : Half) (f : Hi → Hi) : (h.modHi f).an = h.an := rfl
@[simp] theorem Half.modHi_ox (h : Half) (f : Hi → Hi) : (h.modHi f).ox = h.ox := rfl
@[simp] theorem Half.modHi_lt (h : Half) (f : Hi → Hi) : (h.modHi f).lt = h.lt := rfl
@[simp] theorem Half.modHi_lv (h : Half) (f : Hi → Hi) : (h.modHi f).lv = h.lv := rfl
@[simp] theorem Half.modHi_th (h : Half) (f : Hi → Hi) : (h.modHi f).th = h.th := rfl
@[simp] theorem Half.modHi_xf (h : Half) (f : Hi → Hi) : (h.modHi f).xf = h.xf := rfl
@[simp] theorem Half.modHi_acc (h : Half) (f : Hi → Hi) : (h.modHi f).acc = h.acc := rfl
@[simp] theorem Half.modHi_tb (h : Half) (f : Hi → Hi) : (h.modHi f).tb = h.tb := rfl
@[simp] theorem Half.modHi_ck (h : Half) (f : Hi → Hi) : (h.modHi f).ck = h.ck := rfl
@[simp] theorem Half.modHi_net (h : Half) (f : Hi → Hi) : (h.modHi f).net = h.net := rfl
@[simp] theorem Half.modHi_can (h : Half) (f : Hi → Hi) : (h.modHi f).can = h.can := rfl
@[simp] theorem Half.modHi_pw (h : Half) (f : Hi → Hi) : (h.modHi f).pw = h.pw := rfl
@[simp] theorem Half.modHi_me (h : Half) (f : Hi → Hi) : (h.modHi f).me = h.me := rfl
@[simp] theorem Half.modHi_tm (h : Half) (f : Hi → Hi) : (h.modHi f).tm = h.tm := rfl
@[simp] theorem Half.modHi_pk (h : Half) (f : Hi → Hi) : (h.modHi f).pk = h.pk := rfl
@[simp] theorem Half.modHi_regs (h : Half) (f : Hi → Hi) : (h.modHi f).regs = h.regs := rfl
@[simp] theorem Half.modHi_out (h : Half) (f : Hi → Hi) : (h.modHi f).out = h.out := rfl

@[simp] theorem Half.modAn_id (h : Half) (f : An → An) : (h.modAn f).id = h.id := rfl
@[simp] theorem Half.modAn_glb (h : Half) (f : An → An) : (h.modAn f).glb = h.glb := rfl
@[simp] theorem Half.modAn_sd (h : Half) (f : An → An) : (h.modAn f).sd = h.sd := rfl
@[simp] theorem Half.modAn_hi (h : Half) (f : An → An) : (h.modAn f).hi = h.hi := rfl
@[simp] theorem Half.modAn_rings (h : Half) (f : An → An) : (h.modAn f).rings = h.rings := rfl
@[simp] theorem Half.modAn_svc (h : Half) (f : An → An) : (h.modAn f).svc = h.svc := rfl
@[simp] theorem Half.modAn_cells (h : Half) (f : An → An) : (h.modAn f).cells = h.cells := rfl
@[simp] theorem Half.modAn_an (h : Half) (f : An → An) : (h.modAn f).an = f h.an := rfl
@[simp] theorem Half.modAn_ox (h : Half) (f : An → An) : (h.modAn f).ox = h.ox := rfl
@[simp] theorem Half.modAn_lt (h : Half) (f : An → An) : (h.modAn f).lt = h.lt := rfl
@[simp] theorem Half.modAn_lv (h : Half) (f : An → An) : (h.modAn f).lv = h.lv := rfl
@[simp] theorem Half.modAn_th (h : Half) (f : An → An) : (h.modAn f).th = h.th := rfl
@[simp] theorem Half.modAn_xf (h : Half) (f : An → An) : (h.modAn f).xf = h.xf := rfl
@[simp] theorem Half.modAn_acc (h : Half) (f : An → An) : (h.modAn f).acc = h.acc := rfl
@[simp] theorem Half.modAn_tb (h : Half) (f : An → An) : (h.modAn f).tb = h.tb := rfl
@[simp] theorem Half.modAn_ck (h : Half) (f : An → An) : (h.modAn f).ck = h.ck := rfl
@[simp] theorem Half.modAn_net (h : Half) (f : An → An) : (h.modAn f).net = h.net := rfl
@[simp] theorem Half.modAn_can (h : Half) (f : An → An) : (h.modAn f).can = h.can := rfl
@[simp] theorem Half.modAn_pw (h : Half) (f : An → An) : (h.modAn f).pw = h.pw := rfl
@[simp] theorem Half.modAn_me (h : Half) (f : An → An) : (h.modAn f).me = h.me := rfl
@[simp] theorem Half.modAn_tm (h : Half) (f : An → An) : (h.modAn f).tm = h.tm := rfl
@[simp] theorem Half.modAn_pk (h : Half) (f : An → An) : (h.modAn f).pk = h.pk := rfl
@[simp] theorem Half.modAn_regs (h : Half) (f : An → An) : (h.modAn f).regs = h.regs := rfl
@[simp] theorem Half.modAn_out (h : Half) (f : An → An) : (h.modAn f).out = h.out := rfl

@[simp] theorem Half.modOx_id (h : Half) (f : Ox → Ox) : (h.modOx f).id = h.id := rfl
@[simp] theorem Half.modOx_glb (h : Half) (f : Ox → Ox) : (h.modOx f).glb = h.glb := rfl
@[simp] theorem Half.modOx_sd (h : Half) (f : Ox → Ox) : (h.modOx f).sd = h.sd := rfl
@[simp] theorem Half.modOx_hi (h : Half) (f : Ox → Ox) : (h.modOx f).hi = h.hi := rfl
@[simp] theorem Half.modOx_rings (h : Half) (f : Ox → Ox) : (h.modOx f).rings = h.rings := rfl
@[simp] theorem Half.modOx_svc (h : Half) (f : Ox → Ox) : (h.modOx f).svc = h.svc := rfl
@[simp] theorem Half.modOx_cells (h : Half) (f : Ox → Ox) : (h.modOx f).cells = h.cells := rfl
@[simp] theorem Half.modOx_an (h : Half) (f : Ox → Ox) : (h.modOx f).an = h.an := rfl
@[simp] theorem Half.modOx_ox (h : Half) (f : Ox → Ox) : (h.modOx f).ox = f h.ox := rfl
@[simp] theorem Half.modOx_lt (h : Half) (f : Ox → Ox) : (h.modOx f).lt = h.lt := rfl
@[simp] theorem Half.modOx_lv (h : Half) (f : Ox → Ox) : (h.modOx f).lv = h.lv := rfl
@[simp] theorem Half.modOx_th (h : Half) (f : Ox → Ox) : (h.modOx f).th = h.th := rfl
@[simp] theorem Half.modOx_xf (h : Half) (f : Ox → Ox) : (h.modOx f).xf = h.xf := rfl
@[simp] theorem Half.modOx_acc (h : Half) (f : Ox → Ox) : (h.modOx f).acc = h.acc := rfl
@[simp] theorem Half.modOx_tb (h : Half) (f : Ox → Ox) : (h.modOx f).tb = h.tb := rfl
@[simp] theorem Half.modOx_ck (h : Half) (f : Ox → Ox) : (h.modOx f).ck = h.ck := rfl
@[simp] theorem Half.modOx_net (h : Half) (f : Ox → Ox) : (h.modOx f).net = h.net := rfl
@[simp] theorem Half.modOx_can (h : Half) (f : Ox → Ox) : (h.modOx f).can = h.can := rfl
@[simp] theorem Half.modOx_pw (h : Half) (f : Ox → Ox) : (h.modOx f).pw = h.pw := rfl
@[simp] theorem Half.modOx_me (h : Half) (f : Ox → Ox) : (h.modOx f).me = h.me := rfl
@[simp] theorem Half.modOx_tm (h : Half) (f : Ox → Ox) : (h.modOx f).tm = h.tm := rfl
@[simp] theorem Half.modOx_pk (h : Half) (f : Ox → Ox) : (h.modOx f).pk = h.pk := rfl
@[simp] theorem Half.modOx_regs (h : Half) (f : Ox → Ox) : (h.modOx f).regs = h.regs := rfl
@[simp] theorem Half.modOx_out (h : Half) (f : Ox → Ox) : (h.modOx f).out = h.out := rfl

@[simp] theorem Half.modLv_id (h : Half) (f : Lv → Lv) : (h.modLv f).id = h.id := rfl
@[simp] theorem Half.modLv_glb (h : Half) (f : Lv → Lv) : (h.modLv f).glb = h.glb := rfl
@[simp] theorem Half.modLv_sd (h : Half) (f : Lv → Lv) : (h.modLv f).sd = h.sd := rfl
@[simp] theorem Half.modLv_hi (h : Half) (f : Lv → Lv) : (h.modLv f).hi = h.hi := rfl
@[simp] theorem Half.modLv_rings (h : Half) (f : Lv → Lv) : (h.modLv f).rings = h.rings := rfl
@[simp] theorem Half.modLv_svc (h : Half) (f : Lv → Lv) : (h.modLv f).svc = h.svc := rfl
@[simp] theorem Half.modLv_cells (h : Half) (f : Lv → Lv) : (h.modLv f).cells = h.cells := rfl
@[simp] theorem Half.modLv_an (h : Half) (f : Lv → Lv) : (h.modLv f).an = h.an := rfl
@[simp] theorem Half.modLv_ox (h : Half) (f : Lv → Lv) : (h.modLv f).ox = h.ox := rfl
@[simp] theorem Half.modLv_lt (h : Half) (f : Lv → Lv) : (h.modLv f).lt = h.lt := rfl
@[simp] theorem Half.modLv_lv (h : Half) (f : Lv → Lv) : (h.modLv f).lv = f h.lv := rfl
@[simp] theorem Half.modLv_th (h : Half) (f : Lv → Lv) : (h.modLv f).th = h.th := rfl
@[simp] theorem Half.modLv_xf (h : Half) (f : Lv → Lv) : (h.modLv f).xf = h.xf := rfl
@[simp] theorem Half.modLv_acc (h : Half) (f : Lv → Lv) : (h.modLv f).acc = h.acc := rfl
@[simp] theorem Half.modLv_tb (h : Half) (f : Lv → Lv) : (h.modLv f).tb = h.tb := rfl
@[simp] theorem Half.modLv_ck (h : Half) (f : Lv → Lv) : (h.modLv f).ck = h.ck := rfl
@[simp] theorem Half.modLv_net (h : Half) (f : Lv → Lv) : (h.modLv f).net = h.net := rfl
@[simp] theorem Half.modLv_can (h : Half) (f : Lv → Lv) : (h.modLv f).can = h.can := rfl
@[simp] theorem Half.modLv_pw (h : Half) (f : Lv → Lv) : (h.modLv f).pw = h.pw := rfl
@[simp] theorem Half.modLv_me (h : Half) (f : Lv → Lv) : (h.modLv f).me = h.me := rfl
@[simp] theorem Half.modLv_tm (h : Half) (f : Lv → Lv) : (h.modLv f).tm = h.tm := rfl
@[simp] theorem Half.modLv_pk (h : Half) (f : Lv → Lv) : (h.modLv f).pk = h.pk := rfl
@[simp] theorem Half.modLv_regs (h : Half) (f : Lv → Lv) : (h.modLv f).regs = h.regs := rfl
@[simp] theorem Half.modLv_out (h : Half) (f : Lv → Lv) : (h.modLv f).out = h.out := rfl

@[simp] theorem Half.modTh_id (h : Half) (f : Th → Th) : (h.modTh f).id = h.id := rfl
@[simp] theorem Half.modTh_glb (h : Half) (f : Th → Th) : (h.modTh f).glb = h.glb := rfl
@[simp] theorem Half.modTh_sd (h : Half) (f : Th → Th) : (h.modTh f).sd = h.sd := rfl
@[simp] theorem Half.modTh_hi (h : Half) (f : Th → Th) : (h.modTh f).hi = h.hi := rfl
@[simp] theorem Half.modTh_rings (h : Half) (f : Th → Th) : (h.modTh f).rings = h.rings := rfl
@[simp] theorem Half.modTh_svc (h : Half) (f : Th → Th) : (h.modTh f).svc = h.svc := rfl
@[simp] theorem Half.modTh_cells (h : Half) (f : Th → Th) : (h.modTh f).cells = h.cells := rfl
@[simp] theorem Half.modTh_an (h : Half) (f : Th → Th) : (h.modTh f).an = h.an := rfl
@[simp] theorem Half.modTh_ox (h : Half) (f : Th → Th) : (h.modTh f).ox = h.ox := rfl
@[simp] theorem Half.modTh_lt (h : Half) (f : Th → Th) : (h.modTh f).lt = h.lt := rfl
@[simp] theorem Half.modTh_lv (h : Half) (f : Th → Th) : (h.modTh f).lv = h.lv := rfl
@[simp] theorem Half.modTh_th (h : Half) (f : Th → Th) : (h.modTh f).th = f h.th := rfl
@[simp] theorem Half.modTh_xf (h : Half) (f : Th → Th) : (h.modTh f).xf = h.xf := rfl
@[simp] theorem Half.modTh_acc (h : Half) (f : Th → Th) : (h.modTh f).acc = h.acc := rfl
@[simp] theorem Half.modTh_tb (h : Half) (f : Th → Th) : (h.modTh f).tb = h.tb := rfl
@[simp] theorem Half.modTh_ck (h : Half) (f : Th → Th) : (h.modTh f).ck = h.ck := rfl
@[simp] theorem Half.modTh_net (h : Half) (f : Th → Th) : (h.modTh f).net = h.net := rfl
@[simp] theorem Half.modTh_can (h : Half) (f : Th → Th) : (h.modTh f).can = h.can := rfl
@[simp] theorem Half.modTh_pw (h : Half) (f : Th → Th) : (h.modTh f).pw = h.pw := rfl
@[simp] theorem Half.modTh_me (h : Half) (f : Th → Th) : (h.modTh f).me = h.me := rfl
@[simp] theorem Half.modTh_tm (h : Half) (f : Th → Th) : (h.modTh f).tm = h.tm := rfl
@[simp] theorem Half.modTh_pk (h : Half) (f : Th → Th) : (h.modTh f).pk = h.pk := rfl
@[simp] theorem Half.modTh_regs (h : Half) (f : Th → Th) : (h.modTh f).regs = h.regs := rfl
@[simp] theorem Half.modTh_out (h : Half) (f : Th → Th) : (h.modTh f).out = h.out := rfl

@[simp] theorem Half.modXf_id (h : Half) (f : Xfer → Xfer) : (h.modXf f).id = h.id := rfl
@[simp] theorem Half.modXf_glb (h : Half) (f : Xfer → Xfer) : (h.modXf f).glb = h.glb := rfl
@[simp] theorem Half.modXf_sd (h : Half) (f : Xfer → Xfer) : (h.modXf f).sd = h.sd := rfl
@[simp] theorem Half.modXf_hi (h : Half) (f : Xfer → Xfer) : (h.modXf f).hi = h.hi := rfl
@[simp] theorem Half.modXf_rings (h : Half) (f : Xfer → Xfer) : (h.modXf f).rings = h.rings := rfl
@[simp] theorem Half.modXf_svc (h : Half) (f : Xfer → Xfer) : (h.modXf f).svc = h.svc := rfl
@[simp] theorem Half.modXf_cells (h : Half) (f : Xfer → Xfer) : (h.modXf f).cells = h.cells := rfl
@[simp] theorem Half.modXf_an (h : Half) (f : Xfer → Xfer) : (h.modXf f).an = h.an := rfl
@[simp] theorem Half.modXf_ox (h : Half) (f : Xfer → Xfer) : (h.modXf f).ox = h.ox := rfl
@[simp] theorem Half.modXf_lt (h : Half) (f : Xfer → Xfer) : (h.modXf f).lt = h.lt := rfl
@[simp] theorem Half.modXf_lv (h : Half) (f : Xfer → Xfer) : (h.modXf f).lv = h.lv := rfl
@[simp] theorem Half.modXf_th (h : Half) (f : Xfer → Xfer) : (h.modXf f).th = h.th := rfl
@[simp] theorem Half.modXf_xf (h : Half) (f : Xfer → Xfer) : (h.modXf f).xf = f h.xf := rfl
@[simp] theorem Half.modXf_acc (h : Half) (f : Xfer → Xfer) : (h.modXf f).acc = h.acc := rfl
@[simp] theorem Half.modXf_tb (h : Half) (f : Xfer → Xfer) : (h.modXf f).tb = h.tb := rfl
@[simp] theorem Half.modXf_ck (h : Half) (f : Xfer → Xfer) : (h.modXf f).ck = h.ck := rfl
@[simp] theorem Half.modXf_net (h : Half) (f : Xfer → Xfer) : (h.modXf f).net = h.net := rfl
@[simp] theorem Half.modXf_can (h : Half) (f : Xfer → Xfer) : (h.modXf f).can = h.can := rfl
@[simp] theorem Half.modXf_pw (h : Half) (f : Xfer → Xfer) : (h.modXf f).pw = h.pw := rfl
@[simp] theorem Half.modXf_me (h : Half) (f : Xfer → Xfer) : (h.modXf f).me = h.me := rfl
@[simp] theorem Half.modXf_tm (h : Half) (f : Xfer → Xfer) : (h.modXf f).tm = h.tm := rfl
@[simp] theorem Half.modXf_pk (h : Half) (f : Xfer → Xfer) : (h.modXf f).pk = h.pk := rfl
@[simp] theorem Half.modXf_regs (h : Half) (f : Xfer → Xfer) : (h.modXf f).regs = h.regs := rfl
@[simp] theorem Half.modXf_out (h : Half) (f : Xfer → Xfer) : (h.modXf f).out = h.out := rfl

@[simp] theorem Half.modTb_id (h : Half) (f : Tb → Tb) : (h.modTb f).id = h.id := rfl
@[simp] theorem Half.modTb_glb (h : Half) (f : Tb → Tb) : (h.modTb f).glb = h.glb := rfl
@[simp] theorem Half.modTb_sd (h : Half) (f : Tb → Tb) : (h.modTb f).sd = h.sd := rfl
@[simp] theorem Half.modTb_hi (h : Half) (f : Tb → Tb) : (h.modTb f).hi = h.hi := rfl
@[simp] theorem Half.modTb_rings (h : Half) (f : Tb → Tb) : (h.modTb f).rings = h.rings := rfl
@[simp] theorem Half.modTb_svc (h : Half) (f : Tb → Tb) : (h.modTb f).svc = h.svc := rfl
@[simp] theorem Half.modTb_cells (h : Half) (f : Tb → Tb) : (h.modTb f).cells = h.cells := rfl
@[simp] theorem Half.modTb_an (h : Half) (f : Tb → Tb) : (h.modTb f).an = h.an := rfl
@[simp] theorem Half.modTb_ox (h : Half) (f : Tb → Tb) : (h.modTb f).ox = h.ox := rfl
@[simp] theorem Half.modTb_lt (h : Half) (f : Tb → Tb) : (h.modTb f).lt = h.lt := rfl
@[simp] theorem Half.modTb_lv (h : Half) (f : Tb → Tb) : (h.modTb f).lv = h.lv := rfl
@[simp] theorem Half.modTb_th (h : Half) (f : Tb → Tb) : (h.modTb f).th = h.th := rfl
@[simp] theorem Half.modTb_xf (h : Half) (f : Tb → Tb) : (h.modTb f).xf = h.xf := rfl
@[simp] theorem Half.modTb_acc (h : Half) (f : Tb → Tb) : (h.modTb f).acc = h.acc := rfl
@[simp] theorem Half.modTb_tb (h : Half) (f : Tb → Tb) : (h.modTb f).tb = f h.tb := rfl
@[simp] theorem Half.modTb_ck (h : Half) (f : Tb → Tb) : (h.modTb f).ck = h.ck := rfl
@[simp] theorem Half.modTb_net (h : Half) (f : Tb → Tb) : (h.modTb f).net = h.net := rfl
@[simp] theorem Half.modTb_can (h : Half) (f : Tb → Tb) : (h.modTb f).can = h.can := rfl
@[simp] theorem Half.modTb_pw (h : Half) (f : Tb → Tb) : (h.modTb f).pw = h.pw := rfl
@[simp] theorem Half.modTb_me (h : Half) (f : Tb → Tb) : (h.modTb f).me = h.me := rfl
@[simp] theorem Half.modTb_tm (h : Half) (f : Tb → Tb) : (h.modTb f).tm = h.tm := rfl
@[simp] theorem Half.modTb_pk (h : Half) (f : Tb → Tb) : (h.modTb f).pk = h.pk := rfl
@[simp] theorem Half.modTb_regs (h : Half) (f : Tb → Tb) : (h.modTb f).regs = h.regs := rfl
@[simp] theorem Half.modTb_out (h : Half) (f : Tb → Tb) : (h.modTb f).out = h.out := rfl

@[simp] theorem Half.modCk_id (h : Half) (f : Ck → Ck) : (h.modCk f).id = h.id := rfl
@[simp] theorem Half.modCk_glb (h : Half) (f : Ck → Ck) : (h.modCk f).glb = h.glb := rfl
@[simp] theorem Half.modCk_sd (h : Half) (f : Ck → Ck) : (h.modCk f).sd = h.sd := rfl
@[simp] theorem Half.modCk_hi (h : Half) (f : Ck → Ck) : (h.modCk f).hi = h.hi := rfl
@[simp] theorem Half.modCk_rings (h : Half) (f : Ck → Ck) : (h.modCk f).rings = h.rings := rfl
@[simp] theorem Half.modCk_svc (h : Half) (f : Ck → Ck) : (h.modCk f).svc = h.svc := rfl
@[simp] theorem Half.modCk_cells (h : Half) (f : Ck → Ck) : (h.modCk f).cells = h.cells := rfl
@[simp] theorem Half.modCk_an (h : Half) (f : Ck → Ck) : (h.modCk f).an = h.an := rfl
@[simp] theorem Half.modCk_ox (h : Half) (f : Ck → Ck) : (h.modCk f).ox = h.ox := rfl
@[simp] theorem Half.modCk_lt (h : Half) (f : Ck → Ck) : (h.modCk f).lt = h.lt := rfl
@[simp] theorem Half.modCk_lv (h : Half) (f : Ck → Ck) : (h.modCk f).lv = h.lv := rfl
@[simp] theorem Half.modCk_th (h : Half) (f : Ck → Ck) : (h.modCk f).th = h.th := rfl
@[simp] theorem Half.modCk_xf (h : Half) (f : Ck → Ck) : (h.modCk f).xf = h.xf := rfl
@[simp] theorem Half.modCk_acc (h : Half) (f : Ck → Ck) : (h.modCk f).acc = h.acc := rfl
@[simp] theorem Half.modCk_tb (h : Half) (f : Ck → Ck) : (h.modCk f).tb = h.tb := rfl
@[simp] theorem Half.modCk_ck (h : Half) (f : Ck → Ck) : (h.modCk f).ck = f h.ck := rfl
@[simp] theorem Half.modCk_net (h : Half) (f : Ck → Ck) : (h.modCk f).net = h.net := rfl
@[simp] theorem Half.modCk_can (h : Half) (f : Ck → Ck) : (h.modCk f).can = h.can := rfl
@[simp] theorem Half.modCk_pw (h : Half) (f : Ck → Ck) : (h.modCk f).pw = h.pw := rfl
@[simp] theorem Half.modCk_me (h : Half) (f : Ck → Ck) : (h.modCk f).me = h.me := rfl
@[simp] theorem Half.modCk_tm (h : Half) (f : Ck → Ck) : (h.modCk f).tm = h.tm := rfl
@[simp] theorem Half.modCk_pk (h : Half) (f : Ck → Ck) : (h.modCk f).pk = h.pk := rfl
@[simp] theorem Half.modCk_regs (h : Half) (f : Ck → Ck) : (h.modCk f).regs = h.regs := rfl
@[simp] theorem Half.modCk_out (h : Half) (f : Ck → Ck) : (h.modCk f).out = h.out := rfl

@[simp] theorem Half.modPw_id (h : Half) (f : Pw → Pw) : (h.modPw f).id = h.id := rfl
@[simp] theorem Half.modPw_glb (h : Half) (f : Pw → Pw) : (h.modPw f).glb = h.glb := rfl
@[simp] theorem Half.modPw_sd (h : Half) (f : Pw → Pw) : (h.modPw f).sd = h.sd := rfl
@[simp] theorem Half.modPw_hi (h : Half) (f : Pw → Pw) : (h.modPw f).hi = h.hi := rfl
@[simp] theorem Half.modPw_rings (h : Half) (f : Pw → Pw) : (h.modPw f).rings = h.rings := rfl
@[simp] theorem Half.modPw_svc (h : Half) (f : Pw → Pw) : (h.modPw f).svc = h.svc := rfl
@[simp] theorem Half.modPw_cells (h : Half) (f : Pw → Pw) : (h.modPw f).cells = h.cells := rfl
@[simp] theorem Half.modPw_an (h : Half) (f : Pw → Pw) : (h.modPw f).an = h.an := rfl
@[simp] theorem Half.modPw_ox (h : Half) (f : Pw → Pw) : (h.modPw f).ox = h.ox := rfl
@[simp] theorem Half.modPw_lt (h : Half) (f : Pw → Pw) : (h.modPw f).lt = h.lt := rfl
@[simp] theorem Half.modPw_lv (h : Half) (f : Pw → Pw) : (h.modPw f).lv = h.lv := rfl
@[simp] theorem Half.modPw_th (h : Half) (f : Pw → Pw) : (h.modPw f).th = h.th := rfl
@[simp] theorem Half.modPw_xf (h : Half) (f : Pw → Pw) : (h.modPw f).xf = h.xf := rfl
@[simp] theorem Half.modPw_acc (h : Half) (f : Pw → Pw) : (h.modPw f).acc = h.acc := rfl
@[simp] theorem Half.modPw_tb (h : Half) (f : Pw → Pw) : (h.modPw f).tb = h.tb := rfl
@[simp] theorem Half.modPw_ck (h : Half) (f : Pw → Pw) : (h.modPw f).ck = h.ck := rfl
@[simp] theorem Half.modPw_net (h : Half) (f : Pw → Pw) : (h.modPw f).net = h.net := rfl
@[simp] theorem Half.modPw_can (h : Half) (f : Pw → Pw) : (h.modPw f).can = h.can := rfl
@[simp] theorem Half.modPw_pw (h : Half) (f : Pw → Pw) : (h.modPw f).pw = f h.pw := rfl
@[simp] theorem Half.modPw_me (h : Half) (f : Pw → Pw) : (h.modPw f).me = h.me := rfl
@[simp] theorem Half.modPw_tm (h : Half) (f : Pw → Pw) : (h.modPw f).tm = h.tm := rfl
@[simp] theorem Half.modPw_pk (h : Half) (f : Pw → Pw) : (h.modPw f).pk = h.pk := rfl
@[simp] theorem Half.modPw_regs (h : Half) (f : Pw → Pw) : (h.modPw f).regs = h.regs := rfl
@[simp] theorem Half.modPw_out (h : Half) (f : Pw → Pw) : (h.modPw f).out = h.out := rfl

@[simp] theorem Half.modTm_id (h : Half) (f : Tm → Tm) : (h.modTm f).id = h.id := rfl
@[simp] theorem Half.modTm_glb (h : Half) (f : Tm → Tm) : (h.modTm f).glb = h.glb := rfl
@[simp] theorem Half.modTm_sd (h : Half) (f : Tm → Tm) : (h.modTm f).sd = h.sd := rfl
@[simp] theorem Half.modTm_hi (h : Half) (f : Tm → Tm) : (h.modTm f).hi = h.hi := rfl
@[simp] theorem Half.modTm_rings (h : Half) (f : Tm → Tm) : (h.modTm f).rings = h.rings := rfl
@[simp] theorem Half.modTm_svc (h : Half) (f : Tm → Tm) : (h.modTm f).svc = h.svc := rfl
@[simp] theorem Half.modTm_cells (h : Half) (f : Tm → Tm) : (h.modTm f).cells = h.cells := rfl
@[simp] theorem Half.modTm_an (h : Half) (f : Tm → Tm) : (h.modTm f).an = h.an := rfl
@[simp] theorem Half.modTm_ox (h : Half) (f : Tm → Tm) : (h.modTm f).ox = h.ox := rfl
@[simp] theorem Half.modTm_lt (h : Half) (f : Tm → Tm) : (h.modTm f).lt = h.lt := rfl
@[simp] theorem Half.modTm_lv (h : Half) (f : Tm → Tm) : (h.modTm f).lv = h.lv := rfl
@[simp] theorem Half.modTm_th (h : Half) (f : Tm → Tm) : (h.modTm f).th = h.th := rfl
@[simp] theorem Half.modTm_xf (h : Half) (f : Tm → Tm) : (h.modTm f).xf = h.xf := rfl
@[simp] theorem Half.modTm_acc (h : Half) (f : Tm → Tm) : (h.modTm f).acc = h.acc := rfl
@[simp] theorem Half.modTm_tb (h : Half) (f : Tm → Tm) : (h.modTm f).tb = h.tb := rfl
@[simp] theorem Half.modTm_ck (h : Half) (f : Tm → Tm) : (h.modTm f).ck = h.ck := rfl
@[simp] theorem Half.modTm_net (h : Half) (f : Tm → Tm) : (h.modTm f).net = h.net := rfl
@[simp] theorem Half.modTm_can (h : Half) (f : Tm → Tm) : (h.modTm f).can = h.can := rfl
@[simp] theorem Half.modTm_pw (h : Half) (f : Tm → Tm) : (h.modTm f).pw = h.pw := rfl
@[simp] theorem Half.modTm_me (h : Half) (f : Tm → Tm) : (h.modTm f).me = h.me := rfl
@[simp] theorem Half.modTm_tm (h : Half) (f : Tm → Tm) : (h.modTm f).tm = f h.tm := rfl
@[simp] theorem Half.modTm_pk (h : Half) (f : Tm → Tm) : (h.modTm f).pk = h.pk := rfl
@[simp] theorem Half.modTm_regs (h : Half) (f : Tm → Tm) : (h.modTm f).regs = h.regs := rfl
@[simp] theorem Half.modTm_out (h : Half) (f : Tm → Tm) : (h.modTm f).out = h.out := rfl

@[simp] theorem Half.modMe_id (h : Half) (f : Me → Me) : (h.modMe f).id = h.id := rfl
@[simp] theorem Half.modMe_glb (h : Half) (f : Me → Me) : (h.modMe f).glb = h.glb := rfl
@[simp] theorem Half.modMe_sd (h : Half) (f : Me → Me) : (h.modMe f).sd = h.sd := rfl
@[simp] theorem Half.modMe_hi (h : Half) (f : Me → Me) : (h.modMe f).hi = h.hi := rfl
@[simp] theorem Half.modMe_rings (h : Half) (f : Me → Me) : (h.modMe f).rings = h.rings := rfl
@[simp] theorem Half.modMe_svc (h : Half) (f : Me → Me) : (h.modMe f).svc = h.svc := rfl
@[simp] theorem Half.modMe_cells (h : Half) (f : Me → Me) : (h.modMe f).cells = h.cells := rfl
@[simp] theorem Half.modMe_an (h : Half) (f : Me → Me) : (h.modMe f).an = h.an := rfl
@[simp] theorem Half.modMe_ox (h : Half) (f : Me → Me) : (h.modMe f).ox = h.ox := rfl
@[simp] theorem Half.modMe_lt (h : Half) (f : Me → Me) : (h.modMe f).lt = h.lt := rfl
@[simp] theorem Half.modMe_lv (h : Half) (f : Me → Me) : (h.modMe f).lv = h.lv := rfl
@[simp] theorem Half.modMe_th (h : Half) (f : Me → Me) : (h.modMe f).th = h.th := rfl
@[simp] theorem Half.modMe_xf (h : Half) (f : Me → Me) : (h.modMe f).xf = h.xf := rfl
@[simp] theorem Half.modMe_acc (h : Half) (f : Me → Me) : (h.modMe f).acc = h.acc := rfl
@[simp] theorem Half.modMe_tb (h : Half) (f : Me → Me) : (h.modMe f).tb = h.tb := rfl
@[simp] theorem Half.modMe_ck (h : Half) (f : Me → Me) : (h.modMe f).ck = h.ck := rfl
@[simp] theorem Half.modMe_net (h : Half) (f : Me → Me) : (h.modMe f).net = h.net := rfl
@[simp] theorem Half.modMe_can (h : Half) (f : Me → Me) : (h.modMe f).can = h.can := rfl
@[simp] theorem Half.modMe_pw (h : Half) (f : Me → Me) : (h.modMe f).pw = h.pw := rfl
@[simp] theorem Half.modMe_me (h : Half) (f : Me → Me) : (h.modMe f).me = f h.me := rfl
@[simp] theorem Half.modMe_tm (h : Half) (f : Me → Me) : (h.modMe f).tm = h.tm := rfl
@[simp] theorem Half.modMe_pk (h : Half) (f : Me → Me) : (h.modMe f).pk = h.pk := rfl
@[simp] theorem Half.modMe_regs (h : Half) (f : Me → Me) : (h.modMe f).regs = h.regs := rfl
@[simp] theorem Half.modMe_out (h : Half) (f : Me → Me) : (h.modMe f).out = h.out := rfl

@[simp] theorem Half.modNet_id (h : Half) (f : Net → Net) : (h.modNet f).id = h.id := rfl
@[simp] theorem Half.modNet_glb (h : Half) (f : Net → Net) : (h.modNet f).glb = h.glb := rfl
@[simp] theorem Half.modNet_sd (h : Half) (f : Net → Net) : (h.modNet f).sd = h.sd := rfl
@[simp] theorem Half.modNet_hi (h : Half) (f : Net → Net) : (h.modNet f).hi = h.hi := rfl
@[simp] theorem Half.modNet_rings (h : Half) (f : Net → Net) : (h.modNet f).rings = h.rings := rfl
@[simp] theorem Half.modNet_svc (h : Half) (f : Net → Net) : (h.modNet f).svc = h.svc := rfl
@[simp] theorem Half.modNet_cells (h : Half) (f : Net → Net) : (h.modNet f).cells = h.cells := rfl
@[simp] theorem Half.modNet_an (h : Half) (f : Net → Net) : (h.modNet f).an = h.an := rfl
@[simp] theorem Half.modNet_ox (h : Half) (f : Net → Net) : (h.modNet f).ox = h.ox := rfl
@[simp] theorem Half.modNet_lt (h : Half) (f : Net → Net) : (h.modNet f).lt = h.lt := rfl
@[simp] theorem Half.modNet_lv (h : Half) (f : Net → Net) : (h.modNet f).lv = h.lv := rfl
@[simp] theorem Half.modNet_th (h : Half) (f : Net → Net) : (h.modNet f).th = h.th := rfl
@[simp] theorem Half.modNet_xf (h : Half) (f : Net → Net) : (h.modNet f).xf = h.xf := rfl
@[simp] theorem Half.modNet_acc (h : Half) (f : Net → Net) : (h.modNet f).acc = h.acc := rfl
@[simp] theorem Half.modNet_tb (h : Half) (f : Net → Net) : (h.modNet f).tb = h.tb := rfl
@[simp] theorem Half.modNet_ck (h : Half) (f : Net → Net) : (h.modNet f).ck = h.ck := rfl
@[simp] theorem Half.modNet_net (h : Half) (f : Net → Net) : (h.modNet f).net = f h.net := rfl
@[simp] theorem Half.modNet_can (h : Half) (f : Net → Net) : (h.modNet f).can = h.can := rfl
@[simp] theorem Half.modNet_pw (h : Half) (f : Net → Net) : (h.modNet f).pw = h.pw := rfl
@[simp] theorem Half.modNet_me (h : Half) (f : Net → Net) : (h.modNet f).me = h.me := rfl
@[simp] theorem Half.modNet_tm (h : Half) (f : Net → Net) : (h.modNet f).tm = h.tm := rfl
@[simp] theorem Half.modNet_pk (h : Half) (f : Net → Net) : (h.modNet f).pk = h.pk := rfl
@[simp] theorem Half.modNet_regs (h : Half) (f : Net → Net) : (h.modNet f).regs = h.regs := rfl
@[simp] theorem Half.modNet_out (h : Half) (f : Net → Net) : (h.modNet f).out = h.out := rfl

@[simp] theorem Half.modPk_id (h : Half) (f : Pk → Pk) : (h.modPk f).id = h.id := rfl
@[simp] theorem Half.modPk_glb (h : Half) (f : Pk → Pk) : (h.modPk f).glb = h.glb := rfl
@[simp] theorem Half.modPk_sd (h : Half) (f : Pk → Pk) : (h.modPk f).sd = h.sd := rfl
@[simp] theorem Half.modPk_hi (h : Half) (f : Pk → Pk) : (h.modPk f).hi = h.hi := rfl
@[simp] theorem Half.modPk_rings (h : Half) (f : Pk → Pk) : (h.modPk f).rings = h.rings := rfl
@[simp] theorem Half.modPk_svc (h : Half) (f : Pk → Pk) : (h.modPk f).svc = h.svc := rfl
@[simp] theorem Half.modPk_cells (h : Half) (f : Pk → Pk) : (h.modPk f).cells = h.cells := rfl
@[simp] theorem Half.modPk_an (h : Half) (f : Pk → Pk) : (h.modPk f).an = h.an := rfl
@[simp] theorem Half.modPk_ox (h : Half) (f : Pk → Pk) : (h.modPk f).ox = h.ox := rfl
@[simp] theorem Half.modPk_lt (h : Half) (f : Pk → Pk) : (h.modPk f).lt = h.lt := rfl
@[simp] theorem Half.modPk_lv (h : Half) (f : Pk → Pk) : (h.modPk f).lv = h.lv := rfl
@[simp] theorem Half.modPk_th (h : Half) (f : Pk → Pk) : (h.modPk f).th = h.th := rfl
@[simp] theorem Half.modPk_xf (h : Half) (f : Pk → Pk) : (h.modPk f).xf = h.xf := rfl
@[simp] theorem Half.modPk_acc (h : Half) (f : Pk → Pk) : (h.modPk f).acc = h.acc := rfl
@[simp] theorem Half.modPk_tb (h : Half) (f : Pk → Pk) : (h.modPk f).tb = h.tb := rfl
@[simp] theorem Half.modPk_ck (h : Half) (f : Pk → Pk) : (h.modPk f).ck = h.ck := rfl
@[simp] theorem Half.modPk_net (h : Half) (f : Pk → Pk) : (h.modPk f).net = h.net := rfl
@[simp] theorem Half.modPk_can (h : Half) (f : Pk → Pk) : (h.modPk f).can = h.can := rfl
@[simp] theorem Half.modPk_pw (h : Half) (f : Pk → Pk) : (h.modPk f).pw = h.pw := rfl
@[simp] theorem Half.modPk_me (h : Half) (f : Pk → Pk) : (h.modPk f).me = h.me := rfl
@[simp] theorem Half.modPk_tm (h : Half) (f : Pk → Pk) : (h.modPk f).tm = h.tm := rfl
@[simp] theorem Half.modPk_pk (h : Half) (f : Pk → Pk) : (h.modPk f).pk = f h.pk := rfl
@[simp] theorem Half.modPk_regs (h : Half) (f : Pk → Pk) : (h.modPk f).regs = h.regs := rfl
@[simp] theorem Half.modPk_out (h : Half) (f : Pk → Pk) : (h.modPk f).out = h.out := rfl

@[simp] theorem Half.modLt_id (h : Half) (f : Lt → Lt) : (h.modLt f).id = h.id := rfl
@[simp] theorem Half.modLt_glb (h : Half) (f : Lt → Lt) : (h.modLt f).glb = h.glb := rfl
@[simp] theorem Half.modLt_sd (h : Half) (f : Lt → Lt) : (h.modLt f).sd = h.sd := rfl
@[simp] theorem Half.modLt_hi (h : Half) (f : Lt → Lt) : (h.modLt f).hi = h.hi := rfl
@[simp] theorem Half.modLt_rings (h : Half) (f : Lt → Lt) : (h.modLt f).rings = h.rings := rfl
@[simp] theorem Half.modLt_svc (h : Half) (f : Lt → Lt) : (h.modLt f).svc = h.svc := rfl
@[simp] theorem Half.modLt_cells (h : Half) (f : Lt → Lt) : (h.modLt f).cells = h.cells := rfl
@[simp] theorem Half.modLt_an (h : Half) (f : Lt → Lt) : (h.modLt f).an = h.an := rfl
@[simp] theorem Half.modLt_ox (h : Half) (f : Lt → Lt) : (h.modLt f).ox = h.ox := rfl
@[simp] theorem Half.modLt_lt (h : Half) (f : Lt → Lt) : (h.modLt f).lt = f h.lt := rfl
@[simp] theorem Half.modLt_lv (h : Half) (f : Lt → Lt) : (h.modLt f).lv = h.lv := rfl
@[simp] theorem Half.modLt_th (h : Half) (f : Lt → Lt) : (h.modLt f).th = h.th := rfl
@[simp] theorem Half.modLt_xf (h : Half) (f : Lt → Lt) : (h.modLt f).xf = h.xf := rfl
@[simp] theorem Half.modLt_acc (h : Half) (f : Lt → Lt) : (h.modLt f).acc = h.acc := rfl
@[simp] theorem Half.modLt_tb (h : Half) (f : Lt → Lt) : (h.modLt f).tb = h.tb := rfl
@[simp] theorem Half.modLt_ck (h : Half) (f : Lt → Lt) : (h.modLt f).ck = h.ck := rfl
@[simp] theorem Half.modLt_net (h : Half) (f : Lt → Lt) : (h.modLt f).net = h.net := rfl
@[simp] theorem Half.modLt_can (h : Half) (f : Lt → Lt) : (h.modLt f).can = h.can := rfl
@[simp] theorem Half.modLt_pw (h : Half) (f : Lt → Lt) : (h.modLt f).pw = h.pw := rfl
@[simp] theorem Half.modLt_me (h : Half) (f : Lt → Lt) : (h.modLt f).me = h.me := rfl
@[simp] theorem Half.modLt_tm (h : Half) (f : Lt → Lt) : (h.modLt f).tm = h.tm := rfl
@[simp] theorem Half.modLt_pk (h : Half) (f : Lt → Lt) : (h.modLt f).pk = h.pk := rfl
@[simp] theorem Half.modLt_regs (h : Half) (f : Lt → Lt) : (h.modLt f).regs = h.regs := rfl
@[simp] theorem Half.modLt_out (h : Half) (f : Lt → Lt) : (h.modLt f).out = h.out := rfl

@[simp] theorem Half.modRing_id (h : Half) (k : Nat) (f : Ring → Ring) : (h.modRing k f).id = h.id := rfl
@[simp] theorem Half.modRing_glb (h : Half) (k : Nat) (f : Ring → Ring) : (h.modRing k f).glb = h.glb := rfl
@[simp] theorem Half.modRing_sd (h : Half) (k : Nat) (f : Ring → Ring) : (h.modRing k f).sd = h.sd := rfl
@[simp] theorem Half.modRing_hi (h : Half) (k : Nat) (f : Ring → Ring) : (h.modRing k f).hi = h.hi := rfl
@[simp] theorem Half.modRing_svc (h : Half) (k : Nat) (f : Ring → Ring) : (h.modRing k f).svc = h.svc := rfl
@[simp] theorem Half.modRing_cells (h : Half) (k : Nat) (f : Ring → Ring) : (h.modRing k f).cells = h.cells := rfl
@[simp] theorem Half.modRing_an (h : Half) (k : Nat) (f : Ring → Ring) : (h.modRing k f).an = h.an := rfl
@[simp] theorem Half.modRing_ox (h : Half) (k : Nat) (f : Ring → Ring) : (h.modRing k f).ox = h.ox := rfl
@[simp] theorem Half.modRing_lt (h : Half) (k : Nat) (f : Ring → Ring) : (h.modRing k f).lt = h.lt := rfl
@[simp] theorem Half.modRing_lv (h : Half) (k : Nat) (f : Ring → Ring) : (h.modRing k f).lv = h.lv := rfl
@[simp] theorem Half.modRing_th (h : Half) (k : Nat) (f : Ring → Ring) : (h.modRing k f).th = h.th := rfl
@[simp] theorem Half.modRing_xf (h : Half) (k : Nat) (f : Ring → Ring) : (h.modRing k f).xf = h.xf := rfl
@[simp] theorem Half.modRing_acc (h : Half) (k : Nat) (f : Ring → Ring) : (h.modRing k f).acc = h.acc := rfl
@[simp] theorem Half.modRing_tb (h : Half) (k : Nat) (f : Ring → Ring) : (h.modRing k f).tb = h.tb := rfl
@[simp] theorem Half.modRing_ck (h : Half) (k : Nat) (f : Ring → Ring) : (h.modRing k f).ck = h.ck := rfl
@[simp] theorem Half.modRing_net (h : Half) (k : Nat) (f : Ring → Ring) : (h.modRing k f).net = h.net := rfl
@[simp] theorem Half.modRing_can (h : Half) (k : Nat) (f : Ring → Ring) : (h.modRing k f).can = h.can := rfl
@[simp] theorem Half.modRing_pw (h : Half) (k : Nat) (f : Ring → Ring) : (h.modRing k f).pw = h.pw := rfl
@[simp] theorem Half.modRing_me (h : Half) (k : Nat) (f : Ring → Ring) : (h.modRing k f).me = h.me := rfl
@[simp] theorem Half.modRing_tm (h : Half) (k : Nat) (f : Ring → Ring) : (h.modRing k f).tm = h.tm := rfl
@[simp] theorem Half.modRing_pk (h : Half) (k : Nat) (f : Ring → Ring) : (h.modRing k f).pk = h.pk := rfl
@[simp] theorem Half.modRing_regs (h : Half) (k : Nat) (f : Ring → Ring) : (h.modRing k f).regs = h.regs := rfl
@[simp] theorem Half.modRing_out (h : Half) (k : Nat) (f : Ring → Ring) : (h.modRing k f).out = h.out := rfl

@[simp] theorem Half.modSvc_id (h : Half) (k : Nat) (f : RingSvc → RingSvc) : (h.modSvc k f).id = h.id := rfl
@[simp] theorem Half.modSvc_glb (h : Half) (k : Nat) (f : RingSvc → RingSvc) : (h.modSvc k f).glb = h.glb := rfl
@[simp] theorem Half.modSvc_sd (h : Half) (k : Nat) (f : RingSvc → RingSvc) : (h.modSvc k f).sd = h.sd := rfl
@[simp] theorem Half.modSvc_hi (h : Half) (k : Nat) (f : RingSvc → RingSvc) : (h.modSvc k f).hi = h.hi := rfl
@[simp] theorem Half.modSvc_rings (h : Half) (k : Nat) (f : RingSvc → RingSvc) : (h.modSvc k f).rings = h.rings := rfl
@[simp] theorem Half.modSvc_cells (h : Half) (k : Nat) (f : RingSvc → RingSvc) : (h.modSvc k f).cells = h.cells := rfl
@[simp] theorem Half.modSvc_an (h : Half) (k : Nat) (f : RingSvc → RingSvc) : (h.modSvc k f).an = h.an := rfl
@[simp] theorem Half.modSvc_ox (h : Half) (k : Nat) (f : RingSvc → RingSvc) : (h.modSvc k f).ox = h.ox := rfl
@[simp] theorem Half.modSvc_lt (h : Half) (k : Nat) (f : RingSvc → RingSvc) : (h.modSvc k f).lt = h.lt := rfl
@[simp] theorem Half.modSvc_lv (h : Half) (k : Nat) (f : RingSvc → RingSvc) : (h.modSvc k f).lv = h.lv := rfl
@[simp] theorem Half.modSvc_th (h : Half) (k : Nat) (f : RingSvc → RingSvc) : (h.modSvc k f).th = h.th := rfl
@[simp] theorem Half.modSvc_xf (h : Half) (k : Nat) (f : RingSvc → RingSvc) : (h.modSvc k f).xf = h.xf := rfl
@[simp] theorem Half.modSvc_acc (h : Half) (k : Nat) (f : RingSvc → RingSvc) : (h.modSvc k f).acc = h.acc := rfl
@[simp] theorem Half.modSvc_tb (h : Half) (k : Nat) (f : RingSvc → RingSvc) : (h.modSvc k f).tb = h.tb := rfl
@[simp] theorem Half.modSvc_ck (h : Half) (k : Nat) (f : RingSvc → RingSvc) : (h.modSvc k f).ck = h.ck := rfl
@[simp] theorem Half.modSvc_net (h : Half) (k : Nat) (f : RingSvc → RingSvc) : (h.modSvc k f).net = h.net := rfl
@[simp] theorem Half.modSvc_can (h : Half) (k : Nat) (f : RingSvc → RingSvc) : (h.modSvc k f).can = h.can := rfl
@[simp] theorem Half.modSvc_pw (h : Half) (k : Nat) (f : RingSvc → RingSvc) : (h.modSvc k f).pw = h.pw := rfl
@[simp] theorem Half.modSvc_me (h : Half) (k : Nat) (f : RingSvc → RingSvc) : (h.modSvc k f).me = h.me := rfl
@[simp] theorem Half.modSvc_tm (h : Half) (k : Nat) (f : RingSvc → RingSvc) : (h.modSvc k f).tm = h.tm := rfl
@[simp] theorem Half.modSvc_pk (h : Half) (k : Nat) (f : RingSvc → RingSvc) : (h.modSvc k f).pk = h.pk := rfl
@[simp] theorem Half.modSvc_regs (h : Half) (k : Nat) (f : RingSvc → RingSvc) : (h.modSvc k f).regs = h.regs := rfl
@[simp] theorem Half.modSvc_out (h : Half) (k : Nat) (f : RingSvc → RingSvc) : (h.modSvc k f).out = h.out := rfl

@[simp] theorem Half.modCell_id (h : Half) (c : Nat) (f : Cell → Cell) : (h.modCell c f).id = h.id := rfl
@[simp] theorem Half.modCell_glb (h : Half) (c : Nat) (f : Cell → Cell) : (h.modCell c f).glb = h.glb := rfl
@[simp] theorem Half.modCell_sd (h : Half) (c : Nat) (f : Cell → Cell) : (h.modCell c f).sd = h.sd := rfl
@[simp] theorem Half.modCell_hi (h : Half) (c : Nat) (f : Cell → Cell) : (h.modCell c f).hi = h.hi := rfl
@[simp] theorem Half.modCell_rings (h : Half) (c : Nat) (f : Cell → Cell) : (h.modCell c f).rings = h.rings := rfl
@[simp] theorem Half.modCell_svc (h : Half) (c : Nat) (f : Cell → Cell) : (h.modCell c f).svc = h.svc := rfl
@[simp] theorem Half.modCell_an (h : Half) (c : Nat) (f : Cell → Cell) : (h.modCell c f).an = h.an := rfl
@[simp] theorem Half.modCell_ox (h : Half) (c : Nat) (f : Cell → Cell) : (h.modCell c f).ox = h.ox := rfl
@[simp] theorem Half.modCell_lt (h : Half) (c : Nat) (f : Cell → Cell) : (h.modCell c f).lt = h.lt := rfl
@[simp] theorem Half.modCell_lv (h : Half) (c : Nat) (f : Cell → Cell) : (h.modCell c f).lv = h.lv := rfl
@[simp] theorem Half.modCell_th (h : Half) (c : Nat) (f : Cell → Cell) : (h.modCell c f).th = h.th := rfl
@[simp] theorem Half.modCell_xf (h : Half) (c : Nat) (f : Cell → Cell) : (h.modCell c f).xf = h.xf := rfl
@[simp] theorem Half.modCell_acc (h : Half) (c : Nat) (f : Cell → Cell) : (h.modCell c f).acc = h.acc := rfl
@[simp] theorem Half.modCell_tb (h : Half) (c : Nat) (f : Cell → Cell) : (h.modCell c f).tb = h.tb := rfl
@[simp] theorem Half.modCell_ck (h : Half) (c : Nat) (f : Cell → Cell) : (h.modCell c f).ck = h.ck := rfl
@[simp] theorem Half.modCell_net (h : Half) (c : Nat) (f : Cell → Cell) : (h.modCell c f).net = h.net := rfl
@[simp] theorem Half.modCell_can (h : Half) (c : Nat) (f : Cell → Cell) : (h.modCell c f).can = h.can := rfl
@[simp] theorem Half.modCell_pw (h : Half) (c : Nat) (f : Cell → Cell) : (h.modCell c f).pw = h.pw := rfl
@[simp] theorem Half.modCell_me (h : Half) (c : Nat) (f : Cell → Cell) : (h.modCell c f).me = h.me := rfl
@[simp] theorem Half.modCell_tm (h : Half) (c : Nat) (f : Cell → Cell) : (h.modCell c f).tm = h.tm := rfl
@[simp] theorem Half.modCell_pk (h : Half) (c : Nat) (f : Cell → Cell) : (h.modCell c f).pk = h.pk := rfl
@[simp] theorem Half.modCell_regs (h : Half) (c : Nat) (f : Cell → Cell) : (h.modCell c f).regs = h.regs := rfl
@[simp] theorem Half.modCell_out (h : Half) (c : Nat) (f : Cell → Cell) : (h.modCell c f).out = h.out := rfl

@[simp] theorem Half.modCan_id (h : Half) (i : Nat) (f : Can → Can) : (h.modCan i f).id = h.id := rfl
@[simp] theorem Half.modCan_glb (h : Half) (i : Nat) (f : Can → Can) : (h.modCan i f).glb = h.glb := rfl
@[simp] theorem Half.modCan_sd (h : Half) (i : Nat) (f : Can → Can) : (h.modCan i f).sd = h.sd := rfl
@[simp] theorem Half.modCan_hi (h : Half) (i : Nat) (f : Can → Can) : (h.modCan i f).hi = h.hi := rfl
@[simp] theorem Half.modCan_rings (h : Half) (i : Nat) (f : Can → Can) : (h.modCan i f).rings = h.rings := rfl
@[simp] theorem Half.modCan_svc (h : Half) (i : Nat) (f : Can → Can) : (h.modCan i f).svc = h.svc := rfl
@[simp] theorem Half.modCan_cells (h : Half) (i : Nat) (f : Can → Can) : (h.modCan i f).cells = h.cells := rfl
@[simp] theorem Half.modCan_an (h : Half) (i : Nat) (f : Can → Can) : (h.modCan i f).an = h.an := rfl
@[simp] theorem Half.modCan_ox (h : Half) (i : Nat) (f : Can → Can) : (h.modCan i f).ox = h.ox := rfl
@[simp] theorem Half.modCan_lt (h : Half) (i : Nat) (f : Can → Can) : (h.modCan i f).lt = h.lt := rfl
@[simp] theorem Half.modCan_lv (h : Half) (i : Nat) (f : Can → Can) : (h.modCan i f).lv = h.lv := rfl
@[simp] theorem Half.modCan_th (h : Half) (i : Nat) (f : Can → Can) : (h.modCan i f).th = h.th := rfl
@[simp] theorem Half.modCan_xf (h : Half) (i : Nat) (f : Can → Can) : (h.modCan i f).xf = h.xf := rfl
@[simp] theorem Half.modCan_acc (h : Half) (i : Nat) (f : Can → Can) : (h.modCan i f).acc = h.acc := rfl
@[simp] theorem Half.modCan_tb (h : Half) (i : Nat) (f : Can → Can) : (h.modCan i f).tb = h.tb := rfl
@[simp] theorem Half.modCan_ck (h : Half) (i : Nat) (f : Can → Can) : (h.modCan i f).ck = h.ck := rfl
@[simp] theorem Half.modCan_net (h : Half) (i : Nat) (f : Can → Can) : (h.modCan i f).net = h.net := rfl
@[simp] theorem Half.modCan_pw (h : Half) (i : Nat) (f : Can → Can) : (h.modCan i f).pw = h.pw := rfl
@[simp] theorem Half.modCan_me (h : Half) (i : Nat) (f : Can → Can) : (h.modCan i f).me = h.me := rfl
@[simp] theorem Half.modCan_tm (h : Half) (i : Nat) (f : Can → Can) : (h.modCan i f).tm = h.tm := rfl
@[simp] theorem Half.modCan_pk (h : Half) (i : Nat) (f : Can → Can) : (h.modCan i f).pk = h.pk := rfl
@[simp] theorem Half.modCan_regs (h : Half) (i : Nat) (f : Can → Can) : (h.modCan i f).regs = h.regs := rfl
@[simp] theorem Half.modCan_out (h : Half) (i : Nat) (f : Can → Can) : (h.modCan i f).out = h.out := rfl

@[simp] theorem Half.put_id (h : Half) (o : Nat) (v : Word) : (h.put o v).id = h.id := rfl
@[simp] theorem Half.put_glb (h : Half) (o : Nat) (v : Word) : (h.put o v).glb = h.glb := rfl
@[simp] theorem Half.put_sd (h : Half) (o : Nat) (v : Word) : (h.put o v).sd = h.sd := rfl
@[simp] theorem Half.put_hi (h : Half) (o : Nat) (v : Word) : (h.put o v).hi = h.hi := rfl
@[simp] theorem Half.put_rings (h : Half) (o : Nat) (v : Word) : (h.put o v).rings = h.rings := rfl
@[simp] theorem Half.put_svc (h : Half) (o : Nat) (v : Word) : (h.put o v).svc = h.svc := rfl
@[simp] theorem Half.put_cells (h : Half) (o : Nat) (v : Word) : (h.put o v).cells = h.cells := rfl
@[simp] theorem Half.put_an (h : Half) (o : Nat) (v : Word) : (h.put o v).an = h.an := rfl
@[simp] theorem Half.put_ox (h : Half) (o : Nat) (v : Word) : (h.put o v).ox = h.ox := rfl
@[simp] theorem Half.put_lt (h : Half) (o : Nat) (v : Word) : (h.put o v).lt = h.lt := rfl
@[simp] theorem Half.put_lv (h : Half) (o : Nat) (v : Word) : (h.put o v).lv = h.lv := rfl
@[simp] theorem Half.put_th (h : Half) (o : Nat) (v : Word) : (h.put o v).th = h.th := rfl
@[simp] theorem Half.put_xf (h : Half) (o : Nat) (v : Word) : (h.put o v).xf = h.xf := rfl
@[simp] theorem Half.put_acc (h : Half) (o : Nat) (v : Word) : (h.put o v).acc = h.acc := rfl
@[simp] theorem Half.put_tb (h : Half) (o : Nat) (v : Word) : (h.put o v).tb = h.tb := rfl
@[simp] theorem Half.put_ck (h : Half) (o : Nat) (v : Word) : (h.put o v).ck = h.ck := rfl
@[simp] theorem Half.put_net (h : Half) (o : Nat) (v : Word) : (h.put o v).net = h.net := rfl
@[simp] theorem Half.put_can (h : Half) (o : Nat) (v : Word) : (h.put o v).can = h.can := rfl
@[simp] theorem Half.put_pw (h : Half) (o : Nat) (v : Word) : (h.put o v).pw = h.pw := rfl
@[simp] theorem Half.put_me (h : Half) (o : Nat) (v : Word) : (h.put o v).me = h.me := rfl
@[simp] theorem Half.put_tm (h : Half) (o : Nat) (v : Word) : (h.put o v).tm = h.tm := rfl
@[simp] theorem Half.put_pk (h : Half) (o : Nat) (v : Word) : (h.put o v).pk = h.pk := rfl
@[simp] theorem Half.put_out (h : Half) (o : Nat) (v : Word) : (h.put o v).out = h.out := rfl

@[simp] theorem Half.putF_id (h : Half) (o a b v : Nat) : (h.putF o a b v).id = h.id := rfl
@[simp] theorem Half.putF_glb (h : Half) (o a b v : Nat) : (h.putF o a b v).glb = h.glb := rfl
@[simp] theorem Half.putF_sd (h : Half) (o a b v : Nat) : (h.putF o a b v).sd = h.sd := rfl
@[simp] theorem Half.putF_hi (h : Half) (o a b v : Nat) : (h.putF o a b v).hi = h.hi := rfl
@[simp] theorem Half.putF_rings (h : Half) (o a b v : Nat) : (h.putF o a b v).rings = h.rings := rfl
@[simp] theorem Half.putF_svc (h : Half) (o a b v : Nat) : (h.putF o a b v).svc = h.svc := rfl
@[simp] theorem Half.putF_cells (h : Half) (o a b v : Nat) : (h.putF o a b v).cells = h.cells := rfl
@[simp] theorem Half.putF_an (h : Half) (o a b v : Nat) : (h.putF o a b v).an = h.an := rfl
@[simp] theorem Half.putF_ox (h : Half) (o a b v : Nat) : (h.putF o a b v).ox = h.ox := rfl
@[simp] theorem Half.putF_lt (h : Half) (o a b v : Nat) : (h.putF o a b v).lt = h.lt := rfl
@[simp] theorem Half.putF_lv (h : Half) (o a b v : Nat) : (h.putF o a b v).lv = h.lv := rfl
@[simp] theorem Half.putF_th (h : Half) (o a b v : Nat) : (h.putF o a b v).th = h.th := rfl
@[simp] theorem Half.putF_xf (h : Half) (o a b v : Nat) : (h.putF o a b v).xf = h.xf := rfl
@[simp] theorem Half.putF_acc (h : Half) (o a b v : Nat) : (h.putF o a b v).acc = h.acc := rfl
@[simp] theorem Half.putF_tb (h : Half) (o a b v : Nat) : (h.putF o a b v).tb = h.tb := rfl
@[simp] theorem Half.putF_ck (h : Half) (o a b v : Nat) : (h.putF o a b v).ck = h.ck := rfl
@[simp] theorem Half.putF_net (h : Half) (o a b v : Nat) : (h.putF o a b v).net = h.net := rfl
@[simp] theorem Half.putF_can (h : Half) (o a b v : Nat) : (h.putF o a b v).can = h.can := rfl
@[simp] theorem Half.putF_pw (h : Half) (o a b v : Nat) : (h.putF o a b v).pw = h.pw := rfl
@[simp] theorem Half.putF_me (h : Half) (o a b v : Nat) : (h.putF o a b v).me = h.me := rfl
@[simp] theorem Half.putF_tm (h : Half) (o a b v : Nat) : (h.putF o a b v).tm = h.tm := rfl
@[simp] theorem Half.putF_pk (h : Half) (o a b v : Nat) : (h.putF o a b v).pk = h.pk := rfl
@[simp] theorem Half.putF_out (h : Half) (o a b v : Nat) : (h.putF o a b v).out = h.out := rfl

@[simp] theorem Half.count_id (h : Half) (o : Nat) : (h.count o).id = h.id := rfl
@[simp] theorem Half.count_glb (h : Half) (o : Nat) : (h.count o).glb = h.glb := rfl
@[simp] theorem Half.count_sd (h : Half) (o : Nat) : (h.count o).sd = h.sd := rfl
@[simp] theorem Half.count_hi (h : Half) (o : Nat) : (h.count o).hi = h.hi := rfl
@[simp] theorem Half.count_rings (h : Half) (o : Nat) : (h.count o).rings = h.rings := rfl
@[simp] theorem Half.count_svc (h : Half) (o : Nat) : (h.count o).svc = h.svc := rfl
@[simp] theorem Half.count_cells (h : Half) (o : Nat) : (h.count o).cells = h.cells := rfl
@[simp] theorem Half.count_an (h : Half) (o : Nat) : (h.count o).an = h.an := rfl
@[simp] theorem Half.count_ox (h : Half) (o : Nat) : (h.count o).ox = h.ox := rfl
@[simp] theorem Half.count_lt (h : Half) (o : Nat) : (h.count o).lt = h.lt := rfl
@[simp] theorem Half.count_lv (h : Half) (o : Nat) : (h.count o).lv = h.lv := rfl
@[simp] theorem Half.count_th (h : Half) (o : Nat) : (h.count o).th = h.th := rfl
@[simp] theorem Half.count_xf (h : Half) (o : Nat) : (h.count o).xf = h.xf := rfl
@[simp] theorem Half.count_acc (h : Half) (o : Nat) : (h.count o).acc = h.acc := rfl
@[simp] theorem Half.count_tb (h : Half) (o : Nat) : (h.count o).tb = h.tb := rfl
@[simp] theorem Half.count_ck (h : Half) (o : Nat) : (h.count o).ck = h.ck := rfl
@[simp] theorem Half.count_net (h : Half) (o : Nat) : (h.count o).net = h.net := rfl
@[simp] theorem Half.count_can (h : Half) (o : Nat) : (h.count o).can = h.can := rfl
@[simp] theorem Half.count_pw (h : Half) (o : Nat) : (h.count o).pw = h.pw := rfl
@[simp] theorem Half.count_me (h : Half) (o : Nat) : (h.count o).me = h.me := rfl
@[simp] theorem Half.count_tm (h : Half) (o : Nat) : (h.count o).tm = h.tm := rfl
@[simp] theorem Half.count_pk (h : Half) (o : Nat) : (h.count o).pk = h.pk := rfl
@[simp] theorem Half.count_out (h : Half) (o : Nat) : (h.count o).out = h.out := rfl

@[simp] theorem Half.send_id (h : Half) (o : Out) : (h.send o).id = h.id := rfl
@[simp] theorem Half.send_glb (h : Half) (o : Out) : (h.send o).glb = h.glb := rfl
@[simp] theorem Half.send_sd (h : Half) (o : Out) : (h.send o).sd = h.sd := rfl
@[simp] theorem Half.send_hi (h : Half) (o : Out) : (h.send o).hi = h.hi := rfl
@[simp] theorem Half.send_rings (h : Half) (o : Out) : (h.send o).rings = h.rings := rfl
@[simp] theorem Half.send_svc (h : Half) (o : Out) : (h.send o).svc = h.svc := rfl
@[simp] theorem Half.send_cells (h : Half) (o : Out) : (h.send o).cells = h.cells := rfl
@[simp] theorem Half.send_an (h : Half) (o : Out) : (h.send o).an = h.an := rfl
@[simp] theorem Half.send_ox (h : Half) (o : Out) : (h.send o).ox = h.ox := rfl
@[simp] theorem Half.send_lt (h : Half) (o : Out) : (h.send o).lt = h.lt := rfl
@[simp] theorem Half.send_lv (h : Half) (o : Out) : (h.send o).lv = h.lv := rfl
@[simp] theorem Half.send_th (h : Half) (o : Out) : (h.send o).th = h.th := rfl
@[simp] theorem Half.send_xf (h : Half) (o : Out) : (h.send o).xf = h.xf := rfl
@[simp] theorem Half.send_acc (h : Half) (o : Out) : (h.send o).acc = h.acc := rfl
@[simp] theorem Half.send_tb (h : Half) (o : Out) : (h.send o).tb = h.tb := rfl
@[simp] theorem Half.send_ck (h : Half) (o : Out) : (h.send o).ck = h.ck := rfl
@[simp] theorem Half.send_net (h : Half) (o : Out) : (h.send o).net = h.net := rfl
@[simp] theorem Half.send_can (h : Half) (o : Out) : (h.send o).can = h.can := rfl
@[simp] theorem Half.send_pw (h : Half) (o : Out) : (h.send o).pw = h.pw := rfl
@[simp] theorem Half.send_me (h : Half) (o : Out) : (h.send o).me = h.me := rfl
@[simp] theorem Half.send_tm (h : Half) (o : Out) : (h.send o).tm = h.tm := rfl
@[simp] theorem Half.send_pk (h : Half) (o : Out) : (h.send o).pk = h.pk := rfl
@[simp] theorem Half.send_regs (h : Half) (o : Out) : (h.send o).regs = h.regs := rfl

@[simp] theorem Half.tether_id (h : Half) (t : Nat) (m : TMsg) : (h.tether t m).id = h.id := by
  unfold Half.tether; split <;> rfl
@[simp] theorem Half.tether_glb (h : Half) (t : Nat) (m : TMsg) : (h.tether t m).glb = h.glb := by
  unfold Half.tether; split <;> rfl
@[simp] theorem Half.tether_sd (h : Half) (t : Nat) (m : TMsg) : (h.tether t m).sd = h.sd := by
  unfold Half.tether; split <;> rfl
@[simp] theorem Half.tether_hi (h : Half) (t : Nat) (m : TMsg) : (h.tether t m).hi = h.hi := by
  unfold Half.tether; split <;> rfl
@[simp] theorem Half.tether_rings (h : Half) (t : Nat) (m : TMsg) : (h.tether t m).rings = h.rings := by
  unfold Half.tether; split <;> rfl
@[simp] theorem Half.tether_svc (h : Half) (t : Nat) (m : TMsg) : (h.tether t m).svc = h.svc := by
  unfold Half.tether; split <;> rfl
@[simp] theorem Half.tether_cells (h : Half) (t : Nat) (m : TMsg) : (h.tether t m).cells = h.cells := by
  unfold Half.tether; split <;> rfl
@[simp] theorem Half.tether_an (h : Half) (t : Nat) (m : TMsg) : (h.tether t m).an = h.an := by
  unfold Half.tether; split <;> rfl
@[simp] theorem Half.tether_ox (h : Half) (t : Nat) (m : TMsg) : (h.tether t m).ox = h.ox := by
  unfold Half.tether; split <;> rfl
@[simp] theorem Half.tether_lt (h : Half) (t : Nat) (m : TMsg) : (h.tether t m).lt = h.lt := by
  unfold Half.tether; split <;> rfl
@[simp] theorem Half.tether_lv (h : Half) (t : Nat) (m : TMsg) : (h.tether t m).lv = h.lv := by
  unfold Half.tether; split <;> rfl
@[simp] theorem Half.tether_th (h : Half) (t : Nat) (m : TMsg) : (h.tether t m).th = h.th := by
  unfold Half.tether; split <;> rfl
@[simp] theorem Half.tether_xf (h : Half) (t : Nat) (m : TMsg) : (h.tether t m).xf = h.xf := by
  unfold Half.tether; split <;> rfl
@[simp] theorem Half.tether_acc (h : Half) (t : Nat) (m : TMsg) : (h.tether t m).acc = h.acc := by
  unfold Half.tether; split <;> rfl
@[simp] theorem Half.tether_tb (h : Half) (t : Nat) (m : TMsg) : (h.tether t m).tb = h.tb := by
  unfold Half.tether; split <;> rfl
@[simp] theorem Half.tether_ck (h : Half) (t : Nat) (m : TMsg) : (h.tether t m).ck = h.ck := by
  unfold Half.tether; split <;> rfl
@[simp] theorem Half.tether_net (h : Half) (t : Nat) (m : TMsg) : (h.tether t m).net = h.net := by
  unfold Half.tether; split <;> rfl
@[simp] theorem Half.tether_can (h : Half) (t : Nat) (m : TMsg) : (h.tether t m).can = h.can := by
  unfold Half.tether; split <;> rfl
@[simp] theorem Half.tether_pw (h : Half) (t : Nat) (m : TMsg) : (h.tether t m).pw = h.pw := by
  unfold Half.tether; split <;> rfl
@[simp] theorem Half.tether_me (h : Half) (t : Nat) (m : TMsg) : (h.tether t m).me = h.me := by
  unfold Half.tether; split <;> rfl
@[simp] theorem Half.tether_tm (h : Half) (t : Nat) (m : TMsg) : (h.tether t m).tm = h.tm := by
  unfold Half.tether; split <;> rfl
@[simp] theorem Half.tether_pk (h : Half) (t : Nat) (m : TMsg) : (h.tether t m).pk = h.pk := by
  unfold Half.tether; split <;> rfl
@[simp] theorem Half.tether_regs (h : Half) (t : Nat) (m : TMsg) : (h.tether t m).regs = h.regs := by
  unfold Half.tether; split <;> rfl

/-- Time passing acts on the timebase alone. -/
theorem Half.tick_eq (h : Half) (t u : Nat) : h.tick t u = h ∨ ∃ f, h.tick t u = h.modTb f := by
  unfold Half.tick
  by_cases h1 : h.glb.dev = .lullOnly
  · exact .inl (if_pos h1)
  · rw [if_neg h1]
    by_cases h2 : h.pk.low
    · rw [if_pos h2]; exact .inr ⟨_, rfl⟩
    · rw [if_neg h2]
      by_cases h3 : h.tb.fallback
      · rw [if_pos h3]; exact .inr ⟨_, rfl⟩
      · rw [if_neg h3]; exact .inr ⟨_, rfl⟩

@[simp] theorem Half.tick_id (h : Half) (t u : Nat) : (h.tick t u).id = h.id := by
  obtain e | ⟨f, e⟩ := h.tick_eq t u <;> rw [e]; rfl
@[simp] theorem Half.tick_glb (h : Half) (t u : Nat) : (h.tick t u).glb = h.glb := by
  obtain e | ⟨f, e⟩ := h.tick_eq t u <;> rw [e]; rfl
@[simp] theorem Half.tick_sd (h : Half) (t u : Nat) : (h.tick t u).sd = h.sd := by
  obtain e | ⟨f, e⟩ := h.tick_eq t u <;> rw [e]; rfl
@[simp] theorem Half.tick_hi (h : Half) (t u : Nat) : (h.tick t u).hi = h.hi := by
  obtain e | ⟨f, e⟩ := h.tick_eq t u <;> rw [e]; rfl
@[simp] theorem Half.tick_rings (h : Half) (t u : Nat) : (h.tick t u).rings = h.rings := by
  obtain e | ⟨f, e⟩ := h.tick_eq t u <;> rw [e]; rfl
@[simp] theorem Half.tick_svc (h : Half) (t u : Nat) : (h.tick t u).svc = h.svc := by
  obtain e | ⟨f, e⟩ := h.tick_eq t u <;> rw [e]; rfl
@[simp] theorem Half.tick_cells (h : Half) (t u : Nat) : (h.tick t u).cells = h.cells := by
  obtain e | ⟨f, e⟩ := h.tick_eq t u <;> rw [e]; rfl
@[simp] theorem Half.tick_an (h : Half) (t u : Nat) : (h.tick t u).an = h.an := by
  obtain e | ⟨f, e⟩ := h.tick_eq t u <;> rw [e]; rfl
@[simp] theorem Half.tick_ox (h : Half) (t u : Nat) : (h.tick t u).ox = h.ox := by
  obtain e | ⟨f, e⟩ := h.tick_eq t u <;> rw [e]; rfl
@[simp] theorem Half.tick_lt (h : Half) (t u : Nat) : (h.tick t u).lt = h.lt := by
  obtain e | ⟨f, e⟩ := h.tick_eq t u <;> rw [e]; rfl
@[simp] theorem Half.tick_lv (h : Half) (t u : Nat) : (h.tick t u).lv = h.lv := by
  obtain e | ⟨f, e⟩ := h.tick_eq t u <;> rw [e]; rfl
@[simp] theorem Half.tick_th (h : Half) (t u : Nat) : (h.tick t u).th = h.th := by
  obtain e | ⟨f, e⟩ := h.tick_eq t u <;> rw [e]; rfl
@[simp] theorem Half.tick_xf (h : Half) (t u : Nat) : (h.tick t u).xf = h.xf := by
  obtain e | ⟨f, e⟩ := h.tick_eq t u <;> rw [e]; rfl
@[simp] theorem Half.tick_acc (h : Half) (t u : Nat) : (h.tick t u).acc = h.acc := by
  obtain e | ⟨f, e⟩ := h.tick_eq t u <;> rw [e]; rfl
@[simp] theorem Half.tick_ck (h : Half) (t u : Nat) : (h.tick t u).ck = h.ck := by
  obtain e | ⟨f, e⟩ := h.tick_eq t u <;> rw [e]; rfl
@[simp] theorem Half.tick_net (h : Half) (t u : Nat) : (h.tick t u).net = h.net := by
  obtain e | ⟨f, e⟩ := h.tick_eq t u <;> rw [e]; rfl
@[simp] theorem Half.tick_can (h : Half) (t u : Nat) : (h.tick t u).can = h.can := by
  obtain e | ⟨f, e⟩ := h.tick_eq t u <;> rw [e]; rfl
@[simp] theorem Half.tick_pw (h : Half) (t u : Nat) : (h.tick t u).pw = h.pw := by
  obtain e | ⟨f, e⟩ := h.tick_eq t u <;> rw [e]; rfl
@[simp] theorem Half.tick_me (h : Half) (t u : Nat) : (h.tick t u).me = h.me := by
  obtain e | ⟨f, e⟩ := h.tick_eq t u <;> rw [e]; rfl
@[simp] theorem Half.tick_tm (h : Half) (t u : Nat) : (h.tick t u).tm = h.tm := by
  obtain e | ⟨f, e⟩ := h.tick_eq t u <;> rw [e]; rfl
@[simp] theorem Half.tick_pk (h : Half) (t u : Nat) : (h.tick t u).pk = h.pk := by
  obtain e | ⟨f, e⟩ := h.tick_eq t u <;> rw [e]; rfl
@[simp] theorem Half.tick_regs (h : Half) (t u : Nat) : (h.tick t u).regs = h.regs := by
  obtain e | ⟨f, e⟩ := h.tick_eq t u <;> rw [e]; rfl
@[simp] theorem Half.tick_out (h : Half) (t u : Nat) : (h.tick t u).out = h.out := by
  obtain e | ⟨f, e⟩ := h.tick_eq t u <;> rw [e]; rfl

end Sys2Proof.Machine
end

