-- ==== Sys2Proof/Laws/Raise.lean ====
section
/-! SUPPORT. What raising an event source can do, said once: it acts on Sheepdog, the recorder's triggers, the role, the
pads, redundancy, the fence marks of the contexts, what is sent, and its own counters, and on nothing else. -/
namespace Sys2Proof.Machine

/-- Nothing but what a reaction may touch has changed, and of the registers none but those named. -/
def Reacts (os : List Nat) (h h' : Half) : Prop :=
  (∃ sd th me cells out regs dev role own, h' = { h with
    sd := sd, th := th, me := me, cells := cells, out := out, regs := regs
    glb := { h.glb with dev := dev, role := role, own := own } }) ∧ OnlyRegs os h h'

theorem OnlyRegs.refl (os : List Nat) (h : Half) : OnlyRegs os h h := fun _ _ => rfl

theorem OnlyRegs.trans {os : List Nat} {a b c : Half} (h1 : OnlyRegs os a b) (h2 : OnlyRegs os b c) : OnlyRegs os a c :=
  fun o ho => (h2 o ho).trans (h1 o ho)

theorem OnlyRegs.of_regs {os : List Nat} {a b : Half} (e : b.regs = a.regs) : OnlyRegs os a b :=
  fun o _ => by simp [Half.reg, e]

theorem OnlyRegs.put {os : List Nat} {o : Nat} (h : Half) (v : Word) (ho : o ∈ os) : OnlyRegs os h (h.put o v) :=
  fun p hp => Half.reg_put_other h o p v (fun e => hp (e ▸ ho))

theorem OnlyRegs.mono {os ps : List Nat} {a b : Half} (h : OnlyRegs os a b) (hs : ∀ o ∈ os, o ∈ ps) : OnlyRegs ps a b :=
  fun o ho => h o (fun hm => ho (hs o hm))

theorem Reacts.refl (os : List Nat) (h : Half) : Reacts os h h := ⟨⟨_, _, _, _, _, _, _, _, _, rfl⟩, OnlyRegs.refl os h⟩

theorem Reacts.trans {os : List Nat} {a b c : Half} (h1 : Reacts os a b) (h2 : Reacts os b c) : Reacts os a c := by
  obtain ⟨⟨_, _, _, _, _, _, _, _, _, rfl⟩, r1⟩ := h1
  obtain ⟨⟨_, _, _, _, _, _, _, _, _, rfl⟩, r2⟩ := h2
  exact ⟨⟨_, _, _, _, _, _, _, _, _, rfl⟩, r1.trans r2⟩

theorem Reacts.mono {os ps : List Nat} {a b : Half} (h : Reacts os a b) (hs : ∀ o ∈ os, o ∈ ps) : Reacts ps a b :=
  ⟨h.1, h.2.mono hs⟩

/-- The registers that every reaction may touch: the counts of sources 0xFE and 0xFD and that of dropped records. -/
def reactRegs : List Nat := [RG.SD_SRC 0xFE, RG.SD_SRC 0xFD, RG.SD_CNT_DROP]

variable {os : List Nat}

theorem reacts_modSd (h : Half) (f : Sd → Sd) : Reacts os h (h.modSd f) :=
  ⟨⟨_, _, _, _, _, _, _, _, _, rfl⟩, .of_regs rfl⟩
theorem reacts_modTh (h : Half) (f : Th → Th) : Reacts os h (h.modTh f) :=
  ⟨⟨_, _, _, _, _, _, _, _, _, rfl⟩, .of_regs rfl⟩
theorem reacts_modCell (h : Half) (c : Nat) (f : Cell → Cell) : Reacts os h (h.modCell c f) :=
  ⟨⟨_, _, _, _, _, _, _, _, _, rfl⟩, .of_regs rfl⟩
theorem reacts_me (h : Half) (m : Me) : Reacts os h { h with me := m } :=
  ⟨⟨_, _, _, _, _, _, _, _, _, rfl⟩, .of_regs rfl⟩
theorem reacts_put (h : Half) (o : Nat) (v : Word) (ho : o ∈ os) : Reacts os h (h.put o v) :=
  ⟨⟨_, _, _, _, _, _, _, _, _, rfl⟩, .put h v ho⟩
theorem reacts_tether (h : Half) (t : Nat) (m : TMsg) : Reacts os h (h.tether t m) := by
  unfold Half.tether
  split
  · exact .refl os h
  · exact ⟨⟨_, _, _, _, _, _, _, _, _, rfl⟩, .of_regs rfl⟩

theorem reacts_noteRaise (me : HalfId) (now : Nat) (u : FUnit) (b : Bool) (h : Half) :
    Reacts os h (noteRaise me now u b h) := by
  unfold noteRaise; exact reacts_modSd _ _

theorem reacts_pushRec (t : Nat) (r : EvRec) (h : Half) : Reacts reactRegs h (pushRec t r h) := by
  unfold pushRec
  dsimp only
  split
  · exact (reacts_me h _).trans (reacts_modSd _ _)
  · exact ((reacts_me h _).trans (reacts_put _ _ _ (by simp [reactRegs]))).trans (reacts_modSd _ _)

theorem reacts_record (cx : Cx) (s sev arg : Nat) (v : Word) (h : Half) :
    Reacts reactRegs h (record cx s sev arg v h) := by
  unfold record
  split
  · exact .refl _ h
  · dsimp only
    split
    · exact (reacts_modSd h _).trans (reacts_pushRec _ _ _)
    · exact reacts_modSd h _

/-- A part of a reaction taken on a condition. -/
theorem reacts_ite {c : Prop} [Decidable c] {h a b : Half} (ha : Reacts os h a) (hb : Reacts os h b) :
    Reacts os h (if c then a else b) := by
  split
  · exact ha
  · exact hb

theorem reacts_askUnit (cx : Cx) (u : FUnit) (h : Half) : Reacts os h (askUnit cx u h) :=
  reacts_ite (.refl os h) (reacts_modSd h _)

theorem reacts_fenceUnit (cx : Cx) (u : FUnit) (b : Bool) (h : Half) : Reacts os h (fenceUnit cx u b h) := by
  cases u
  case none => exact .refl os h
  case half => exact .refl os h
  case ctx c =>
    exact reacts_ite (reacts_modCell h _ _)
      (reacts_ite (reacts_askUnit _ _ _) ((reacts_askUnit _ _ _).trans (reacts_tether _ _ _)))
  case pairs => exact (reacts_askUnit _ _ _).trans (reacts_tether _ _ _)
  case conv => exact reacts_ite (reacts_askUnit _ _ _) ((reacts_askUnit _ _ _).trans (reacts_tether _ _ _))
  all_goals exact reacts_askUnit _ _ _

theorem reacts_gustDecide (cx : Cx) (c : Nat) (st : Bool) (tr : Option Nat) (tell : Bool) (h : Half) :
    Reacts os h (gustDecide cx c st tr tell h) := by
  unfold gustDecide
  split
  · exact .refl os h
  · dsimp only
    split
    · exact ((reacts_modSd h _).trans (reacts_modSd _ _)).trans (reacts_tether _ _ _)
    · exact (reacts_modSd h _).trans (reacts_modSd _ _)

theorem reacts_newClock (cx : Cx) (h : Half) : Reacts os h (newClock cx h) := reacts_ite (.refl os h) (reacts_modSd h _)

theorem reacts_markStages (cx : Cx) (s : Nat) (us : List Nat) (h : Half) : Reacts os h (markStages cx s us h) :=
  (((reacts_newClock cx h).trans (reacts_modSd _ _)).trans (reacts_modSd _ _)).trans
    (reacts_ite (.refl os _) (reacts_tether _ _ _))

theorem reacts_tripMarks (cx : Cx) (n : Nat) (us : List Nat) (h : Half) : Reacts os h (tripMarks cx n us h) :=
  (((reacts_newClock cx h).trans (reacts_modSd _ _)).trans (reacts_modSd _ _)).trans
    (reacts_ite (.refl os _) (reacts_tether _ _ _))

theorem reacts_decideTrip (cx : Cx) (src n : Nat) (tell : Bool) (h : Half) : Reacts os h (decideTrip cx src n tell h) :=
  reacts_ite (.refl os h) ((reacts_gustDecide _ _ _ _ _ _).trans (reacts_modSd _ _))

theorem reacts_stageTrip (cx : Cx) (src n : Nat) (us : List Nat) (h : Half) : Reacts os h (stageTrip cx src n us h) :=
  (((reacts_modSd h _).trans (reacts_tripMarks _ _ _ _)).trans (reacts_tether _ _ _)).trans
    (reacts_ite (reacts_decideTrip _ _ _ _ _) (.refl os _))

theorem reacts_enterFenced (cx : Cx) (h : Half) : Reacts os h (enterFenced cx h) := by
  unfold enterFenced
  dsimp only
  split
  · exact ⟨⟨_, _, _, _, _, _, _, _, _, rfl⟩, .of_regs rfl⟩
  · exact ⟨⟨_, _, _, _, _, _, _, _, _, rfl⟩, .of_regs rfl⟩

theorem reacts_handoverCore (cx : Cx) (h : Half) : Reacts os h (handoverCore cx h).1 := by
  unfold handoverCore
  split
  · split
    · exact ((reacts_enterFenced cx h).trans (reacts_modTh _ _)).trans (reacts_tether _ _ _)
    · exact reacts_stageTrip cx 0xFE 3 [] h
  · exact reacts_enterFenced cx h
  · exact reacts_enterFenced cx h
  · exact .refl os h

theorem reacts_askFence (cx : Cx) (h : Half) : Reacts os h (askFence cx h) := reacts_modTh _ _

theorem reacts_reactStages (cx : Cx) (s sev : Nat) (us : List Nat) (h : Half) : Reacts os h (reactStages cx s sev us h) := by
  unfold reactStages
  split
  · exact reacts_markStages cx s us h
  · exact reacts_stageTrip cx s _ us h
  · exact (reacts_stageTrip cx s 3 us h).trans ⟨⟨_, _, _, _, _, _, _, _, _, rfl⟩, .of_regs rfl⟩
  · exact .refl os h

/-- A raise touches the count of its source and the recorder's triggers. -/
theorem reacts_countRaise (s : Nat) (h : Half) :
    Reacts os (h.putF (RG.SD_SRC s) 15 0 (min 0xFFFF (h.getF (RG.SD_SRC s) 15 0 + 1))) (countRaise s h) :=
  reacts_ite (reacts_me _ _) (.refl os _)

theorem reacts_raiseNoHandover (cx : Cx) (h : Half) : Reacts reactRegs h (raiseNoHandover cx h) := by
  refine Reacts.trans ?_ (reacts_record _ _ _ _ _ _)
  refine Reacts.trans ?_ (reacts_ite (reacts_handoverCore _ _) (.refl _ _))
  refine Reacts.trans ?_ (reacts_reactStages _ _ _ _ _)
  exact (reacts_put h _ _ (by simp [reactRegs])).trans (reacts_countRaise _ _)

theorem reacts_handover (cx : Cx) (h : Half) : Reacts reactRegs h (handover cx h) := by
  unfold handover
  dsimp only
  split
  · exact (reacts_handoverCore cx h).trans (reacts_raiseNoHandover _ _)
  · exact reacts_handoverCore cx h

theorem reacts_reactUnit (cx : Cx) (u : FUnit) (b : Bool) (h : Half) : Reacts reactRegs h (reactUnit cx u b h) := by
  unfold reactUnit
  split
  · exact reacts_ite (reacts_handover _ _) (reacts_askFence _ _)
  · exact reacts_fenceUnit _ _ _ _

/-- What a raise does after it has counted. -/
theorem raiseOne_tail (cx : Cx) (s arg : Nat) (v : Word) (h : Half) :
    Reacts reactRegs (h.putF (RG.SD_SRC s) 15 0 (min 0xFFFF (h.getF (RG.SD_SRC s) 15 0 + 1))) (raiseOne cx s arg v h) := by
  unfold raiseOne
  dsimp only
  refine Reacts.trans ?_ (reacts_record _ _ _ _ _ _)
  refine Reacts.trans ?_ (reacts_reactStages _ _ _ _ _)
  refine Reacts.trans ?_ (reacts_ite (reacts_handover _ _) (.refl _ _))
  exact ((reacts_countRaise s h).trans (reacts_noteRaise _ _ _ _ _)).trans
    (reacts_ite (reacts_reactUnit _ _ _ _) (.refl _ _))

theorem reacts_reportDrops (cx : Cx) (h : Half) : Reacts reactRegs h (reportDrops cx h) :=
  reacts_ite (.refl _ h) (((reacts_modSd h _).trans (reacts_put _ _ _ (by simp [reactRegs]))).trans (raiseOne_tail _ _ _ _ _))

/-- What a raise does after it has counted, the report of drops included. -/
theorem raise_tail (cx : Cx) (s arg : Nat) (v : Word) (h : Half) :
    Reacts reactRegs (h.putF (RG.SD_SRC s) 15 0 (min 0xFFFF (h.getF (RG.SD_SRC s) 15 0 + 1))) (raise cx s arg v h) :=
  (raiseOne_tail cx s arg v h).trans (reacts_reportDrops _ _)

/-- Raising source s touches what reactions touch, and of the registers its own count besides. -/
theorem reacts_raise (cx : Cx) (s arg : Nat) (v : Word) (h : Half) :
    Reacts (RG.SD_SRC s :: reactRegs) h (raise cx s arg v h) :=
  (reacts_put h _ _ (by simp)).trans ((raise_tail cx s arg v h).mono (fun o ho => by simp [ho]))

theorem reacts_raiseIf (c : Bool) (cx : Cx) (s arg : Nat) (v : Word) (h : Half) :
    Reacts (RG.SD_SRC s :: reactRegs) h (raiseIf c cx s arg v h) := by
  unfold raiseIf
  split
  · exact reacts_raise _ _ _ _ _
  · exact .refl _ _

theorem reacts_raises (n : Nat) (cx : Cx) (s arg : Nat) (v : Word) (h : Half) :
    Reacts (RG.SD_SRC s :: reactRegs) h (raises n cx s arg v h) := by
  induction n generalizing h with
  | zero => exact .refl _ _
  | succ n ih => exact (reacts_raise cx s arg v h).trans (ih _)

/-- Every raise counts in SD_SRCs.COUNT (R264). -/
theorem raise_count (cx : Cx) (s arg : Nat) (v : Word) (h : Half) (hs : s < 0xFD) :
    (raise cx s arg v h).reg (RG.SD_SRC s) =
      wset (h.reg (RG.SD_SRC s)) 15 0 (min 0xFFFF (h.getF (RG.SD_SRC s) 15 0 + 1)) := by
  have hm : RG.SD_SRC s ∉ reactRegs := by
    simp only [reactRegs, RG.SD_SRC, RG.SD_CNT_DROP, List.mem_cons, List.not_mem_nil, or_false]
    omega
  rw [(raise_tail cx s arg v h).2 _ hm]
  simp

/-- A value that fits the low 16 bits reads back from them. -/
theorem wbits_wset_low (w : Word) (v : Nat) (hv : v < 65536) : wbits (wset w 15 0 v) 15 0 = v := by
  have h : ∀ a : Nat, ((a &&& 4294901760) ||| (v &&& 65535)) % 2 ^ 16 = v := by
    intro a
    rw [Nat.or_mod_two_pow, Nat.and_mod_two_pow, Nat.and_mod_two_pow]
    simp [Nat.mod_eq_of_lt hv, Nat.and_two_pow_sub_one_eq_mod v 16]
  have := h w.toNat
  simp [wbits, wset, Nat.mod_eq_of_lt (show v < 4294967296 by omega)]
  exact this

/-- Raises add up in SD_SRCs.COUNT until it is full (R264). -/
theorem raises_count (n : Nat) (cx : Cx) (s arg : Nat) (v : Word) (h : Half) (hs : s < 0xFD) :
    RaisedTimes n s h (raises n cx s arg v h) := by
  induction n generalizing h with
  | zero =>
    simp only [RaisedTimes, raises, Half.getF, Nat.add_zero]
    have : wbits (h.reg (RG.SD_SRC s)) 15 0 < 65536 := Nat.mod_lt _ (by decide)
    omega
  | succ n ih =>
    have h1 := ih (raise cx s arg v h)
    simp only [RaisedTimes, raises] at h1 ⊢
    rw [h1]
    simp only [Half.getF, raise_count cx s arg v h hs]
    rw [wbits_wset_low _ _ (by omega)]
    omega

/-! ### The parts that a reaction leaves alone -/

section
variable {h h' : Half} (r : Reacts os h h')
include r

theorem Reacts.rings : h'.rings = h.rings := by obtain ⟨⟨_, _, _, _, _, _, _, _, _, rfl⟩, -⟩ := r; rfl
theorem Reacts.svc : h'.svc = h.svc := by obtain ⟨⟨_, _, _, _, _, _, _, _, _, rfl⟩, -⟩ := r; rfl
theorem Reacts.hi : h'.hi = h.hi := by obtain ⟨⟨_, _, _, _, _, _, _, _, _, rfl⟩, -⟩ := r; rfl
theorem Reacts.an : h'.an = h.an := by obtain ⟨⟨_, _, _, _, _, _, _, _, _, rfl⟩, -⟩ := r; rfl
theorem Reacts.ox : h'.ox = h.ox := by obtain ⟨⟨_, _, _, _, _, _, _, _, _, rfl⟩, -⟩ := r; rfl
theorem Reacts.lt : h'.lt = h.lt := by obtain ⟨⟨_, _, _, _, _, _, _, _, _, rfl⟩, -⟩ := r; rfl
theorem Reacts.lv : h'.lv = h.lv := by obtain ⟨⟨_, _, _, _, _, _, _, _, _, rfl⟩, -⟩ := r; rfl
theorem Reacts.tb : h'.tb = h.tb := by obtain ⟨⟨_, _, _, _, _, _, _, _, _, rfl⟩, -⟩ := r; rfl
theorem Reacts.ck : h'.ck = h.ck := by obtain ⟨⟨_, _, _, _, _, _, _, _, _, rfl⟩, -⟩ := r; rfl
theorem Reacts.net : h'.net = h.net := by obtain ⟨⟨_, _, _, _, _, _, _, _, _, rfl⟩, -⟩ := r; rfl
theorem Reacts.can : h'.can = h.can := by obtain ⟨⟨_, _, _, _, _, _, _, _, _, rfl⟩, -⟩ := r; rfl
theorem Reacts.pw : h'.pw = h.pw := by obtain ⟨⟨_, _, _, _, _, _, _, _, _, rfl⟩, -⟩ := r; rfl
theorem Reacts.tm : h'.tm = h.tm := by obtain ⟨⟨_, _, _, _, _, _, _, _, _, rfl⟩, -⟩ := r; rfl
theorem Reacts.pk : h'.pk = h.pk := by obtain ⟨⟨_, _, _, _, _, _, _, _, _, rfl⟩, -⟩ := r; rfl
theorem Reacts.id : h'.id = h.id := by obtain ⟨⟨_, _, _, _, _, _, _, _, _, rfl⟩, -⟩ := r; rfl
theorem Reacts.glb : h'.glb = { h.glb with dev := h'.glb.dev, role := h'.glb.role, own := h'.glb.own } := by
  obtain ⟨⟨_, _, _, _, _, _, _, _, _, rfl⟩, -⟩ := r; rfl

/-- Every part outside a reaction's reach is equal. -/
theorem Reacts.part (p : Part) (hp : p ∉ [Part.role, .sd, .th, .me, .cells, .out, .regs]) : p.eq h h' := by
  obtain ⟨⟨_, _, _, _, _, _, _, _, _, rfl⟩, -⟩ := r
  cases p <;> simp at hp <;> rfl

end

/-! ### A raise leaves alone -/

@[simp] theorem raise_rings (cx : Cx) (s arg : Nat) (v : Word) (h : Half) : (raise cx s arg v h).rings = h.rings := (reacts_raise cx s arg v h).rings
@[simp] theorem raise_svc (cx : Cx) (s arg : Nat) (v : Word) (h : Half) : (raise cx s arg v h).svc = h.svc := (reacts_raise cx s arg v h).svc
@[simp] theorem raise_hi (cx : Cx) (s arg : Nat) (v : Word) (h : Half) : (raise cx s arg v h).hi = h.hi := (reacts_raise cx s arg v h).hi
@[simp] theorem raise_an (cx : Cx) (s arg : Nat) (v : Word) (h : Half) : (raise cx s arg v h).an = h.an := (reacts_raise cx s arg v h).an
@[simp] theorem raise_ox (cx : Cx) (s arg : Nat) (v : Word) (h : Half) : (raise cx s arg v h).ox = h.ox := (reacts_raise cx s arg v h).ox
@[simp] theorem raise_lt (cx : Cx) (s arg : Nat) (v : Word) (h : Half) : (raise cx s arg v h).lt = h.lt := (reacts_raise cx s arg v h).lt
@[simp] theorem raise_lv (cx : Cx) (s arg : Nat) (v : Word) (h : Half) : (raise cx s arg v h).lv = h.lv := (reacts_raise cx s arg v h).lv
@[simp] theorem raise_tb (cx : Cx) (s arg : Nat) (v : Word) (h : Half) : (raise cx s arg v h).tb = h.tb := (reacts_raise cx s arg v h).tb
@[simp] theorem raise_ck (cx : Cx) (s arg : Nat) (v : Word) (h : Half) : (raise cx s arg v h).ck = h.ck := (reacts_raise cx s arg v h).ck
@[simp] theorem raise_net (cx : Cx) (s arg : Nat) (v : Word) (h : Half) : (raise cx s arg v h).net = h.net := (reacts_raise cx s arg v h).net
@[simp] theorem raise_can (cx : Cx) (s arg : Nat) (v : Word) (h : Half) : (raise cx s arg v h).can = h.can := (reacts_raise cx s arg v h).can
@[simp] theorem raise_pw (cx : Cx) (s arg : Nat) (v : Word) (h : Half) : (raise cx s arg v h).pw = h.pw := (reacts_raise cx s arg v h).pw
@[simp] theorem raise_tm (cx : Cx) (s arg : Nat) (v : Word) (h : Half) : (raise cx s arg v h).tm = h.tm := (reacts_raise cx s arg v h).tm
@[simp] theorem raise_pk (cx : Cx) (s arg : Nat) (v : Word) (h : Half) : (raise cx s arg v h).pk = h.pk := (reacts_raise cx s arg v h).pk
@[simp] theorem raise_id (cx : Cx) (s arg : Nat) (v : Word) (h : Half) : (raise cx s arg v h).id = h.id := (reacts_raise cx s arg v h).id
@[simp] theorem raiseIf_rings (c : Bool) (cx : Cx) (s arg : Nat) (v : Word) (h : Half) : (raiseIf c cx s arg v h).rings = h.rings := (reacts_raiseIf c cx s arg v h).rings
@[simp] theorem raiseIf_svc (c : Bool) (cx : Cx) (s arg : Nat) (v : Word) (h : Half) : (raiseIf c cx s arg v h).svc = h.svc := (reacts_raiseIf c cx s arg v h).svc
@[simp] theorem raiseIf_hi (c : Bool) (cx : Cx) (s arg : Nat) (v : Word) (h : Half) : (raiseIf c cx s arg v h).hi = h.hi := (reacts_raiseIf c cx s arg v h).hi
@[simp] theorem raiseIf_an (c : Bool) (cx : Cx) (s arg : Nat) (v : Word) (h : Half) : (raiseIf c cx s arg v h).an = h.an := (reacts_raiseIf c cx s arg v h).an
@[simp] theorem raiseIf_ox (c : Bool) (cx : Cx) (s arg : Nat) (v : Word) (h : Half) : (raiseIf c cx s arg v h).ox = h.ox := (reacts_raiseIf c cx s arg v h).ox
@[simp] theorem raiseIf_lt (c : Bool) (cx : Cx) (s arg : Nat) (v : Word) (h : Half) : (raiseIf c cx s arg v h).lt = h.lt := (reacts_raiseIf c cx s arg v h).lt
@[simp] theorem raiseIf_lv (c : Bool) (cx : Cx) (s arg : Nat) (v : Word) (h : Half) : (raiseIf c cx s arg v h).lv = h.lv := (reacts_raiseIf c cx s arg v h).lv
@[simp] theorem raiseIf_tb (c : Bool) (cx : Cx) (s arg : Nat) (v : Word) (h : Half) : (raiseIf c cx s arg v h).tb = h.tb := (reacts_raiseIf c cx s arg v h).tb
@[simp] theorem raiseIf_ck (c : Bool) (cx : Cx) (s arg : Nat) (v : Word) (h : Half) : (raiseIf c cx s arg v h).ck = h.ck := (reacts_raiseIf c cx s arg v h).ck
@[simp] theorem raiseIf_net (c : Bool) (cx : Cx) (s arg : Nat) (v : Word) (h : Half) : (raiseIf c cx s arg v h).net = h.net := (reacts_raiseIf c cx s arg v h).net
@[simp] theorem raiseIf_can (c : Bool) (cx : Cx) (s arg : Nat) (v : Word) (h : Half) : (raiseIf c cx s arg v h).can = h.can := (reacts_raiseIf c cx s arg v h).can
@[simp] theorem raiseIf_pw (c : Bool) (cx : Cx) (s arg : Nat) (v : Word) (h : Half) : (raiseIf c cx s arg v h).pw = h.pw := (reacts_raiseIf c cx s arg v h).pw
@[simp] theorem raiseIf_tm (c : Bool) (cx : Cx) (s arg : Nat) (v : Word) (h : Half) : (raiseIf c cx s arg v h).tm = h.tm := (reacts_raiseIf c cx s arg v h).tm
@[simp] theorem raiseIf_pk (c : Bool) (cx : Cx) (s arg : Nat) (v : Word) (h : Half) : (raiseIf c cx s arg v h).pk = h.pk := (reacts_raiseIf c cx s arg v h).pk
@[simp] theorem raiseIf_id (c : Bool) (cx : Cx) (s arg : Nat) (v : Word) (h : Half) : (raiseIf c cx s arg v h).id = h.id := (reacts_raiseIf c cx s arg v h).id

theorem raise_reg (cx : Cx) (s arg : Nat) (v : Word) (h : Half) (o : Nat) (ho : o ∉ RG.SD_SRC s :: reactRegs) :
    (raise cx s arg v h).reg o = h.reg o := (reacts_raise cx s arg v h).2 o ho
theorem raiseIf_reg (c : Bool) (cx : Cx) (s arg : Nat) (v : Word) (h : Half) (o : Nat) (ho : o ∉ RG.SD_SRC s :: reactRegs) :
    (raiseIf c cx s arg v h).reg o = h.reg o := (reacts_raiseIf c cx s arg v h).2 o ho

/-- A raise is counted (R264). -/
theorem raised_raise (cx : Cx) (s arg : Nat) (v : Word) (h0 h : Half) (hs : s < 0xFD) (hr : h.reg (RG.SD_SRC s) = h0.reg (RG.SD_SRC s)) :
    Raised s h0 (raise cx s arg v h) := by
  unfold Raised
  rw [raise_count cx s arg v h hs, hr]
  simp [Half.getF, hr]


end Sys2Proof.Machine
end

