-- ==== Sys2Proof/Laws/Run.lean ====
section
/-! SUPPORT. The shape that every command shares: time passes, the effect acts on the half the command comes to, and
the standing conditions are taken; what each of the three leaves alone. -/
namespace Sys2Proof.Machine

/-! ### Time -/

@[simp] theorem State.advance_time (s : State) (t : Nat) : (s.advance t).time = max s.time t := rfl
@[simp] theorem State.advance_pending (s : State) (t : Nat) : (s.advance t).pending = s.pending := rfl
@[simp] theorem State.advance_a (s : State) (t : Nat) : (s.advance t).a = s.a.tick s.time (max s.time t) := rfl
@[simp] theorem State.advance_b (s : State) (t : Nat) : (s.advance t).b = s.b.tick s.time (max s.time t) := rfl

/-- Either half, after time has passed. -/
@[simp] theorem State.advance_half (s : State) (t : Nat) (x : HalfId) :
    (s.advance t).half x = (s.half x).tick s.time (max s.time t) := by cases x <;> rfl

@[simp] theorem State.half_setHalf (s : State) (x : HalfId) (h : Half) : (s.setHalf x h).half x = h := by
  cases x <;> rfl

@[simp] theorem State.half_setHalf_other (s : State) (x : HalfId) (h : Half) :
    (s.setHalf x h).half x.other = s.half x.other := by cases x <;> rfl

@[simp] theorem State.setHalf_time (s : State) (x : HalfId) (h : Half) : (s.setHalf x h).time = s.time := by
  cases x <;> rfl

@[simp] theorem State.setHalf_pending (s : State) (x : HalfId) (h : Half) : (s.setHalf x h).pending = s.pending := by
  cases x <;> rfl

theorem HalfId.other_other (x : HalfId) : x.other.other = x := by cases x <;> rfl

theorem HalfId.eq_or (x y : HalfId) : y = x ∨ y = x.other := by cases x <;> cases y <;> simp [HalfId.other]

/-! ### The standing conditions -/

/-- The supply's target acts on the power state alone. -/
theorem retarget_eq (t : Nat) (h : Half) : ∃ p, retarget t h = { h with pw := p } := by
  unfold retarget
  dsimp only
  split
  · exact ⟨_, rfl⟩
  · split
    · exact ⟨_, rfl⟩
    · exact ⟨_, rfl⟩

/-- The triggers of a command go to the recorder and, from a STANDBY half, to the Tether. -/
theorem settleTrig_eq (cx : Cx) (h : Half) : ∃ m o, settleTrig cx h = { h with me := m, out := o } := by
  have fold : ∀ (cs : List RcdCause) (g : Half), ∃ o,
      cs.foldl (fun g c => g.tether cx.now (.relay (.trigger c))) g = { g with out := o } := by
    intro cs
    induction cs with
    | nil => exact fun g => ⟨g.out, rfl⟩
    | cons c cs ih =>
      intro g
      obtain ⟨o, e⟩ := ih (g.tether cx.now (.relay (.trigger c)))
      refine ⟨o, ?_⟩
      rw [List.foldl_cons, e]
      unfold Half.tether
      split <;> rfl
  unfold settleTrig
  split
  · exact ⟨h.me, h.out, rfl⟩
  · dsimp only
    split
    · obtain ⟨o, e⟩ := fold _ _
      exact ⟨_, o, e⟩
    · exact ⟨_, h.out, rfl⟩

/-- What the standing conditions do, all of it: they touch the device state, the role, the pads, the ROLE line, the CAN
controllers, the supply's target and the recorder's triggers, and nothing else. -/
theorem settle_eq (cx : Cx) (h : Half) : ∃ m o p,
    settle cx h = { h with
      me := m, out := o, pw := p
      can := h.can.map (settleCan (settleDev h) (settleRole (settleDev h) h.glb.role))
      glb := { h.glb with
        dev := settleDev h
        role := settleRole (settleDev h) h.glb.role
        own := settleOwn { h.glb with dev := settleDev h, role := settleRole (settleDev h) h.glb.role }
          (h.th.fenced || h.protecting) (cx.other.glb.own || otherRose cx.now h.th cx.other.th) }
      th := (settle cx h).th } := by
  obtain ⟨m, o, e⟩ := settleTrig_eq cx h
  have d : settleDev { h with me := m, out := o } = settleDev h := rfl
  unfold settle
  rw [e]
  dsimp only
  rw [d]
  split
  · obtain ⟨p, ep⟩ := retarget_eq cx.now
      { { h with me := m, out := o } with
        glb := { h.glb with dev := settleDev h, role := settleRole (settleDev h) h.glb.role } }
    rw [ep]
    exact ⟨m, o, p, rfl⟩
  · exact ⟨m, o, h.pw, rfl⟩

/-- A supply with no change of target waiting is left alone. -/
theorem settle_pw (cx : Cx) (h : Half) (hp : h.pw.pend = false) : (settle cx h).pw = h.pw := by
  obtain ⟨m, o, e⟩ := settleTrig_eq cx h
  unfold settle
  rw [e]
  simp [hp]

/-- With no trigger raised by the command the recorder is left alone. -/
theorem settle_me (cx : Cx) (h : Half) (ht : h.me.trig = []) : (settle cx h).me = h.me := by
  have e : settleTrig cx h = h := by simp [settleTrig, ht]
  unfold settle
  rw [e]
  dsimp only
  split
  · obtain ⟨p, ep⟩ := retarget_eq cx.now
      { h with glb := { h.glb with dev := settleDev h, role := settleRole (settleDev h) h.glb.role } }
    rw [ep]
  · rfl

/-- With no trigger raised by the command nothing more is sent. -/
theorem settle_out (cx : Cx) (h : Half) (ht : h.me.trig = []) : (settle cx h).out = h.out := by
  have e : settleTrig cx h = h := by simp [settleTrig, ht]
  unfold settle
  rw [e]
  dsimp only
  split
  · obtain ⟨p, ep⟩ := retarget_eq cx.now
      { h with glb := { h.glb with dev := settleDev h, role := settleRole (settleDev h) h.glb.role } }
    rw [ep]
  · rfl

/-- The ROLE line follows the role and the fence line. -/
theorem settle_th (cx : Cx) (h : Half) : ∃ a b, (settle cx h).th = { h.th with
    roleLine := decide (settleRole (settleDev h) h.glb.role = .active) && !(h.th.fenced || h.protecting), roleLow := a, roleHigh := b
    lastCycle := if settleRole (settleDev h) h.glb.role = h.glb.role then h.th.lastCycle else h.glb.cycle % 65536 } := by
  obtain ⟨m, o, e⟩ := settleTrig_eq cx h
  have d : settleDev { h with me := m, out := o } = settleDev h := rfl
  unfold settle
  rw [e]
  dsimp only
  rw [d]
  split
  · obtain ⟨p, ep⟩ := retarget_eq cx.now
      { { h with me := m, out := o } with
        glb := { h.glb with dev := settleDev h, role := settleRole (settleDev h) h.glb.role } }
    rw [ep]
    exact ⟨_, _, rfl⟩
  · exact ⟨_, _, rfl⟩

@[simp] theorem settle_id (cx : Cx) (h : Half) : (settle cx h).id = h.id := by
  obtain ⟨m, o, p, e⟩ := settle_eq cx h; rw [e]
@[simp] theorem settle_sd (cx : Cx) (h : Half) : (settle cx h).sd = h.sd := by
  obtain ⟨m, o, p, e⟩ := settle_eq cx h; rw [e]
@[simp] theorem settle_hi (cx : Cx) (h : Half) : (settle cx h).hi = h.hi := by
  obtain ⟨m, o, p, e⟩ := settle_eq cx h; rw [e]
@[simp] theorem settle_rings (cx : Cx) (h : Half) : (settle cx h).rings = h.rings := by
  obtain ⟨m, o, p, e⟩ := settle_eq cx h; rw [e]
@[simp] theorem settle_svc (cx : Cx) (h : Half) : (settle cx h).svc = h.svc := by
  obtain ⟨m, o, p, e⟩ := settle_eq cx h; rw [e]
@[simp] theorem settle_cells (cx : Cx) (h : Half) : (settle cx h).cells = h.cells := by
  obtain ⟨m, o, p, e⟩ := settle_eq cx h; rw [e]
@[simp] theorem settle_an (cx : Cx) (h : Half) : (settle cx h).an = h.an := by
  obtain ⟨m, o, p, e⟩ := settle_eq cx h; rw [e]
@[simp] theorem settle_ox (cx : Cx) (h : Half) : (settle cx h).ox = h.ox := by
  obtain ⟨m, o, p, e⟩ := settle_eq cx h; rw [e]
@[simp] theorem settle_lt (cx : Cx) (h : Half) : (settle cx h).lt = h.lt := by
  obtain ⟨m, o, p, e⟩ := settle_eq cx h; rw [e]
@[simp] theorem settle_lv (cx : Cx) (h : Half) : (settle cx h).lv = h.lv := by
  obtain ⟨m, o, p, e⟩ := settle_eq cx h; rw [e]
@[simp] theorem settle_xf (cx : Cx) (h : Half) : (settle cx h).xf = h.xf := by
  obtain ⟨m, o, p, e⟩ := settle_eq cx h; rw [e]
@[simp] theorem settle_acc (cx : Cx) (h : Half) : (settle cx h).acc = h.acc := by
  obtain ⟨m, o, p, e⟩ := settle_eq cx h; rw [e]
@[simp] theorem settle_tb (cx : Cx) (h : Half) : (settle cx h).tb = h.tb := by
  obtain ⟨m, o, p, e⟩ := settle_eq cx h; rw [e]
@[simp] theorem settle_ck (cx : Cx) (h : Half) : (settle cx h).ck = h.ck := by
  obtain ⟨m, o, p, e⟩ := settle_eq cx h; rw [e]
@[simp] theorem settle_net (cx : Cx) (h : Half) : (settle cx h).net = h.net := by
  obtain ⟨m, o, p, e⟩ := settle_eq cx h; rw [e]
@[simp] theorem settle_tm (cx : Cx) (h : Half) : (settle cx h).tm = h.tm := by
  obtain ⟨m, o, p, e⟩ := settle_eq cx h; rw [e]
@[simp] theorem settle_pk (cx : Cx) (h : Half) : (settle cx h).pk = h.pk := by
  obtain ⟨m, o, p, e⟩ := settle_eq cx h; rw [e]
@[simp] theorem settle_regs (cx : Cx) (h : Half) : (settle cx h).regs = h.regs := by
  obtain ⟨m, o, p, e⟩ := settle_eq cx h; rw [e]

/-! ### Every command -/

/-- The half that the command comes to: the effect where it is due, and the standing conditions. -/
theorem State.onIf_half (p : Half → Bool) (s : State) (e : Evt) (f : Cx → Half → Half) :
    (s.onIf p e f).half e.half =
      settle (s.cx e) (if p (s.at e) then f (s.cx e) (s.at e) else s.at e) := by
  simp only [State.onIf, State.cx, State.at, State.half_setHalf, State.advance_half, State.advance_time]
  rfl

/-- The other half: time passes there, and nothing else. -/
theorem State.onIf_other (p : Half → Bool) (s : State) (e : Evt) (f : Cx → Half → Half) :
    (s.onIf p e f).half e.half.other = (s.half e.half.other).tick s.time (max s.time e.time) := by
  simp [State.onIf]

@[simp] theorem State.onIf_time (p : Half → Bool) (s : State) (e : Evt) (f : Cx → Half → Half) :
    (s.onIf p e f).time = max s.time e.time := by simp [State.onIf]

@[simp] theorem State.onIf_pending (p : Half → Bool) (s : State) (e : Evt) (f : Cx → Half → Half) :
    (s.onIf p e f).pending = s.pending := by simp [State.onIf]

/-- The half that a command acts on: the one it comes to, but for a STATE_XFER whose major version is not this
package's, which the ACTIVE half answers (R297). -/
def actingHalf (i : Instr) (s : State) : HalfId :=
  match i with
  | .stateXfer e _ _ major =>
    if otherVersion s e major then e.half.other else e.half
  | i => i.evt.half

/-- Every command has the one shape: an effect on one half, at its instant. -/
theorem exec_shape (i : Instr) (s : State) :
    ∃ p f, exec i s = .next (s.onIf p { half := actingHalf i s, time := i.evt.time } f) := by
  cases i
  case stateXfer e c install major =>
    simp only [exec, execStateXfer, stateXferS, actingHalf]
    split
    · exact ⟨_, _, rfl⟩
    · exact ⟨_, _, rfl⟩
  all_goals exact ⟨_, _, rfl⟩

end Sys2Proof.Machine
end

