-- ==== Sys2Proof/Laws/Reads.lean ====
section
/-! SUPPORT. What each update leaves of each thing that is read of a half: a register, a ring, a context, a channel, the
live bank. -/
namespace Sys2Proof.Machine

@[simp] theorem Half.reg_modGlb (h : Half) (f : Glb → Glb) (o : Nat) : (h.modGlb f).reg o = h.reg o := rfl
@[simp] theorem Half.ring_modGlb (h : Half) (f : Glb → Glb) (i : Nat) : (h.modGlb f).ring i = h.ring i := rfl
@[simp] theorem Half.node_modGlb (h : Half) (f : Glb → Glb) (i j : Nat) : (h.modGlb f).node i j = h.node i j := rfl
@[simp] theorem Half.cell_modGlb (h : Half) (f : Glb → Glb) (i : Nat) : (h.modGlb f).cell i = h.cell i := rfl
@[simp] theorem Half.anCh_modGlb (h : Half) (f : Glb → Glb) (i : Nat) : (h.modGlb f).anCh i = h.anCh i := rfl
@[simp] theorem Half.reg_modSd (h : Half) (f : Sd → Sd) (o : Nat) : (h.modSd f).reg o = h.reg o := rfl
@[simp] theorem Half.ring_modSd (h : Half) (f : Sd → Sd) (i : Nat) : (h.modSd f).ring i = h.ring i := rfl
@[simp] theorem Half.node_modSd (h : Half) (f : Sd → Sd) (i j : Nat) : (h.modSd f).node i j = h.node i j := rfl
@[simp] theorem Half.cell_modSd (h : Half) (f : Sd → Sd) (i : Nat) : (h.modSd f).cell i = h.cell i := rfl
@[simp] theorem Half.anCh_modSd (h : Half) (f : Sd → Sd) (i : Nat) : (h.modSd f).anCh i = h.anCh i := rfl
@[simp] theorem Half.bn_modSd (h : Half) (f : Sd → Sd) (o : Nat) : (h.modSd f).bn o = h.bn o := rfl
@[simp] theorem Half.bf_modSd (h : Half) (f : Sd → Sd) (o : Nat) : (h.modSd f).bf o = h.bf o := rfl
@[simp] theorem Half.bi_modSd (h : Half) (f : Sd → Sd) (o : Nat) : (h.modSd f).bi o = h.bi o := rfl
@[simp] theorem Half.bw_modSd (h : Half) (f : Sd → Sd) (o : Nat) : (h.modSd f).bw o = h.bw o := rfl
@[simp] theorem Half.reg_modHi (h : Half) (f : Hi → Hi) (o : Nat) : (h.modHi f).reg o = h.reg o := rfl
@[simp] theorem Half.ring_modHi (h : Half) (f : Hi → Hi) (i : Nat) : (h.modHi f).ring i = h.ring i := rfl
@[simp] theorem Half.node_modHi (h : Half) (f : Hi → Hi) (i j : Nat) : (h.modHi f).node i j = h.node i j := rfl
@[simp] theorem Half.cell_modHi (h : Half) (f : Hi → Hi) (i : Nat) : (h.modHi f).cell i = h.cell i := rfl
@[simp] theorem Half.anCh_modHi (h : Half) (f : Hi → Hi) (i : Nat) : (h.modHi f).anCh i = h.anCh i := rfl
@[simp] theorem Half.bn_modHi (h : Half) (f : Hi → Hi) (o : Nat) : (h.modHi f).bn o = h.bn o := rfl
@[simp] theorem Half.bf_modHi (h : Half) (f : Hi → Hi) (o : Nat) : (h.modHi f).bf o = h.bf o := rfl
@[simp] theorem Half.bi_modHi (h : Half) (f : Hi → Hi) (o : Nat) : (h.modHi f).bi o = h.bi o := rfl
@[simp] theorem Half.bw_modHi (h : Half) (f : Hi → Hi) (o : Nat) : (h.modHi f).bw o = h.bw o := rfl
@[simp] theorem Half.reg_modAn (h : Half) (f : An → An) (o : Nat) : (h.modAn f).reg o = h.reg o := rfl
@[simp] theorem Half.ring_modAn (h : Half) (f : An → An) (i : Nat) : (h.modAn f).ring i = h.ring i := rfl
@[simp] theorem Half.node_modAn (h : Half) (f : An → An) (i j : Nat) : (h.modAn f).node i j = h.node i j := rfl
@[simp] theorem Half.cell_modAn (h : Half) (f : An → An) (i : Nat) : (h.modAn f).cell i = h.cell i := rfl
@[simp] theorem Half.bn_modAn (h : Half) (f : An → An) (o : Nat) : (h.modAn f).bn o = h.bn o := rfl
@[simp] theorem Half.bf_modAn (h : Half) (f : An → An) (o : Nat) : (h.modAn f).bf o = h.bf o := rfl
@[simp] theorem Half.bi_modAn (h : Half) (f : An → An) (o : Nat) : (h.modAn f).bi o = h.bi o := rfl
@[simp] theorem Half.bw_modAn (h : Half) (f : An → An) (o : Nat) : (h.modAn f).bw o = h.bw o := rfl
@[simp] theorem Half.reg_modOx (h : Half) (f : Ox → Ox) (o : Nat) : (h.modOx f).reg o = h.reg o := rfl
@[simp] theorem Half.ring_modOx (h : Half) (f : Ox → Ox) (i : Nat) : (h.modOx f).ring i = h.ring i := rfl
@[simp] theorem Half.node_modOx (h : Half) (f : Ox → Ox) (i j : Nat) : (h.modOx f).node i j = h.node i j := rfl
@[simp] theorem Half.cell_modOx (h : Half) (f : Ox → Ox) (i : Nat) : (h.modOx f).cell i = h.cell i := rfl
@[simp] theorem Half.anCh_modOx (h : Half) (f : Ox → Ox) (i : Nat) : (h.modOx f).anCh i = h.anCh i := rfl
@[simp] theorem Half.bn_modOx (h : Half) (f : Ox → Ox) (o : Nat) : (h.modOx f).bn o = h.bn o := rfl
@[simp] theorem Half.bf_modOx (h : Half) (f : Ox → Ox) (o : Nat) : (h.modOx f).bf o = h.bf o := rfl
@[simp] theorem Half.bi_modOx (h : Half) (f : Ox → Ox) (o : Nat) : (h.modOx f).bi o = h.bi o := rfl
@[simp] theorem Half.bw_modOx (h : Half) (f : Ox → Ox) (o : Nat) : (h.modOx f).bw o = h.bw o := rfl
@[simp] theorem Half.reg_modLv (h : Half) (f : Lv → Lv) (o : Nat) : (h.modLv f).reg o = h.reg o := rfl
@[simp] theorem Half.ring_modLv (h : Half) (f : Lv → Lv) (i : Nat) : (h.modLv f).ring i = h.ring i := rfl
@[simp] theorem Half.node_modLv (h : Half) (f : Lv → Lv) (i j : Nat) : (h.modLv f).node i j = h.node i j := rfl
@[simp] theorem Half.cell_modLv (h : Half) (f : Lv → Lv) (i : Nat) : (h.modLv f).cell i = h.cell i := rfl
@[simp] theorem Half.anCh_modLv (h : Half) (f : Lv → Lv) (i : Nat) : (h.modLv f).anCh i = h.anCh i := rfl
@[simp] theorem Half.bn_modLv (h : Half) (f : Lv → Lv) (o : Nat) : (h.modLv f).bn o = h.bn o := rfl
@[simp] theorem Half.bf_modLv (h : Half) (f : Lv → Lv) (o : Nat) : (h.modLv f).bf o = h.bf o := rfl
@[simp] theorem Half.bi_modLv (h : Half) (f : Lv → Lv) (o : Nat) : (h.modLv f).bi o = h.bi o := rfl
@[simp] theorem Half.bw_modLv (h : Half) (f : Lv → Lv) (o : Nat) : (h.modLv f).bw o = h.bw o := rfl
@[simp] theorem Half.reg_modTh (h : Half) (f : Th → Th) (o : Nat) : (h.modTh f).reg o = h.reg o := rfl
@[simp] theorem Half.ring_modTh (h : Half) (f : Th → Th) (i : Nat) : (h.modTh f).ring i = h.ring i := rfl
@[simp] theorem Half.node_modTh (h : Half) (f : Th → Th) (i j : Nat) : (h.modTh f).node i j = h.node i j := rfl
@[simp] theorem Half.cell_modTh (h : Half) (f : Th → Th) (i : Nat) : (h.modTh f).cell i = h.cell i := rfl
@[simp] theorem Half.anCh_modTh (h : Half) (f : Th → Th) (i : Nat) : (h.modTh f).anCh i = h.anCh i := rfl
@[simp] theorem Half.bn_modTh (h : Half) (f : Th → Th) (o : Nat) : (h.modTh f).bn o = h.bn o := rfl
@[simp] theorem Half.bf_modTh (h : Half) (f : Th → Th) (o : Nat) : (h.modTh f).bf o = h.bf o := rfl
@[simp] theorem Half.bi_modTh (h : Half) (f : Th → Th) (o : Nat) : (h.modTh f).bi o = h.bi o := rfl
@[simp] theorem Half.bw_modTh (h : Half) (f : Th → Th) (o : Nat) : (h.modTh f).bw o = h.bw o := rfl
@[simp] theorem Half.reg_modTb (h : Half) (f : Tb → Tb) (o : Nat) : (h.modTb f).reg o = h.reg o := rfl
@[simp] theorem Half.ring_modTb (h : Half) (f : Tb → Tb) (i : Nat) : (h.modTb f).ring i = h.ring i := rfl
@[simp] theorem Half.node_modTb (h : Half) (f : Tb → Tb) (i j : Nat) : (h.modTb f).node i j = h.node i j := rfl
@[simp] theorem Half.cell_modTb (h : Half) (f : Tb → Tb) (i : Nat) : (h.modTb f).cell i = h.cell i := rfl
@[simp] theorem Half.anCh_modTb (h : Half) (f : Tb → Tb) (i : Nat) : (h.modTb f).anCh i = h.anCh i := rfl
@[simp] theorem Half.bn_modTb (h : Half) (f : Tb → Tb) (o : Nat) : (h.modTb f).bn o = h.bn o := rfl
@[simp] theorem Half.bf_modTb (h : Half) (f : Tb → Tb) (o : Nat) : (h.modTb f).bf o = h.bf o := rfl
@[simp] theorem Half.bi_modTb (h : Half) (f : Tb → Tb) (o : Nat) : (h.modTb f).bi o = h.bi o := rfl
@[simp] theorem Half.bw_modTb (h : Half) (f : Tb → Tb) (o : Nat) : (h.modTb f).bw o = h.bw o := rfl
@[simp] theorem Half.reg_modCk (h : Half) (f : Ck → Ck) (o : Nat) : (h.modCk f).reg o = h.reg o := rfl
@[simp] theorem Half.ring_modCk (h : Half) (f : Ck → Ck) (i : Nat) : (h.modCk f).ring i = h.ring i := rfl
@[simp] theorem Half.node_modCk (h : Half) (f : Ck → Ck) (i j : Nat) : (h.modCk f).node i j = h.node i j := rfl
@[simp] theorem Half.cell_modCk (h : Half) (f : Ck → Ck) (i : Nat) : (h.modCk f).cell i = h.cell i := rfl
@[simp] theorem Half.anCh_modCk (h : Half) (f : Ck → Ck) (i : Nat) : (h.modCk f).anCh i = h.anCh i := rfl
@[simp] theorem Half.bn_modCk (h : Half) (f : Ck → Ck) (o : Nat) : (h.modCk f).bn o = h.bn o := rfl
@[simp] theorem Half.bf_modCk (h : Half) (f : Ck → Ck) (o : Nat) : (h.modCk f).bf o = h.bf o := rfl
@[simp] theorem Half.bi_modCk (h : Half) (f : Ck → Ck) (o : Nat) : (h.modCk f).bi o = h.bi o := rfl
@[simp] theorem Half.bw_modCk (h : Half) (f : Ck → Ck) (o : Nat) : (h.modCk f).bw o = h.bw o := rfl
@[simp] theorem Half.reg_modRing (h : Half) (a : Nat) (f : Ring → Ring) (o : Nat) : (h.modRing a f).reg o = h.reg o := rfl
@[simp] theorem Half.cell_modRing (h : Half) (a : Nat) (f : Ring → Ring) (i : Nat) : (h.modRing a f).cell i = h.cell i := rfl
@[simp] theorem Half.anCh_modRing (h : Half) (a : Nat) (f : Ring → Ring) (i : Nat) : (h.modRing a f).anCh i = h.anCh i := rfl
@[simp] theorem Half.bn_modRing (h : Half) (a : Nat) (f : Ring → Ring) (o : Nat) : (h.modRing a f).bn o = h.bn o := rfl
@[simp] theorem Half.bf_modRing (h : Half) (a : Nat) (f : Ring → Ring) (o : Nat) : (h.modRing a f).bf o = h.bf o := rfl
@[simp] theorem Half.bi_modRing (h : Half) (a : Nat) (f : Ring → Ring) (o : Nat) : (h.modRing a f).bi o = h.bi o := rfl
@[simp] theorem Half.bw_modRing (h : Half) (a : Nat) (f : Ring → Ring) (o : Nat) : (h.modRing a f).bw o = h.bw o := rfl
@[simp] theorem Half.reg_modSvc (h : Half) (a : Nat) (f : RingSvc → RingSvc) (o : Nat) : (h.modSvc a f).reg o = h.reg o := rfl
@[simp] theorem Half.ring_modSvc (h : Half) (a : Nat) (f : RingSvc → RingSvc) (i : Nat) : (h.modSvc a f).ring i = h.ring i := rfl
@[simp] theorem Half.node_modSvc (h : Half) (a : Nat) (f : RingSvc → RingSvc) (i j : Nat) : (h.modSvc a f).node i j = h.node i j := rfl
@[simp] theorem Half.cell_modSvc (h : Half) (a : Nat) (f : RingSvc → RingSvc) (i : Nat) : (h.modSvc a f).cell i = h.cell i := rfl
@[simp] theorem Half.anCh_modSvc (h : Half) (a : Nat) (f : RingSvc → RingSvc) (i : Nat) : (h.modSvc a f).anCh i = h.anCh i := rfl
@[simp] theorem Half.bn_modSvc (h : Half) (a : Nat) (f : RingSvc → RingSvc) (o : Nat) : (h.modSvc a f).bn o = h.bn o := rfl
@[simp] theorem Half.bf_modSvc (h : Half) (a : Nat) (f : RingSvc → RingSvc) (o : Nat) : (h.modSvc a f).bf o = h.bf o := rfl
@[simp] theorem Half.bi_modSvc (h : Half) (a : Nat) (f : RingSvc → RingSvc) (o : Nat) : (h.modSvc a f).bi o = h.bi o := rfl
@[simp] theorem Half.bw_modSvc (h : Half) (a : Nat) (f : RingSvc → RingSvc) (o : Nat) : (h.modSvc a f).bw o = h.bw o := rfl
@[simp] theorem Half.reg_modCell (h : Half) (a : Nat) (f : Cell → Cell) (o : Nat) : (h.modCell a f).reg o = h.reg o := rfl
@[simp] theorem Half.ring_modCell (h : Half) (a : Nat) (f : Cell → Cell) (i : Nat) : (h.modCell a f).ring i = h.ring i := rfl
@[simp] theorem Half.node_modCell (h : Half) (a : Nat) (f : Cell → Cell) (i j : Nat) : (h.modCell a f).node i j = h.node i j := rfl
@[simp] theorem Half.anCh_modCell (h : Half) (a : Nat) (f : Cell → Cell) (i : Nat) : (h.modCell a f).anCh i = h.anCh i := rfl
@[simp] theorem Half.bn_modCell (h : Half) (a : Nat) (f : Cell → Cell) (o : Nat) : (h.modCell a f).bn o = h.bn o := rfl
@[simp] theorem Half.bf_modCell (h : Half) (a : Nat) (f : Cell → Cell) (o : Nat) : (h.modCell a f).bf o = h.bf o := rfl
@[simp] theorem Half.bi_modCell (h : Half) (a : Nat) (f : Cell → Cell) (o : Nat) : (h.modCell a f).bi o = h.bi o := rfl
@[simp] theorem Half.bw_modCell (h : Half) (a : Nat) (f : Cell → Cell) (o : Nat) : (h.modCell a f).bw o = h.bw o := rfl
@[simp] theorem Half.reg_modCan (h : Half) (a : Nat) (f : Can → Can) (o : Nat) : (h.modCan a f).reg o = h.reg o := rfl
@[simp] theorem Half.ring_modCan (h : Half) (a : Nat) (f : Can → Can) (i : Nat) : (h.modCan a f).ring i = h.ring i := rfl
@[simp] theorem Half.node_modCan (h : Half) (a : Nat) (f : Can → Can) (i j : Nat) : (h.modCan a f).node i j = h.node i j := rfl
@[simp] theorem Half.cell_modCan (h : Half) (a : Nat) (f : Can → Can) (i : Nat) : (h.modCan a f).cell i = h.cell i := rfl
@[simp] theorem Half.anCh_modCan (h : Half) (a : Nat) (f : Can → Can) (i : Nat) : (h.modCan a f).anCh i = h.anCh i := rfl
@[simp] theorem Half.bn_modCan (h : Half) (a : Nat) (f : Can → Can) (o : Nat) : (h.modCan a f).bn o = h.bn o := rfl
@[simp] theorem Half.bf_modCan (h : Half) (a : Nat) (f : Can → Can) (o : Nat) : (h.modCan a f).bf o = h.bf o := rfl
@[simp] theorem Half.bi_modCan (h : Half) (a : Nat) (f : Can → Can) (o : Nat) : (h.modCan a f).bi o = h.bi o := rfl
@[simp] theorem Half.bw_modCan (h : Half) (a : Nat) (f : Can → Can) (o : Nat) : (h.modCan a f).bw o = h.bw o := rfl
@[simp] theorem Half.reg_modNet (h : Half) (f : Net → Net) (o : Nat) : (h.modNet f).reg o = h.reg o := rfl
@[simp] theorem Half.ring_modNet (h : Half) (f : Net → Net) (i : Nat) : (h.modNet f).ring i = h.ring i := rfl
@[simp] theorem Half.node_modNet (h : Half) (f : Net → Net) (i j : Nat) : (h.modNet f).node i j = h.node i j := rfl
@[simp] theorem Half.cell_modNet (h : Half) (f : Net → Net) (i : Nat) : (h.modNet f).cell i = h.cell i := rfl
@[simp] theorem Half.anCh_modNet (h : Half) (f : Net → Net) (i : Nat) : (h.modNet f).anCh i = h.anCh i := rfl
@[simp] theorem Half.bn_modNet (h : Half) (f : Net → Net) (o : Nat) : (h.modNet f).bn o = h.bn o := rfl
@[simp] theorem Half.bf_modNet (h : Half) (f : Net → Net) (o : Nat) : (h.modNet f).bf o = h.bf o := rfl
@[simp] theorem Half.bi_modNet (h : Half) (f : Net → Net) (o : Nat) : (h.modNet f).bi o = h.bi o := rfl
@[simp] theorem Half.bw_modNet (h : Half) (f : Net → Net) (o : Nat) : (h.modNet f).bw o = h.bw o := rfl
@[simp] theorem Half.reg_modPw (h : Half) (f : Pw → Pw) (o : Nat) : (h.modPw f).reg o = h.reg o := rfl
@[simp] theorem Half.ring_modPw (h : Half) (f : Pw → Pw) (i : Nat) : (h.modPw f).ring i = h.ring i := rfl
@[simp] theorem Half.node_modPw (h : Half) (f : Pw → Pw) (i j : Nat) : (h.modPw f).node i j = h.node i j := rfl
@[simp] theorem Half.cell_modPw (h : Half) (f : Pw → Pw) (i : Nat) : (h.modPw f).cell i = h.cell i := rfl
@[simp] theorem Half.anCh_modPw (h : Half) (f : Pw → Pw) (i : Nat) : (h.modPw f).anCh i = h.anCh i := rfl
@[simp] theorem Half.bn_modPw (h : Half) (f : Pw → Pw) (o : Nat) : (h.modPw f).bn o = h.bn o := rfl
@[simp] theorem Half.bf_modPw (h : Half) (f : Pw → Pw) (o : Nat) : (h.modPw f).bf o = h.bf o := rfl
@[simp] theorem Half.bi_modPw (h : Half) (f : Pw → Pw) (o : Nat) : (h.modPw f).bi o = h.bi o := rfl
@[simp] theorem Half.bw_modPw (h : Half) (f : Pw → Pw) (o : Nat) : (h.modPw f).bw o = h.bw o := rfl
@[simp] theorem Half.reg_modMe (h : Half) (f : Me → Me) (o : Nat) : (h.modMe f).reg o = h.reg o := rfl
@[simp] theorem Half.ring_modMe (h : Half) (f : Me → Me) (i : Nat) : (h.modMe f).ring i = h.ring i := rfl
@[simp] theorem Half.node_modMe (h : Half) (f : Me → Me) (i j : Nat) : (h.modMe f).node i j = h.node i j := rfl
@[simp] theorem Half.cell_modMe (h : Half) (f : Me → Me) (i : Nat) : (h.modMe f).cell i = h.cell i := rfl
@[simp] theorem Half.anCh_modMe (h : Half) (f : Me → Me) (i : Nat) : (h.modMe f).anCh i = h.anCh i := rfl
@[simp] theorem Half.bn_modMe (h : Half) (f : Me → Me) (o : Nat) : (h.modMe f).bn o = h.bn o := rfl
@[simp] theorem Half.bf_modMe (h : Half) (f : Me → Me) (o : Nat) : (h.modMe f).bf o = h.bf o := rfl
@[simp] theorem Half.bi_modMe (h : Half) (f : Me → Me) (o : Nat) : (h.modMe f).bi o = h.bi o := rfl
@[simp] theorem Half.bw_modMe (h : Half) (f : Me → Me) (o : Nat) : (h.modMe f).bw o = h.bw o := rfl
@[simp] theorem Half.reg_modTm (h : Half) (f : Tm → Tm) (o : Nat) : (h.modTm f).reg o = h.reg o := rfl
@[simp] theorem Half.ring_modTm (h : Half) (f : Tm → Tm) (i : Nat) : (h.modTm f).ring i = h.ring i := rfl
@[simp] theorem Half.node_modTm (h : Half) (f : Tm → Tm) (i j : Nat) : (h.modTm f).node i j = h.node i j := rfl
@[simp] theorem Half.cell_modTm (h : Half) (f : Tm → Tm) (i : Nat) : (h.modTm f).cell i = h.cell i := rfl
@[simp] theorem Half.anCh_modTm (h : Half) (f : Tm → Tm) (i : Nat) : (h.modTm f).anCh i = h.anCh i := rfl
@[simp] theorem Half.bn_modTm (h : Half) (f : Tm → Tm) (o : Nat) : (h.modTm f).bn o = h.bn o := rfl
@[simp] theorem Half.bf_modTm (h : Half) (f : Tm → Tm) (o : Nat) : (h.modTm f).bf o = h.bf o := rfl
@[simp] theorem Half.bi_modTm (h : Half) (f : Tm → Tm) (o : Nat) : (h.modTm f).bi o = h.bi o := rfl
@[simp] theorem Half.bw_modTm (h : Half) (f : Tm → Tm) (o : Nat) : (h.modTm f).bw o = h.bw o := rfl
@[simp] theorem Half.reg_modPk (h : Half) (f : Pk → Pk) (o : Nat) : (h.modPk f).reg o = h.reg o := rfl
@[simp] theorem Half.ring_modPk (h : Half) (f : Pk → Pk) (i : Nat) : (h.modPk f).ring i = h.ring i := rfl
@[simp] theorem Half.node_modPk (h : Half) (f : Pk → Pk) (i j : Nat) : (h.modPk f).node i j = h.node i j := rfl
@[simp] theorem Half.cell_modPk (h : Half) (f : Pk → Pk) (i : Nat) : (h.modPk f).cell i = h.cell i := rfl
@[simp] theorem Half.anCh_modPk (h : Half) (f : Pk → Pk) (i : Nat) : (h.modPk f).anCh i = h.anCh i := rfl
@[simp] theorem Half.bn_modPk (h : Half) (f : Pk → Pk) (o : Nat) : (h.modPk f).bn o = h.bn o := rfl
@[simp] theorem Half.bf_modPk (h : Half) (f : Pk → Pk) (o : Nat) : (h.modPk f).bf o = h.bf o := rfl
@[simp] theorem Half.bi_modPk (h : Half) (f : Pk → Pk) (o : Nat) : (h.modPk f).bi o = h.bi o := rfl
@[simp] theorem Half.bw_modPk (h : Half) (f : Pk → Pk) (o : Nat) : (h.modPk f).bw o = h.bw o := rfl
@[simp] theorem Half.reg_modLt (h : Half) (f : Lt → Lt) (o : Nat) : (h.modLt f).reg o = h.reg o := rfl
@[simp] theorem Half.ring_modLt (h : Half) (f : Lt → Lt) (i : Nat) : (h.modLt f).ring i = h.ring i := rfl
@[simp] theorem Half.node_modLt (h : Half) (f : Lt → Lt) (i j : Nat) : (h.modLt f).node i j = h.node i j := rfl
@[simp] theorem Half.cell_modLt (h : Half) (f : Lt → Lt) (i : Nat) : (h.modLt f).cell i = h.cell i := rfl
@[simp] theorem Half.anCh_modLt (h : Half) (f : Lt → Lt) (i : Nat) : (h.modLt f).anCh i = h.anCh i := rfl
@[simp] theorem Half.bn_modLt (h : Half) (f : Lt → Lt) (o : Nat) : (h.modLt f).bn o = h.bn o := rfl
@[simp] theorem Half.bf_modLt (h : Half) (f : Lt → Lt) (o : Nat) : (h.modLt f).bf o = h.bf o := rfl
@[simp] theorem Half.bi_modLt (h : Half) (f : Lt → Lt) (o : Nat) : (h.modLt f).bi o = h.bi o := rfl
@[simp] theorem Half.bw_modLt (h : Half) (f : Lt → Lt) (o : Nat) : (h.modLt f).bw o = h.bw o := rfl
@[simp] theorem Half.reg_modNode (h : Half) (a b : Nat) (f : Node → Node) (o : Nat) : (h.modNode a b f).reg o = h.reg o := rfl
@[simp] theorem Half.cell_modNode (h : Half) (a b : Nat) (f : Node → Node) (i : Nat) : (h.modNode a b f).cell i = h.cell i := rfl
@[simp] theorem Half.anCh_modNode (h : Half) (a b : Nat) (f : Node → Node) (i : Nat) : (h.modNode a b f).anCh i = h.anCh i := rfl
@[simp] theorem Half.bn_modNode (h : Half) (a b : Nat) (f : Node → Node) (o : Nat) : (h.modNode a b f).bn o = h.bn o := rfl
@[simp] theorem Half.bf_modNode (h : Half) (a b : Nat) (f : Node → Node) (o : Nat) : (h.modNode a b f).bf o = h.bf o := rfl
@[simp] theorem Half.bi_modNode (h : Half) (a b : Nat) (f : Node → Node) (o : Nat) : (h.modNode a b f).bi o = h.bi o := rfl
@[simp] theorem Half.bw_modNode (h : Half) (a b : Nat) (f : Node → Node) (o : Nat) : (h.modNode a b f).bw o = h.bw o := rfl
@[simp] theorem Half.ring_put (h : Half) (q : Nat) (v : Word) (i : Nat) : (h.put q v).ring i = h.ring i := rfl
@[simp] theorem Half.node_put (h : Half) (q : Nat) (v : Word) (i j : Nat) : (h.put q v).node i j = h.node i j := rfl
@[simp] theorem Half.cell_put (h : Half) (q : Nat) (v : Word) (i : Nat) : (h.put q v).cell i = h.cell i := rfl
@[simp] theorem Half.anCh_put (h : Half) (q : Nat) (v : Word) (i : Nat) : (h.put q v).anCh i = h.anCh i := rfl
@[simp] theorem Half.bn_put (h : Half) (q : Nat) (v : Word) (o : Nat) : (h.put q v).bn o = h.bn o := rfl
@[simp] theorem Half.bf_put (h : Half) (q : Nat) (v : Word) (o : Nat) : (h.put q v).bf o = h.bf o := rfl
@[simp] theorem Half.bi_put (h : Half) (q : Nat) (v : Word) (o : Nat) : (h.put q v).bi o = h.bi o := rfl
@[simp] theorem Half.bw_put (h : Half) (q : Nat) (v : Word) (o : Nat) : (h.put q v).bw o = h.bw o := rfl
@[simp] theorem Half.ring_putF (h : Half) (q hi lo v : Nat) (i : Nat) : (h.putF q hi lo v).ring i = h.ring i := rfl
@[simp] theorem Half.node_putF (h : Half) (q hi lo v : Nat) (i j : Nat) : (h.putF q hi lo v).node i j = h.node i j := rfl
@[simp] theorem Half.cell_putF (h : Half) (q hi lo v : Nat) (i : Nat) : (h.putF q hi lo v).cell i = h.cell i := rfl
@[simp] theorem Half.anCh_putF (h : Half) (q hi lo v : Nat) (i : Nat) : (h.putF q hi lo v).anCh i = h.anCh i := rfl
@[simp] theorem Half.bn_putF (h : Half) (q hi lo v : Nat) (o : Nat) : (h.putF q hi lo v).bn o = h.bn o := rfl
@[simp] theorem Half.bf_putF (h : Half) (q hi lo v : Nat) (o : Nat) : (h.putF q hi lo v).bf o = h.bf o := rfl
@[simp] theorem Half.bi_putF (h : Half) (q hi lo v : Nat) (o : Nat) : (h.putF q hi lo v).bi o = h.bi o := rfl
@[simp] theorem Half.bw_putF (h : Half) (q hi lo v : Nat) (o : Nat) : (h.putF q hi lo v).bw o = h.bw o := rfl
@[simp] theorem Half.ring_count (h : Half) (q : Nat) (i : Nat) : (h.count q).ring i = h.ring i := rfl
@[simp] theorem Half.node_count (h : Half) (q : Nat) (i j : Nat) : (h.count q).node i j = h.node i j := rfl
@[simp] theorem Half.cell_count (h : Half) (q : Nat) (i : Nat) : (h.count q).cell i = h.cell i := rfl
@[simp] theorem Half.anCh_count (h : Half) (q : Nat) (i : Nat) : (h.count q).anCh i = h.anCh i := rfl
@[simp] theorem Half.bn_count (h : Half) (q : Nat) (o : Nat) : (h.count q).bn o = h.bn o := rfl
@[simp] theorem Half.bf_count (h : Half) (q : Nat) (o : Nat) : (h.count q).bf o = h.bf o := rfl
@[simp] theorem Half.bi_count (h : Half) (q : Nat) (o : Nat) : (h.count q).bi o = h.bi o := rfl
@[simp] theorem Half.bw_count (h : Half) (q : Nat) (o : Nat) : (h.count q).bw o = h.bw o := rfl
@[simp] theorem Half.reg_send (h : Half) (x : Out) (o : Nat) : (h.send x).reg o = h.reg o := rfl
@[simp] theorem Half.ring_send (h : Half) (x : Out) (i : Nat) : (h.send x).ring i = h.ring i := rfl
@[simp] theorem Half.node_send (h : Half) (x : Out) (i j : Nat) : (h.send x).node i j = h.node i j := rfl
@[simp] theorem Half.cell_send (h : Half) (x : Out) (i : Nat) : (h.send x).cell i = h.cell i := rfl
@[simp] theorem Half.anCh_send (h : Half) (x : Out) (i : Nat) : (h.send x).anCh i = h.anCh i := rfl
@[simp] theorem Half.bn_send (h : Half) (x : Out) (o : Nat) : (h.send x).bn o = h.bn o := rfl
@[simp] theorem Half.bf_send (h : Half) (x : Out) (o : Nat) : (h.send x).bf o = h.bf o := rfl
@[simp] theorem Half.bi_send (h : Half) (x : Out) (o : Nat) : (h.send x).bi o = h.bi o := rfl
@[simp] theorem Half.bw_send (h : Half) (x : Out) (o : Nat) : (h.send x).bw o = h.bw o := rfl
@[simp] theorem Half.reg_tether (h : Half) (t : Nat) (m : TMsg) (o : Nat) : (h.tether t m).reg o = h.reg o := by unfold Half.tether; split <;> rfl
@[simp] theorem Half.ring_tether (h : Half) (t : Nat) (m : TMsg) (i : Nat) : (h.tether t m).ring i = h.ring i := by unfold Half.tether; split <;> rfl
@[simp] theorem Half.node_tether (h : Half) (t : Nat) (m : TMsg) (i j : Nat) : (h.tether t m).node i j = h.node i j := by unfold Half.tether; split <;> rfl
@[simp] theorem Half.cell_tether (h : Half) (t : Nat) (m : TMsg) (i : Nat) : (h.tether t m).cell i = h.cell i := by unfold Half.tether; split <;> rfl
@[simp] theorem Half.anCh_tether (h : Half) (t : Nat) (m : TMsg) (i : Nat) : (h.tether t m).anCh i = h.anCh i := by unfold Half.tether; split <;> rfl
@[simp] theorem Half.bn_tether (h : Half) (t : Nat) (m : TMsg) (o : Nat) : (h.tether t m).bn o = h.bn o := by unfold Half.tether; split <;> rfl
@[simp] theorem Half.bf_tether (h : Half) (t : Nat) (m : TMsg) (o : Nat) : (h.tether t m).bf o = h.bf o := by unfold Half.tether; split <;> rfl
@[simp] theorem Half.bi_tether (h : Half) (t : Nat) (m : TMsg) (o : Nat) : (h.tether t m).bi o = h.bi o := by unfold Half.tether; split <;> rfl
@[simp] theorem Half.bw_tether (h : Half) (t : Nat) (m : TMsg) (o : Nat) : (h.tether t m).bw o = h.bw o := by unfold Half.tether; split <;> rfl
@[simp] theorem raise_ring (h : Half) (cx : Cx) (n q : Nat) (v : Word) (i : Nat) : (raise cx n q v h).ring i = h.ring i := by simp [Half.ring]
@[simp] theorem raiseIf_ring (h : Half) (c : Bool) (cx : Cx) (n q : Nat) (v : Word) (i : Nat) : (raiseIf c cx n q v h).ring i = h.ring i := by simp [Half.ring]
@[simp] theorem raise_node (h : Half) (cx : Cx) (n q : Nat) (v : Word) (i j : Nat) : (raise cx n q v h).node i j = h.node i j := by simp [Half.node]
@[simp] theorem raiseIf_node (h : Half) (c : Bool) (cx : Cx) (n q : Nat) (v : Word) (i j : Nat) : (raiseIf c cx n q v h).node i j = h.node i j := by simp [Half.node]
@[simp] theorem raise_anCh (h : Half) (cx : Cx) (n q : Nat) (v : Word) (i : Nat) : (raise cx n q v h).anCh i = h.anCh i := by simp [Half.anCh]
@[simp] theorem raiseIf_anCh (h : Half) (c : Bool) (cx : Cx) (n q : Nat) (v : Word) (i : Nat) : (raiseIf c cx n q v h).anCh i = h.anCh i := by simp [Half.anCh]
@[simp] theorem settle_reg (h : Half) (cx : Cx) (o : Nat) : (settle cx h).reg o = h.reg o := by simp [Half.reg]
@[simp] theorem settle_ring (h : Half) (cx : Cx) (i : Nat) : (settle cx h).ring i = h.ring i := by simp [Half.ring]
@[simp] theorem settle_node (h : Half) (cx : Cx) (i j : Nat) : (settle cx h).node i j = h.node i j := by simp [Half.node]
@[simp] theorem settle_cell (h : Half) (cx : Cx) (i : Nat) : (settle cx h).cell i = h.cell i := by simp [Half.cell]
@[simp] theorem settle_anCh (h : Half) (cx : Cx) (i : Nat) : (settle cx h).anCh i = h.anCh i := by simp [Half.anCh]

end Sys2Proof.Machine
end

