-- ==== Sys2Proof/Laws/Does.lean ====
section
/-! SUPPORT. How a statement that a command does something is proved: from what its effect does to its own half, and what
the standing conditions leave of that. -/
namespace Sys2Proof.Machine

/-- The parts that are not named are equal. -/
structure Kept (ps : List Part) (h h' : Half) : Prop where
  part : ∀ p, p ∉ ps → p.eq h h'

theorem Kept.refl (ps : List Part) (h : Half) : Kept ps h h := by
  constructor; intro p _; cases p <;> simp [Part.eq]

theorem Kept.trans {ps : List Part} {a b c : Half} (h1 : Kept ps a b) (h2 : Kept ps b c) : Kept ps a c := by
  constructor
  intro p hp
  have e1 := h1.part p hp
  have e2 := h2.part p hp
  cases p <;> simp only [Part.eq] at e1 e2 ⊢
  case role => exact ⟨e2.1.trans e1.1, e2.2.1.trans e1.2.1, e2.2.2.trans e1.2.2⟩
  case glb => rw [e2, e1]
  all_goals exact e2.trans e1

/-- An update of part q, put after what keeps the parts, keeps them where q is named. -/
theorem Kept.next {ps : List Part} {a b c : Half} (q : Part) (h1 : Kept ps a b) (hq : q ∈ ps) (h2 : ∀ p, p ≠ q → p.eq b c) :
    Kept ps a c :=
  h1.trans ⟨fun p hp => h2 p (fun e => hp (e ▸ hq))⟩

/-- A reaction keeps what lies outside its reach. -/
theorem Reacts.kept {os : List Nat} {ps : List Part} {a b c : Half} (h1 : Kept ps a b) (hs : reaction ⊆ ps) (r : Reacts os b c) :
    Kept ps a c := h1.trans ⟨fun p hp => r.part p (fun hm => hp (hs hm))⟩

section updates
variable {ps : List Part} {a h : Half}

theorem kept_put (o : Nat) (v : Word) (k : Kept ps a h) (hq : .regs ∈ ps) : Kept ps a (h.put o v) :=
  k.next .regs hq fun p hp => by cases p <;> simp at hp <;> simp [Part.eq]
theorem kept_putF (o hi lo v : Nat) (k : Kept ps a h) (hq : .regs ∈ ps) : Kept ps a (h.putF o hi lo v) := kept_put o _ k hq
theorem kept_count (o : Nat) (k : Kept ps a h) (hq : .regs ∈ ps) : Kept ps a (h.count o) := kept_put o _ k hq
theorem kept_send (o : Out) (k : Kept ps a h) (hq : .out ∈ ps) : Kept ps a (h.send o) :=
  k.next .out hq fun p hp => by cases p <;> simp at hp <;> simp [Part.eq]
theorem kept_tether (t : Nat) (m : TMsg) (k : Kept ps a h) (hq : .out ∈ ps) : Kept ps a (h.tether t m) := by
  unfold Half.tether; split
  · exact k
  · exact kept_send _ k hq
theorem kept_raise (cx : Cx) (s arg : Nat) (v : Word) (k : Kept ps a h) (hq : reaction ⊆ ps) : Kept ps a (raise cx s arg v h) :=
  (reacts_raise cx s arg v h).kept k hq
theorem kept_raiseIf (c : Bool) (cx : Cx) (s arg : Nat) (v : Word) (k : Kept ps a h) (hq : reaction ⊆ ps) :
    Kept ps a (raiseIf c cx s arg v h) := (reacts_raiseIf c cx s arg v h).kept k hq
theorem kept_modSd (f : Sd → Sd) (k : Kept ps a h) (hq : .sd ∈ ps) : Kept ps a (h.modSd f) :=
  k.next .sd hq fun p hp => by cases p <;> simp at hp <;> simp [Part.eq]
theorem kept_modHi (f : Hi → Hi) (k : Kept ps a h) (hq : .hi ∈ ps) : Kept ps a (h.modHi f) :=
  k.next .hi hq fun p hp => by cases p <;> simp at hp <;> simp [Part.eq]
theorem kept_modAn (f : An → An) (k : Kept ps a h) (hq : .an ∈ ps) : Kept ps a (h.modAn f) :=
  k.next .an hq fun p hp => by cases p <;> simp at hp <;> simp [Part.eq]
theorem kept_modOx (f : Ox → Ox) (k : Kept ps a h) (hq : .ox ∈ ps) : Kept ps a (h.modOx f) :=
  k.next .ox hq fun p hp => by cases p <;> simp at hp <;> simp [Part.eq]
theorem kept_modLv (f : Lv → Lv) (k : Kept ps a h) (hq : .lv ∈ ps) : Kept ps a (h.modLv f) :=
  k.next .lv hq fun p hp => by cases p <;> simp at hp <;> simp [Part.eq]
theorem kept_modXf (f : Xfer → Xfer) (k : Kept ps a h) (hq : .xf ∈ ps) : Kept ps a (h.modXf f) :=
  k.next .xf hq fun p hp => by cases p <;> simp at hp <;> simp [Part.eq]
theorem kept_modTh (f : Th → Th) (k : Kept ps a h) (hq : .th ∈ ps) : Kept ps a (h.modTh f) :=
  k.next .th hq fun p hp => by cases p <;> simp at hp <;> simp [Part.eq]
theorem kept_modTb (f : Tb → Tb) (k : Kept ps a h) (hq : .tb ∈ ps) : Kept ps a (h.modTb f) :=
  k.next .tb hq fun p hp => by cases p <;> simp at hp <;> simp [Part.eq]
theorem kept_modCk (f : Ck → Ck) (k : Kept ps a h) (hq : .ck ∈ ps) : Kept ps a (h.modCk f) :=
  k.next .ck hq fun p hp => by cases p <;> simp at hp <;> simp [Part.eq]
theorem kept_modPw (f : Pw → Pw) (k : Kept ps a h) (hq : .pw ∈ ps) : Kept ps a (h.modPw f) :=
  k.next .pw hq fun p hp => by cases p <;> simp at hp <;> simp [Part.eq]
theorem kept_modTm (f : Tm → Tm) (k : Kept ps a h) (hq : .tm ∈ ps) : Kept ps a (h.modTm f) :=
  k.next .tm hq fun p hp => by cases p <;> simp at hp <;> simp [Part.eq]
theorem kept_modMe (f : Me → Me) (k : Kept ps a h) (hq : .me ∈ ps) : Kept ps a (h.modMe f) :=
  k.next .me hq fun p hp => by cases p <;> simp at hp <;> simp [Part.eq]
theorem kept_modNet (f : Net → Net) (k : Kept ps a h) (hq : .net ∈ ps) : Kept ps a (h.modNet f) :=
  k.next .net hq fun p hp => by cases p <;> simp at hp <;> simp [Part.eq]
theorem kept_modPk (f : Pk → Pk) (k : Kept ps a h) (hq : .pk ∈ ps) : Kept ps a (h.modPk f) :=
  k.next .pk hq fun p hp => by cases p <;> simp at hp <;> simp [Part.eq]
theorem kept_modLt (f : Lt → Lt) (k : Kept ps a h) (hq : .lt ∈ ps) : Kept ps a (h.modLt f) :=
  k.next .lt hq fun p hp => by cases p <;> simp at hp <;> simp [Part.eq]
theorem kept_modRing (i : Nat) (f : Ring → Ring) (k : Kept ps a h) (hq : .rings ∈ ps) : Kept ps a (h.modRing i f) :=
  k.next .rings hq fun p hp => by cases p <;> simp at hp <;> simp [Part.eq]
theorem kept_modSvc (i : Nat) (f : RingSvc → RingSvc) (k : Kept ps a h) (hq : .svc ∈ ps) : Kept ps a (h.modSvc i f) :=
  k.next .svc hq fun p hp => by cases p <;> simp at hp <;> simp [Part.eq]
theorem kept_modCell (i : Nat) (f : Cell → Cell) (k : Kept ps a h) (hq : .cells ∈ ps) : Kept ps a (h.modCell i f) :=
  k.next .cells hq fun p hp => by cases p <;> simp at hp <;> simp [Part.eq]
theorem kept_modCan (i : Nat) (f : Can → Can) (k : Kept ps a h) (hq : .can ∈ ps) : Kept ps a (h.modCan i f) :=
  k.next .can hq fun p hp => by cases p <;> simp at hp <;> simp [Part.eq]
theorem kept_modNode (i p : Nat) (f : Node → Node) (k : Kept ps a h) (hq : .rings ∈ ps) : Kept ps a (h.modNode i p f) :=
  kept_modRing i _ k hq
theorem kept_modGlb (f : Glb → Glb) (k : Kept ps a h) (hq : .glb ∈ ps)
    (hd : (f h.glb).dev = h.glb.dev ∧ (f h.glb).role = h.glb.role ∧ (f h.glb).own = h.glb.own) : Kept ps a (h.modGlb f) :=
  k.next .glb hq fun p hp => by cases p <;> simp at hp <;> simp [Part.eq, hd]
/-- A choice keeps what both branches keep. -/
theorem kept_ite {c : Prop} [Decidable c] {x y : Half} (hx : Kept ps a x) (hy : Kept ps a y) : Kept ps a (if c then x else y) := by
  split
  · exact hx
  · exact hy
theorem kept_gate {c : Bool} {f : Half → Half} (k : Kept ps a h) (hf : Kept ps a (f h)) : Kept ps a (gate c f h) := by
  unfold gate; split
  · exact hf
  · exact k
/-- A fold keeps what its step keeps. -/
theorem kept_fold {α : Type} (l : List α) (f : Half → α → Half) (hf : ∀ g x, Kept ps a g → Kept ps a (f g x)) (k : Kept ps a h) :
    Kept ps a (l.foldl f h) := by
  induction l generalizing h with
  | nil => exact k
  | cons x l ih => exact ih (hf _ x k)

end updates

theorem gate_pos {c : Bool} {f : Half → Half} {h : Half} (hc : c = true) : gate c f h = f h := by simp [gate, hc]
theorem gate_neg {c : Bool} {f : Half → Half} {h : Half} (hc : c = false) : gate c f h = h := by simp [gate, hc]

/-- A device state that the conditions of R29 give stays in service, or stays what it was. -/
theorem settleDev_inService (h : Half) : (settleDev h).inService = h.glb.dev.inService := by
  unfold settleDev
  cases h.glb.dev <;> simp only [] <;> (repeat' split) <;> rfl

theorem settleDev_out (h : Half) (hd : h.glb.dev.inService = false) : settleDev h = h.glb.dev := by
  unfold settleDev
  revert hd
  cases h.glb.dev <;> simp [DevState.inService]

@[simp] theorem settle_dev (cx : Cx) (h : Half) : (settle cx h).glb.dev = settleDev h := by
  obtain ⟨m, o, p, e⟩ := settle_eq cx h; rw [e]

@[simp] theorem settle_role (cx : Cx) (h : Half) : (settle cx h).glb.role = settleRole (settleDev h) h.glb.role := by
  obtain ⟨m, o, p, e⟩ := settle_eq cx h; rw [e]

/-- The pads stay driven only where nothing takes them away. -/
theorem settle_own (cx : Cx) (h : Half) : (settle cx h).glb.own = true → h.glb.own = true := by
  obtain ⟨m, o, p, e⟩ := settle_eq cx h
  rw [e]
  intro hh
  simp only [settleOwn, Bool.and_eq_true] at hh
  exact hh.1.1.1

/-- The global block but for the device state, the role and the pads. -/
theorem settle_glb (cx : Cx) (h : Half) : (settle cx h).glb =
    { h.glb with dev := (settle cx h).glb.dev, role := (settle cx h).glb.role, own := (settle cx h).glb.own } := by
  obtain ⟨m, o, p, e⟩ := settle_eq cx h; rw [e]

/-- The CAN controllers follow R413. -/
theorem settle_can (cx : Cx) (h : Half) :
    (settle cx h).can = h.can.map (settleCan (settle cx h).glb.dev (settle cx h).glb.role) := by
  obtain ⟨m, o, p, e⟩ := settle_eq cx h; rw [e]

/-- What an effect leaves alone, the standing conditions leave as a frame says. -/
theorem framed_settle (cx : Cx) (ps : List Part) (h h1 : Half) (k : Kept ps h h1)
    (ho : .out ∉ ps → h.me.trig = [] → h1.me.trig = []) : Framed ps h (settle cx h1) := by
  intro p hp
  have e := k.part p hp
  cases p <;> simp only [Part.eq, Part.same] at e ⊢
  case role =>
    refine ⟨by rw [settle_role, settle_dev, e.2.1], by rw [settle_dev, settleDev_inService, e.1], ?_, ?_⟩
    · intro hd; rw [settle_dev, settleDev_out h1 (by rw [e.1]; exact hd), e.1]
    · intro ho'; rw [← e.2.2]; exact settle_own cx h1 ho'
  case glb =>
    rw [settle_glb]
    rw [e]
  case th =>
    obtain ⟨a, b, ht⟩ := settle_th cx h1
    rw [ht, e]
  case can => rw [settle_can, e]
  case pw => intro hq; rw [settle_pw cx h1 (by rw [e]; exact hq), e]
  case me => intro hq; rw [settle_me cx h1 (by rw [e]; exact hq), e]
  case out => intro hq; rw [settle_out cx h1 (ho hp hq), e]
  all_goals simp [e]

/-- What a command's effect leaves alone, the command leaves alone. -/
theorem framed_of {i : Instr} {s t : State} {e : Evt} {p : Half → Bool} {f : Cx → Half → Half} {ps : List Part}
    (hev : i.evt = e) (he : exec i s = .next (s.onIf p e f)) (ht : exec i s = .next t)
    (hk : Kept ps (s.at e) (f (s.cx e) (s.at e))) (hm : .me ∉ ps ∨ .out ∈ ps) :
    Framed ps (s.at i.evt) (t.half i.evt.half) := by
  subst hev
  rw [he] at ht
  injection ht with ht
  subst ht
  have ho : .out ∉ ps → (s.at i.evt).me.trig = [] → (f (s.cx i.evt) (s.at i.evt)).me.trig = [] := by
    intro h1 h2
    have hme : (f (s.cx i.evt) (s.at i.evt)).me = (s.at i.evt).me := hk.part .me (hm.resolve_right h1)
    rw [hme]; exact h2
  rw [State.onIf_half]
  split
  · exact framed_settle _ _ _ _ hk ho
  · exact framed_settle _ _ _ _ (.refl _ _) (fun _ h => h)

/-- A command leaves the registers alone that its effect leaves alone. -/
theorem onlyRegs_of {i : Instr} {s t : State} {e : Evt} {p : Half → Bool} {f : Cx → Half → Half} {os : List Nat}
    (hev : i.evt = e) (he : exec i s = .next (s.onIf p e f)) (ht : exec i s = .next t)
    (hk : OnlyRegs os (s.at e) (f (s.cx e) (s.at e))) : OnlyRegs os (s.at i.evt) (t.half i.evt.half) := by
  subst hev
  rw [he] at ht
  injection ht with ht
  subst ht
  rw [State.onIf_half]
  intro o ho
  rw [Half.reg_of_regs (settle_regs _ _)]
  split
  · exact hk o ho
  · rfl

/-- A command does what its effect does, and the standing conditions. -/
theorem does_of {i : Instr} {s : State} {e : Evt} {p : Half → Bool} {f : Cx → Half → Half} {P : Half → Prop}
    (hev : i.evt = e) (he : exec i s = .next (s.onIf p e f)) (hp : p (s.at e) = true)
    (hP : P (settle (s.cx e) (f (s.cx e) (s.at e)))) : Does i s P := by
  subst hev
  refine ⟨_, he, ?_⟩
  rw [State.onIf_half, if_pos hp]; exact hP

end Sys2Proof.Machine
end

