-- ==== Sys2Proof/WellFormed.lean ====
section
/-! DEFINITION. Which commands the outside can give: the limits that the spec sets on the content of each. The
meanings are total and do not rely on them. -/
namespace Sys2Proof

/-- A fence's unit exists (R261). -/
def FUnit.wf : FUnit → Bool
  | .ctx c => decide (c < 144)
  | .ring k => decide (k < 12)
  | .conv _ n => decide (n < 24)
  | .eth p => decide (p < 2)
  | .can i => decide (i < 2)
  | _ => true

/-- A service frame holds at most 32 data blocks (R84, R85). -/
def SvcFrame.wf (f : SvcFrame) : Bool := decide (f.data.length ≤ 32)

/-- The fields of an event record fit their widths (R346). -/
def EvRec.wf (r : EvRec) : Bool := decide (r.source < 256 ∧ r.sev ≤ 6 ∧ r.arg < 65536)

/-- The fields of a HEARTBEAT are in range (R289). -/
def Heartbeat.wf (m : Heartbeat) : Bool :=
  decide (m.role ≤ 5 ∧ m.dev ≤ 5 ∧ m.throttle ≤ 2 ∧ m.fences ≤ 15 ∧ m.clean ≤ 65535)

/-- A SNAPSHOT header carries five words of fences and a throttle level (R149, R199). -/
def SnapMsg.wf : SnapMsg → Bool
  | .header _ _ _ _ f t => decide (f.length = 5 ∧ t ≤ 2)
  | .digest _ => true

/-- A RELAY message (R286). -/
def RelayMsg.wf : RelayMsg → Bool
  | .wrap _ pos _ => decide (1 ≤ pos ∧ pos ≤ 16)
  | .svc _ f => f.wf
  | .record r => r.wf
  | .fence u => u.wf
  | .hops _ _ _ sp cu => decide (sp.length ≤ 17 ∧ cu.length ≤ 16)
  | .recOpen n _ => decide (n < 65536)
  | .trigger c => match c with
    | .source s => decide (s < 256)
    | .signal s => decide (s < 4096)
    | .goose p => decide (p < 64)
    | .command => true
  | _ => true

/-- An Announce message's fields fit their widths (R387). -/
def AnnounceMsg.wf (m : AnnounceMsg) : Bool :=
  decide (m.domain < 256 ∧ m.prio1 < 256 ∧ m.cls < 256 ∧ m.acc < 256 ∧ m.var < 65536 ∧ m.prio2 < 256 ∧ m.steps < 65536) &&
  decide (-128 ≤ m.logInt ∧ m.logInt ≤ 127)

/-- A CAN frame: at most 64 bytes, or 8 without FDF; an 11-bit identifier leaves bits 17:0 at 0 (R428). -/
def CanFrame.wf (f : CanFrame) : Bool :=
  decide (f.data.length ≤ if f.fdf then 64 else 8) && (f.ide || decide (f.id.toNat % 2 ^ 18 = 0)) && !(f.fdf && f.rtr)

/-- An image has a header of 512 bytes (header table of chapter 16). -/
def Image.wf (i : Image) : Bool := decide (i.head.length = 512)

/-- An access through BAR0, BAR2 or BAR4 (R526). -/
def Access.wf (x : Access) : Bool := (x.bar == 0 || x.bar == 2 || x.bar == 4) && decide (x.offset < 2 ^ 20 ∧ 1 ≤ x.dwords)

/-- A command keeps the limits of its content. -/
def Instr.WellFormed : Instr → Bool
  | .ctleSelect _ _ eyes => decide (eyes.length = 16)
  | .dfeUpdate _ _ _ ds => decide (ds.length = 5)
  | .enumReply _ _ f => f.wf
  | .ack _ _ f => f.wf
  | .wave _ _ f => f.wf
  | .nodeEvent _ _ f => f.wf
  | .anWordsSend _ bits _ => decide (bits.length = 24)
  | .anWords _ ws => decide (ws.length = 24)
  | .fenceEffect _ u => u.wf
  | .heartbeat _ m => m.wf
  | .snapshot _ m => m.wf
  | .relay _ m => m.wf
  | .pcieLinkUp _ sp w => decide (1 ≤ sp ∧ sp ≤ 4 ∧ 1 ≤ w ∧ w ≤ 2)
  | .announce _ _ m => m.wf
  | .sync _ _ m => decide (m.domain < 256)
  | .followUp _ _ m => decide (m.domain < 256)
  | .goose _ _ f => decide (f.gocbRef.length ≤ 64)
  | .canRxFrame e _ f => f.wf && decide (f.sof ≤ e.time)
  | .canRxError _ _ inc => inc == 1 || inc == 8
  | .protectivePowerDown _ cause => decide (5 ≤ cause ∧ cause ≤ 10)
  | .bootComplete _ f => f.fw0.wf && f.fw1.wf && f.cfg0.wf && f.cfg1.wf
  | .stageComplete _ i => i.wf
  | .misaligned _ x => x.wf
  | .unmapped _ x => x.wf
  | .domainOff _ x => x.wf
  | .w1cClear _ off _ => decide (off < 2 ^ 20)
  | .counterClear _ off _ => decide (off < 2 ^ 20)
  | .registerWrite _ off _ => decide (off < 2 ^ 20)
  | _ => true

end Sys2Proof
end

