-- ==== Sys2Proof/Tests/Slice0.lean ====
section
/-! SUPPORT. Tests: what the well-formedness checks refuse, numbers that the spec works out, one step of small states, and
for each statement with hypotheses a state and operands that meet the hypotheses of each of its clauses. -/
set_option Elab.async false
namespace Sys2Proof.Tests
open Sys2Proof Sys2Proof.Machine

/-! ### States of the tests -/

/-- The instant of the tests. -/
def now : Nat := 20000000000000

/-- A command of the tests comes to Half A at that instant. -/
def ev : Evt := ⟨.a, now⟩

/-- A half in service, all of it powered and clocked, 20 µs into cycle 7. -/
def base (i : HalfId) : Half :=
  let h := Half.init i
  { h with
    glb := { h.glb with dev := .configured, role := .active, started := true, cycle := 7, t0 := now - tUs 20,
                        nextT0 := 250000100000 * 2 ^ 32 }
    hi := { h.hi with speed := 4, width := 1 }
    th := { h.th with lanesTx := 3, lanesRx := 3, hbOk := true, hbAt := now }
    tb := { h.tb with now := 250000000000 * 2 ^ 32, epoch := 249999980000 * 2 ^ 32 }
    ck := { h.ck with xtalOk := true, refOk := true, pll := Vector.replicate 6 ⟨true, true, false, 0, true, 0⟩ }
    net := { h.net with ports := Vector.replicate 2 { (default : Port) with link := true } }
    pw := { h.pw with rails := Vector.replicate 7 true, up := 31, grp := 15 } }

/-- The package with Half A changed by f; Half B is STANDBY. -/
def st (f : Half → Half) : State :=
  ⟨now, f (base .a), (base .b).modGlb (fun g => { g with role := .standby }), []⟩

/-- Half A of that state as a command of the tests finds it. -/
def A (f : Half → Half) : Half := (st f).at ev

/-- Fields of the live bank. -/
def bank (l : List (Nat × Nat)) (h : Half) : Half :=
  h.modGlb fun g => { g with live := l.foldl (fun b x => WMap.set bankDefault b x.1 (BitVec.ofNat 32 x.2)) g.live }

/-- Registers. -/
def regs (l : List (Nat × Nat)) (h : Half) : Half := l.foldl (fun h x => h.put x.1 (BitVec.ofNat 32 x.2)) h

/-- The role and the device state. -/
def as (r : Role) (d : DevState) (h : Half) : Half := h.modGlb fun g => { g with role := r, dev := d }

/-- What a command leaves in Half A. -/
def after (i : Instr) (f : Half → Half) : Option Half :=
  match exec i (st f) with
  | .next t => some (t.half .a)
  | _ => none

/-! ### Well-formedness: each check refuses a command that breaks it -/

def frame33 : SvcFrame := ⟨0, List.replicate 33 0, 0⟩
def image0 : Image := default

theorem test_wf_eyes : (Instr.ctleSelect ev 0 []).WellFormed = false := by decide
theorem test_wf_decisions : (Instr.dfeUpdate ev 0 1 [1, 1]).WellFormed = false := by decide
theorem test_wf_service_frame : (Instr.enumReply ev 0 frame33).WellFormed = false ∧
    (Instr.ack ev 0 frame33).WellFormed = false ∧ (Instr.wave ev 0 frame33).WellFormed = false ∧
    (Instr.nodeEvent ev 0 frame33).WellFormed = false := by decide
theorem test_wf_words : (Instr.anWordsSend ev [[true]] 0).WellFormed = false ∧
    (Instr.anWords ev [(0, 0)]).WellFormed = false := by decide
theorem test_wf_fence_unit : (Instr.fenceEffect ev (.ctx 144)).WellFormed = false ∧
    (Instr.fenceEffect ev (.ring 12)).WellFormed = false ∧ (Instr.fenceEffect ev (.conv .a 24)).WellFormed = false ∧
    (Instr.fenceEffect ev (.eth 2)).WellFormed = false ∧ (Instr.fenceEffect ev (.can 2)).WellFormed = false := by decide
theorem test_wf_heartbeat : (Instr.heartbeat ev ⟨6, 0, 0, 0, false, 0, false, 0, 0, 0⟩).WellFormed = false := by decide
theorem test_wf_snapshot : (Instr.snapshot ev (.header 0 0 0 0 [] 0)).WellFormed = false := by decide
theorem test_wf_relay : (Instr.relay ev (.wrap 0 17 false)).WellFormed = false ∧
    (Instr.relay ev (.svc 0 frame33)).WellFormed = false ∧ (Instr.relay ev (.fence (.ring 12))).WellFormed = false ∧
    (Instr.relay ev (.record ⟨256, 0, .a, false, 0, 0, 0, 0, 0⟩)).WellFormed = false ∧
    (Instr.relay ev (.hops 0 0 0 (List.replicate 18 0) [])).WellFormed = false ∧
    (Instr.relay ev (.recOpen 65536 0)).WellFormed = false ∧ (Instr.relay ev (.trigger (.source 256))).WellFormed = false ∧
    (Instr.relay ev (.trigger (.signal 4096))).WellFormed = false ∧
    (Instr.relay ev (.trigger (.goose 64))).WellFormed = false := by decide
theorem test_wf_link : (Instr.pcieLinkUp ev 5 1).WellFormed = false ∧ (Instr.pcieLinkUp ev 4 3).WellFormed = false := by decide
theorem test_wf_ptp : (Instr.announce ev 0 { (default : AnnounceMsg) with logInt := 128 }).WellFormed = false ∧
    (Instr.sync ev 0 { (default : SyncMsg) with domain := 256 }).WellFormed = false ∧
    (Instr.followUp ev 0 { (default : SyncMsg) with domain := 256 }).WellFormed = false := by decide
theorem test_wf_goose : (Instr.goose ev 0 { (default : GooseFrame) with gocbRef := List.replicate 65 65 }).WellFormed = false := by
  decide
theorem test_wf_can : (Instr.canRxFrame ev 0 { (default : CanFrame) with id := 1 }).WellFormed = false ∧
    (Instr.canRxFrame ev 0 { (default : CanFrame) with data := List.replicate 9 0 }).WellFormed = false ∧
    (Instr.canRxError ev 0 2).WellFormed = false := by decide
theorem test_wf_power_down : (Instr.protectivePowerDown ev 4).WellFormed = false ∧
    (Instr.protectivePowerDown ev 11).WellFormed = false := by decide
theorem test_wf_images : (Instr.stageComplete ev image0).WellFormed = false ∧
    (Instr.bootComplete ev ⟨false, false, false, false, image0, image0, image0, image0⟩).WellFormed = false := by decide
theorem test_wf_accesses : (Instr.misaligned ev ⟨1, 0, false, 0, 1⟩).WellFormed = false ∧
    (Instr.unmapped ev ⟨0, 2 ^ 20, false, 0xF, 1⟩).WellFormed = false ∧ (Instr.domainOff ev ⟨3, 0, true, 0xF, 1⟩).WellFormed = false ∧
    (Instr.w1cClear ev (2 ^ 20) 0).WellFormed = false ∧ (Instr.counterClear ev (2 ^ 20) 0).WellFormed = false ∧
    (Instr.registerWrite ev (2 ^ 20) 0).WellFormed = false := by decide
theorem test_wf_accepts : (Instr.t0 ev).WellFormed = true ∧ (Instr.canRxError ev 0 8).WellFormed = true ∧
    (Instr.misaligned ev ⟨4, 6, true, 0xF, 1⟩).WellFormed = true := by decide

/-! ### Numbers that the spec works out -/

/-- MREF at the Byane peak (after R167): 28,169 V over 32 × 1,100 V gives 0x666F. -/
theorem test_mref_byane_peak : F32.toQ15 (F32.div (F32.ofNat 28169) (F32.ofNat 35200)) = 0x666F#16 := by decide +kernel

/-- A Byane cell (after R165): its settings, at v_c and with the cluster current that gives it 41,667 W. -/
def byane (v : Nat) : Half :=
  let h := bank [(BK.CYCLE_TC_TICKS, 2500), (BK.OX_K_DB, 32), (BK.OX_DAB_FSW, 20000), (BK.OX_CLUSTER 0, 0)] (base .a)
  let ws : List (Nat × Word) := [(BK.OX_C_NOM 0, F32.ofRat 15 10000), (BK.OX_L_NOM 0, F32.ofRat 120 1000000),
    (BK.OX_DAB_N, F32.ofRat 1375 1000), (BK.OX_P_CELL_MAX, F32.ofNat 100000), (BK.OX_DAB_DMAX, F32.ofRat 45 100),
    (BK.OX_V_DAB_MIN, F32.ofNat 100)]
  let h := h.modGlb fun g => { g with live := ws.foldl (fun b x => WMap.set bankDefault b x.1 x.2) g.live }
  { (h.modCell 0 fun c => { c with rcd := { c.rcd with vdc := 16 * v }, mprev := F32.one, st := .active }) with
    ox := { h.ox with vlv := F32.ofNat 800, ix := Vector.replicate 3 (F32.div (F32.ofNat 41667) (F32.ofNat v)) }
    lt := { h.lt with bus := [(1539, F32.ofNat 1100)] } }

theorem test_dab_at_reference : F32.toQ15 (dabLaw (byane 1100) 0 true).d = 0x1ABF#16 := by decide +kernel
theorem test_dab_one_volt_low : F32.toQ15 (dabLaw (byane 1099) 0 true).d = 0x1685#16 := by decide +kernel

/-- The 64-bit read of chapter 19: both its doublewords are flagged as one access, and a write of 1 frees the capture. -/
theorem test_access_64_bit_read :
    ((after (.misaligned ev ⟨0, 0x14, false, 0xF, 2⟩) id).map fun h => (h.reg RG.GLB_ACC_ERR, h.reg RG.GLB_ACC_ADDR)) =
      some (0x00010001#32, 0x9E000014#32) := by decide +kernel

/-- Ring 5 with twelve nodes of 12.0 ns and the spans of the example of chapter 2: T_S and T_A of chapter 1. -/
def ring5 (h : Half) : Half :=
  bank [(BK.HERD_RING_EN 5, 1)] (h.modRing 5 fun r => { r with
    hops := 12, src := 1, nslot := 12, nslotUse := 12, cuts := List.replicate 12 120, spans := List.replicate 6 50 ++ [150] ++ List.replicate 6 50 })

theorem test_longer_link_offsets : (needOf (A ring5)).ts = 508 ∧ (needOf (A ring5)).ta = 1016 ∧
    ringSums ((A ring5).ring 5) = (2140, 2140) := by decide +kernel

/-- Addresses that chapter 10 gives. -/
theorem test_bank_addresses : BK.OX_K_CB = 0x4020 ∧ BK.LT_SINK_INIT 3 = 0x900C := by decide

/-- A period of pair P6 of chapter 7: PERIOD 9,600, DT 1,280, MINP 640. -/
def p6 (stretch : Bool) (c : Nat) (before drop : Bool) (bs : Nat) (g : Gen) : Gen × Nat × Bool :=
  Gen.period ⟨true, 9600, 49010 * 16 / 5, c, before, drop⟩
    { (default : PairPar) with dt := 1280, minp := 640, stretch := stretch, bsN := bs, bsTmin := 640 } g

/-- The stretched pulse of pair P6 (chapter 7): 2 × 384 fine units about the valley at 73,010 ns become 1,920. With DROP it
is not produced. -/
theorem test_short_pulse_stretched :
    (let x := p6 true 384 false false 0 ⟨31010 * 16 / 5, false, 1920, 0, []⟩
     x.2.1 = 1 ∧ x.1.es.map (fun s => s.1 * 5 / 16) = [72710, 73310]) ∧
    (let x := p6 false 384 false false 0 ⟨31010 * 16 / 5, false, 1920, 0, []⟩; x.2.1 = 1 ∧ x.1.es = []) := by decide +kernel

/-- A gap that DROP does not produce goes on while C is 0 (R226); a gap with too little L on counts when it ends (R228). -/
theorem test_dropped_gap_goes_on :
    (let x := p6 false 0 false true 0 ⟨0, true, 1920, 0, []⟩; x.1.es = [] ∧ x.2.2 = true) ∧
    (p6 true 76800 false false 3 ⟨49010 * 16 / 5 - 1500, false, 0, 0, []⟩).1.bs = 2 := by decide +kernel

/-- The retarget of chapter 14 in a STANDBY half: from 800 mV toward 850 mV at 1 mV/µs, 820 mV after 20 µs. -/
theorem test_retarget_standby :
    let f := fun h => (as .standby .running (regs [(RG.PWR_VCFG, 0x400), (RG.PWR_VTAB 3, 850), (RG.PWR_VTAB 2, 800), (RG.PWR_VTAB 1, 750)] h)).modPw
      fun p => { p with sel := 2, set := 3200, target := 3200 }
    (after (.pwrVcfg ev 0x407#32) f).map (fun h => (h.pw.slewing, h.pw.target, setNow (now + tUs 20) h)) = some (true, 3400, 3280) := by
  decide +kernel

/-! ### Witnesses: states and operands that meet the hypotheses of each clause of a statement -/

/-- Ring 0 as f makes it, enabled, with 16 hops and its lane UP. -/
def onRing (f : Ring → Ring) (h : Half) : Half :=
  bank [(BK.HERD_RING_EN 0, 1)] (h.modRing 0 fun r => f { r with lane := .up, hops := 16 })

/-- Context 0 bound to position 1 of ring 0. -/
def bound (s : CellState) (h : Half) : Half :=
  h.modCell 0 fun c => { c with bound := true, ring := 0, pos := 1, st := s }

/-- A frame from position 1 to the half. -/
def reply (kind : Nat) (data : List Block) : SvcFrame :=
  let s : Block := fld 0x78 0 ||| fld 1 13 ||| fld kind 20 ||| fld data.length 28
  ⟨s, data, svcEnd s data⟩

/-- A pair of blocks with its CRC. -/
def pairCrc (b0 b1 : Block) : Block := withCrc b1 (crc16Pair b0 b1)

theorem witness_LaneStatesMove :
    (let h := A fun h => h; h.runs = true ∧ laneOn h = true ∧ (h.ring 0).lane = .down) ∧
    (let h := A fun h => h.modRing 0 fun r => { r with lane := .signal, ctleDone := true }
     (h.ring 0).lane = .signal ∧ (h.ring 0).ctleDone = true) ∧
    (let h := A fun h => h.modRing 0 fun r => { r with lane := .signal }
     (h.ring 0).lane = .signal ∧ (h.ring 0).ctleDone = false ∧ (List.range 16).length = 16) ∧
    (let h := A (onRing fun r => { r with mkAt := now - tTenth (4 * 1048576) })
     (h.ring 0).lane = .up ∧ (h.ring 0).lane ≠ .down ∧ (h.ring 0).mkAt + tTenth (4 * 1048576) ≤ now) ∧
    (let h := A fun h => h.modRing 11 fun r => { r with lane := .block }; (h.ring 11).lane = .block) := by decide +kernel

theorem witness_LaneMeasures :
    (let h := A (onRing id); h.runs = true ∧ (h.ring 0).lane = .up ∧ h.getF (RG.HL_CTRL 0) 8 8 = 0) ∧
    (let h := A fun h => h.modRing 0 fun r => { r with readapt := some now }; (h.ring 0).readapt = some now) ∧
    (let h := A id; 2 ^ 30 * 66 < 70867 * 10 ^ max 6 (h.getF (RG.HL_CFG 0) 19 16) ∧ (h.ring 0).shWin = 0) ∧
    (let h := A (onRing id); let m0 : Block := fld 0x4B 0 ||| fld 1 8
     laneOn h = true ∧ (h.ring 0).lane = .up ∧ blockError m0 = false ∧ markerOk 0 m0 0 true = false ∧ bits m0 7 0 = 0x4B ∧ bits m0 11 8 ≠ 0) ∧
    (let h := A (onRing fun r => { r with lane := .block, lastM := some 0xFFFFFF })
     let m := markerBlocks .b 0 0 0
     (h.ring 0).lane = .block ∧ markerOk 0 (m.getD 0 0) (m.getD 1 0) true = true ∧ (h.ring 0).lastM = some 0xFFFFFF ∧
       (0xFFFFFF + 1) % 2 ^ 24 = bits (m.getD 0 0) 47 24 ∧ bits (m.getD 0 0) 12 12 ≠ HalfId.a.bit) ∧
    (let h := A id; laneOn h = true ∧ h.glb.dev ≠ .lullOnly ∧ (vget h.svc 0).mcount * 2 ^ 20 ≤ sinceEpoch now h ∧
      inWindow now (tTenth 128) h = false) := by decide +kernel

/-- DISPATCH has been taken and the trains are due at this instant. -/
def trainsDue (h : Half) : Half :=
  h.modGlb fun g => { g with dispAt := some now, t0 := now - tNs (g.ts + 200) }

theorem witness_TrainsRun :
    (let s := st ((fun h => h.modGlb fun g => { g with t0 := now }) ∘ bound .active ∘ onRing fun r => { r with
        spans := [800] ++ List.replicate 16 50, cuts := List.replicate 16 120 })
     let h := s.at ev; let m := matureRings (s.cx ev) h
     h.runs = true ∧ (h.glb.dev.inService && collects h && ringServes m 0 && collDue (s.cx ev) m 0) = true ∧ nslotOf m 0 ≠ 0 ∧
       ringServes m 1 = false) ∧
    (let s := st ((fun h => h.modGlb fun g => { g with t0 := now }) ∘ onRing fun r => { r with
        spans := [800] ++ List.replicate 16 50, cuts := List.replicate 16 120 })
     let h := s.at ev; let m := matureRings (s.cx ev) h
     (h.glb.dev.inService && collects h && ringServes m 0 && collDue (s.cx ev) m 0) = true ∧ nslotOf m 0 = 0) ∧
    (let s := st (trainsDue ∘ bound .active ∘ onRing id); let h := s.at ev; let m := matureRings (s.cx ev) h
     h.glb.dev.inService = true ∧ h.glb.dispAt.isSome = true ∧ sendsTrains h = true ∧ h.glb.trained = false ∧
     h.glb.t0 + tNs (h.glb.ts + 200 + wrapNs h.glb) = now ∧ h.below 4 0x1B = true ∧ ringServes m 0 = true ∧
     ringFree now m 0 = true ∧ trainCells .a m 0 ≠ [] ∧ (∀ j < 12, trainPert h j = 0)) ∧
    (A fun h => h.modGlb fun g => { g with trained := true }).glb.trained = true ∧
    (let h := A ((fun h => h.modGlb fun g => { g with t0 := now - tNs (g.ts - 20) }) ∘ bound .active ∘ onRing id)
     let ctl : Block := fld 0x55 0 ||| fld 7 16; let data := pairCrc ctl 0; let r := slotFields 0 ctl data
     laneOn h = true ∧ (h.ring 0).lane = .up ∧ h.glb.dev.inService = true ∧ h.glb.started = true ∧ blockError ctl = false ∧
     bits ctl 7 0 = 0x55 ∧ crcField data = crc16Pair ctl data ∧
     slotPosOk h 0 (r.pos.val + 1) = true ∧ bits ctl 27 16 = h.glb.cycle % 4096 ∧ now ≤ h.glb.t0 + tNs (h.glb.ts - 20) ∧
     gathering h = true ∧ hasSlot (h.ring 0).slots (r.pos.val + 1) = false ∧
     hasSlot [r] (r.pos.val + 1) = true ∧ (h.ring 1).lane = .down ∧ blockError 0x54 = true ∧ bits (0x36 : Block) 7 0 = 0x36) ∧
    (let h := A ((fun h => h.modGlb fun g => { g with t0 := now - tNs (g.ts - 20) - 1 }) ∘ bound .active ∘ onRing id)
     h.glb.t0 + tNs (h.glb.ts - 20) < now) ∧
    (A fun h => h.modGlb fun g => { g with started := false }).glb.started = false ∧
    (let blk : Block := fld 0xAA 0 ||| fld 16 8; let b := withCrc blk (crc16Single blk)
     bits b 7 0 = 0xAA ∧ crcField b = crc16Single b ∧ b.getLsbD 13 = false ∧ crcField blk ≠ crc16Single blk) ∧
    (let blk : Block := fld 0xAA 0 ||| fld 1 8 ||| fld 1 13; let b := withCrc blk (crc16Single blk)
     bits b 7 0 = 0xAA ∧ crcField b = crc16Single b ∧ b.getLsbD 13 = true ∧ (A id).th.lanesTx ≠ 0) := by decide +kernel

/-- A frame to position 1 that is not yet acknowledged. -/
def unacked (kind tries sent : Nat) (h : Half) : Half :=
  h.modSvc 0 fun s => { s with wait := [⟨1, 5, kind, [], sent, tries⟩] }

theorem witness_ServiceFramesGo :
    (let h := A (onRing id); h.runs = true ∧ h.th.fenced = false ∧ probeDue now h 0 1 = true ∧ probeDue now h 0 16 = true ∧ svcFree now 0 h = true) ∧
    (let h := A (bound .active ∘ onRing id); onRings h = true ∧ h.bf (BK.HERD_RING_EN 0) = true ∧
      svcFree now 32 h = true ∧ (boundAt h 0 1).isSome = true) ∧
    (let h := A ((fun h => h.modNode 0 1 fun n => { n with tsDue := true }) ∘ bound .active ∘ onRing id)
     reaches .a (h.ring 0) 1 = true ∧ h.tb.step = none ∧ (h.node 0 1).tsNow = false ∧ timeSetDue .a now h 0 1 = true ∧ svcFree now 3 h = true ∧ svcStart now 0 3 h = now ∧ waiting h 0 1 0x03 = false) ∧
    (let h := A ((fun h => h.modNode 0 1 fun n => { n with sideUpSince := some (now - tMs 10) }) ∘
        regs [(RG.HR_CTRL 0, 1)] ∘ onRing fun r => { r with wrapped := true, wrapA := 1 })
     h.glb.role = .active ∧ (h.ring 0).wrapped = true ∧ h.getF (RG.HR_CTRL 0) 0 0 = 1 ∧ 1 ∈ wrappers (h.ring 0) ∧
      (wrappers (h.ring 0)).all (sideUpFor now (tMs 10) h 0) = true ∧ waiting h 0 1 0x06 = false) ∧
    (let h := A (unacked 0x06 2 (now - tUs 100) ∘ onRing id); let f : SvcOut := ⟨1, 5, 0x06, [], now - tUs 100, 2⟩
     (vget h.svc 0).wait.find? (fun f => f.pos == 1 && mayResend h f.kind && decide (f.sent + tUs 100 ≤ now)) = some f ∧ f.tries < 3 ∧
       svcFree now f.data.length h = true ∧ reaches .a (h.ring 0) 1 = true ∧ activeKind f.kind = true ∧ h.glb.role = .active) ∧
    (let h := A (unacked 0x06 2 (now - tUs 100) ∘ onRing fun r => { r with hops := 0 })
     reaches .a (h.ring 0) 1 = false ∧ h.th.lanesTx ≠ 0) ∧
    (let h := A (unacked 0x01 3 (now - tUs 100) ∘ onRing id); let f : SvcOut := ⟨1, 5, 0x01, [], now - tUs 100, 3⟩
     (vget h.svc 0).wait.find? (fun f => f.pos == 1 && mayResend h f.kind && decide (f.sent + tUs 100 ≤ now)) = some f ∧ 3 ≤ f.tries ∧ f.kind = 0x01) ∧
    ringHears (A (onRing id)) 0 = true := by decide +kernel

theorem witness_NodesBindAndGo :
    (let h := A (onRing id); let f := reply 0x02 [fld 1 8, fld 0xBEEF 0, fld 80 8]
     h.runs = true ∧ ringHears h 0 = true ∧ svcOk f = true ∧ svcFrom f = 1 ∧ svcKind f = 0x02 ∧ boundAt h 0 1 = none ∧
       (h.node 0 1).fwd = false ∧ (h.node 0 1).binding = none ∧ bits (svcPay f 0) 15 8 = 1 ∧ bits (svcPay f 2) 15 8 ≤ 80 ∧
       ctxOf h 0 1 = some 0) ∧
    (let h := A (unacked 0x03 0 now ∘ onRing id); let f := reply 0x05 [fld 5 0]; let w : SvcOut := ⟨1, 5, 0x03, [], now, 0⟩
     svcOk f = true ∧ ctxOf h 0 1 = some 0 ∧ svcKind f = 0x05 ∧
       (vget h.svc 0).wait.find? (fun w => w.pos == 1 && w.seq == bits (svcPay f 0) 15 0) = some w ∧ w.kind = 0x03) ∧
    (let h := A (bound .active ∘ onRing id); let f := reply 0x10 [1]
     svcOk f = true ∧ svcKind f = 0x10 ∧ h.glb.role = .active ∧ boundAt h 0 1 = some 0 ∧ waveRing h 0 = none) ∧
    (let h := A (regs [(RG.SR_CFG 0, 16), (RG.SR_WAVE 0, 0x10000), (RG.DB_SR_TAIL 0, 1)] ∘ bound .active ∘ onRing id)
     let f := reply 0x10 [1]
     svcOk f = true ∧ boundAt h 0 1 = some 0 ∧ waveRing h 0 = some 0 ∧ (srOf h 0).err = false ∧ srPosted h 0 ≠ 0) ∧
    (let h := A (bound .active ∘ onRing id); let f := reply 0x30 [1, 2, 3, 4]
     svcOk f = true ∧ svcKind f = 0x30 ∧ boundAt h 0 1 = some 0 ∧ f.data ≠ [] ∧ f.data.length ≤ 4) ∧
    (let h := A ((fun h => h.modNode 0 1 fun n => { n with known := true, missRun := 4, noReply := true }) ∘ bound .active ∘ onRing id)
     (h.node 0 1).known = true ∧ 4 ≤ (h.node 0 1).missRun ∧ (h.node 0 1).noReply = true ∧ boundAt h 0 1 = some 0) ∧
    (let b : Binding := ⟨0, true, some (now - tMs 1)⟩
     let h := A ((fun h => h.modNode 0 1 fun n => { n with binding := some b }) ∘ onRing id)
     (h.node 0 1).binding = some b ∧ b.ackAt = some (now - tMs 1) ∧ now - tMs 1 + tMs 1 ≤ now) := by decide +kernel

theorem witness_DoorbellsAndRings :
    (let h := A (regs [(RG.CR_CFG 0, 16), (RG.CQ_CFG 0, 16), (RG.SR_CFG 0, 16), (RG.EV_CFG, 16)])
     h.runs = true ∧ h.glb.dev ≠ .lullOnly ∧ h.glb.role = .active ∧ dist32 16 (crOf h 0).cons ≤ crSize h 0 ∧ crSize h 0 ≠ 0 ∧
       crSize h 0 < dist32 17 (crOf h 0).cons ∧ dist32 (cqOf h 0).prod 0 ≤ cqSize h 0 ∧ cqSize h 0 ≠ 0 ∧
       dist32 16 (srOf h 0).prod ≤ srSize h 0 ∧ srSize h 0 ≠ 0 ∧ dist32 0 h.hi.ev.prod ≤ evSize h ∧ evSize h ≠ 0) ∧
    crSize (A id) 7 = 0 ∧ (A (as .off .lullOnly)).glb.dev = .lullOnly ∧
    (let h := A id; h.glb.dev ≠ .lullOnly ∧ sizeOk (wbits 16#32 16 0) = true ∧ h.getF (cfgOff .cr 0) 16 0 = 0 ∧
      wbits 16#32 16 0 ≠ 0) ∧
    (let h := A (regs [(cfgOff .ev 0, 16)])
     h.getF (cfgOff .ev 0) 16 0 ≠ 0 ∧ wbits 65536#32 16 0 ≠ 0 ∧ sizeOk (wbits 65536#32 16 0) = true ∧
       wbits 65536#32 16 0 ≠ h.getF (cfgOff .ev 0) 16 0 ∧ sizeOk (wbits 0#32 16 0) = true ∧ wbits 0#32 16 0 = 0) := by
  decide +kernel

/-- A record that is due. -/
def rec0 : Rec := ⟨0, 0, 7, 0, 0, 0, 2, true, false, false, now⟩

theorem witness_HostRecordsGo :
    (let h := A (regs [(RG.CQ_CFG 0, 16)] ∘ fun h => h.modCq 0 fun q => { q with due := [rec0], prod := 15 })
     h.runs = true ∧ canWrite h = true ∧ cqSize h 0 ≠ 0 ∧ (cqOf h 0).err = false ∧ cqFull h 0 = false ∧ (cqOf h 0).due = [rec0]) ∧
    (let h := A (regs [(RG.CQ_CFG 0, 16 + 2 ^ 24)] ∘ fun h => (h.modCq 0 fun q => { q with
        irqAt := some (now - tUs 1), irqWait := true }).modHi fun i => { i with msixOn := true })
     (cqOf h 0).irqAt = some (now - tUs 1) ∧ (cqOf h 0).irqWait = true ∧ canWrite h = true ∧ h.hi.msixOn = true ∧
       now - tUs 1 + tUs (h.getF (RG.CQ_CFG 0) 31 24) ≤ now ∧ isMasked h 0 = true) ∧
    isMasked (A (regs [(msixKey 22 3, 0)])) 22 = false ∧
    (let h := A (regs [(RG.CQ_CFG 0, 16)] ∘ fun h => h.modCq 0 fun q => { q with stallAt := some (now - tMs 1), prod := 16 })
     (cqOf h 0).stallAt = some (now - tMs 1) ∧ (cqOf h 0).stallRaised = false ∧ cqSize h 0 ≠ 0 ∧ cqFull h 0 = true ∧ h.glb.role = .active) ∧
    (let h := A (regs [(RG.EV_CFG, 16)] ∘ fun h => (h.modSd fun s => { s with queue := [default] }).modEv fun c => { c with err := true })
     h.glb.role = .active ∧ evSize h ≠ 0 ∧ h.hi.ev.err = true ∧ h.sd.queue = [default]) ∧
    (let h := A (regs [(RG.EV_CFG, 16)] ∘ fun h => h.modSd fun s => { s with queue := [default] })
     canWrite h = true ∧ evSize h ≠ 0 ∧ h.hi.ev.err = false ∧ h.sd.queue = [default] ∧ evFree h ≠ 0) ∧
    (let h := A (fun h => ((as .standby .running h).modSd fun s => { s with queue := [default] }).modTh
        fun t => { t with oRole := .active })
     h.glb.role ≠ .active ∧ h.th.oRole = .active ∧ h.th.lanesTx ≠ 0 ∧ h.sd.queue = [default]) ∧
    (let h := A (regs [(RG.SR_CFG 0, 16 + 2 ^ 24), (RG.DB_SR_TAIL 0, 1)] ∘
        fun h => h.modSr 0 fun r => { r with units := [⟨0, 7, List.replicate 256 0, true⟩], first := some (now - tUs 1) })
     let ent : Desc := vset (Vector.replicate 16 0) 2 256#32
     srReady h 0 = true ∧ entOk ent = true ∧ entSize ent < unitsLen (srOf h 0).units ∧
       (srOf h 0).first = some (now - tUs 1) ∧ h.getF (RG.SR_CFG 0) 31 24 ≠ 0 ∧
       now - tUs 1 + tUs (h.getF (RG.SR_CFG 0) 31 24) ≤ now) := by decide +kernel

theorem witness_HostLinkAndReadBack :
    (A id).hi.speed ≠ 0 ∧ (A id).glb.dev ≠ .lullOnly ∧
    (let h := A (regs [(cfgOff .cr 0, 16), (cfgOff .cq 0, 16), (cfgOff .sr 7, 16), (cfgOff .ev 0, 16)])
     h.runs = true ∧ h.getF (cfgOff .cr 0) 16 0 ≠ 0 ∧ h.getF (cfgOff .cq 0) 16 0 ≠ 0 ∧ h.getF (cfgOff .sr 7) 16 0 ≠ 0 ∧
       h.getF (cfgOff .ev 0) 16 0 ≠ 0) ∧
    (let h := A fun h => h.modHi fun x => { x with rbAt := some (now - tUs 10) }
     h.hi.rbAt = some (now - tUs 10) ∧ h.glb.role = .active ∧ h.hi.rbBusy = false ∧ now - tUs 10 + tUs 10 ≤ now) ∧
    (let h := A fun h => h.modHi fun x => { x with rbBusy := true, msixOn := true }
     h.hi.rbBusy = true ∧ h.hi.msixOn = true ∧ isMasked h 22 = true) ∧
    (A fun h => h.modHi fun x => { x with reading := some (0, Vector.replicate 16 0) }).hi.reading = some (0, Vector.replicate 16 0) ∧
    (A fun h => h.modHi fun x => { x with readingRec := some (0, Vector.replicate 16 0) }).hi.readingRec =
      some (0, Vector.replicate 16 0) := by decide +kernel

/-- A descriptor that waits for its acknowledgement. -/
def repl0 (first last : Nat) : Repl := ⟨0, 5, Vector.replicate 16 0, 1, 9, 0, first, last, false, 0⟩

theorem witness_ReplicasGo :
    (let h := A (as .standby .running)
     h.runs = true ∧ h.glb.role = .standby ∧ h.th.lanesRx ≠ 0 ∧ h.th.lanesTx ≠ 0 ∧ h.xf.early = [] ∧
       ∀ x ∈ h.hi.stored, ¬(x.1 = 0 ∧ x.2.1 = 5 ∧ x.2.2.1 = (Vector.replicate 16 0 : Desc))) ∧
    (let d' : Desc := Vector.replicate 16 0
     let h := A fun h => h.modHi fun x => { x with unread := [(0, 5, d')] }
     h.hi.unread.find? (fun x => x.1 == 0 && x.2.1 == 5) = some (0, 5, d') ∧ h.hi.speed ≠ 0 ∧
       dByte (Vector.replicate 16 1#32) 0 ≠ dByte d' 0) ∧
    (let x := repl0 (now - tUs 30) (now - tUs 2)
     let h := A fun h => h.modHi fun y => { y with repl := [x] }
     h.glb.role = .active ∧ h.hi.repl.find? (fun x => x.ring == 0 && x.seq == 5) = some x ∧ x ∈ h.hi.repl ∧ h.th.lanesRx ≠ 0 ∧ x.last + tUs 2 ≤ now ∧
       h.th.lanesTx ≠ 0 ∧ x.first + tUs 30 ≤ now) := by decide +kernel

theorem witness_SheepdogActs :
    (let d : GustDec := ⟨now - tNs 20, 7, 1, true, none⟩
     let h := A (bank [(BK.OX_CLUSTER 0, 0)] ∘ bound .active ∘ onRing id ∘ fun h => h.modSd fun s => { s with decisions := [d] })
     h.runs = true ∧ h.sd.decisions = [d] ∧ d.time + tNs 20 ≤ now ∧ laneOn h = true ∧ ringHasCluster h 0 1 = true) ∧
    (let f : FenceReq := ⟨.eth 1, now - tNs 200⟩
     let h := A fun h => h.modSd fun s => { s with fences := [f] }
     f ∈ h.sd.fences ∧ f.time + tNs 200 ≤ now ∧ (f.unit = .eth 1 ∧ (1 : Nat) < 2) ∧ isNetUnit (.ring 11) = false ∧ h.glb.dev ≠ .lullOnly) ∧
    (let h := A id; wbits 6#32 2 0 ≠ 0 ∧ clearValid h (wbits 6#32 2 0) (wbits 6#32 12 8) = false) ∧
    (let h := A fun h => h.modSd fun s => { s with ringFence := 1 }
     wbits 1#32 2 0 ≠ 0 ∧ clearValid h (wbits 1#32 2 0) (wbits 1#32 12 8) = true ∧
       clearFenced (matureRings ((st fun h => h.modSd fun s => { s with ringFence := 1 }).cx ev) h) (wbits 1#32 2 0) (wbits 1#32 12 8) = true ∧ clearCause .a now h (wbits 1#32 2 0) (wbits 1#32 12 8) = false) ∧
    wbits 0x20000#32 17 16 ≠ 0 ∧ (A id).glb.role = .active ∧ (A (as .standby .running)).glb.role ≠ .active := by decide +kernel

theorem witness_AnalogActs :
    (let h := A (bank [(BK.AN_CH_EN 0, 1)])
     h.runs = true ∧ anaUp h = true ∧ h.glb.dev.inService = true ∧ h.glb.started = true ∧ h.an.wordsSent = false ∧
       h.glb.sealedAt = none ∧ anEn h 1 = false ∧ h.glb.t0 + tNs 60 ≤ now ∧ h.th.lanesRx ≠ 0) ∧
    (A fun h => h.modGlb fun g => { g with t0 := now - tNs 60 + 1 }).glb.t0 + tNs 60 > now ∧
    (let h := A (bank [(BK.AN_CH_EN 0, 1), (BK.AN_CH_DECIM 0, 100)])
     anEn h 0 = true ∧ subFits h 0 = true ∧ h.glb.t0 + tNs (nextSub h 0) ≤ now) ∧
    (A fun h => h.modGlb fun g => { g with sealedAt := some now }).glb.sealedAt ≠ none ∧
    (let h := A (fun h => ((bank [(BK.AN_CH_PCNT 0, 4)] h).modGlb fun g => { g with sealedAt := some now }).modAnCh 0
        fun c => { c with dispute := 1, pcount := 4 })
     h.glb.sealedAt ≠ none ∧ (h.anCh 0).dispute = 1 ∧ h.bn (BK.AN_CH_PCNT 0) ≤ (h.anCh 0).pcount ∧
       followsDispute h = false ∧ (selfCheckNames now h 0).or (witnessNames h 0) = none) ∧
    followsDispute (A fun h => (as .standby .running h).modTh fun t => { t with oRole := .active }) = true ∧
    (let h := A id
     wbit 1#32 0 = true ∧ anaUp h = true ∧ (seqClock now h).an.seq = [] ∧ (seqClock now h).an.pend = none ∧ h.an.seqDone = none) ∧
    (A fun h => h.modAn fun a => { a with seqDone := some now }).an.seqDone = some now ∧ sameClock now now = true ∧
    (let q := seqClock now (A fun h => h.modAn fun a => { a with seq := [0] }); q.an.seq ≠ [] ∧ q.an.pend = none) ∧
    (let q := seqClock now (A fun h => h.modAn fun a => { a with seq := [0], pend := some 1 })
     q.an.pend ≠ none ∧ q.an.dropRaised = false) ∧
    (let h := A (regs [(RG.AN_SEQ_CFG, 0x100)])
     h.getF RG.AN_SEQ_CFG 23 8 ≠ 0 ∧ h.an.lastPeriod + tMs (h.getF RG.AN_SEQ_CFG 23 8) ≤ now ∧ (seqClock now h).an.seq = []) ∧
    (let h := seqClock now (A fun h => h.modAn fun a => { a with seq := [7, 0], seqEnd := now })
     h.an.seq = [7, 0] ∧ h.an.seqEnd ≤ now) := by decide +kernel

theorem witness_ThermalActs :
    (let h := A id; railGood h .lull = true ∧ coreUp h = true ∧ h.tm.shut = none ∧ h.runs = true) ∧
    (let h := A id; h.tm.tempAt + tMs 5 ≤ now ∧ anaUp h = true ∧ (seqClock now h).an.seq = [] ∧ (seqClock now h).an.pend = none ∧
      h.an.seqDone = none ∧ h.tm.failed = false) ∧
    (let h := A fun h => h.modGlb fun g => { g with mv := .test }; wbit 1#32 0 = true ∧ pertMay h = true) ∧
    pertMay (A id) = false ∧ wbit 0#32 0 = false := by decide +kernel

theorem witness_AccessesAreFlagged :
    (let h := A id; h.runs = true ∧ coreUp h = true ∧ h.getF RG.GLB_ACC_ERR 2 0 = 0 ∧ h.acc.clr = none ∧
      regRow (accKey ⟨0, 0x80, false, 0xF, 1⟩) = none ∧ inBar4 0x200 = false) ∧
    (A (regs [(RG.GLB_ACC_ERR, 1)])).getF RG.GLB_ACC_ERR 2 0 ≠ 0 ∧
    (let h := A fun h => { h with acc := { h.acc with clr := some now } }; h.acc.clr = some now ∧ sameClock now now = true) ∧
    (let h := A fun h => h.modPw fun p => { p with up := 1 }; gated h (accDomain RG.ETH_CNT_FCS) = true) := by decide +kernel

/-- The timebase is 20 µs into the epoch: 64,000 fine units. -/
theorem witness_LvOutputsAct :
    (let h := A (bank [(BK.LV_PAIR_MODE 0, 2), (BK.LV_PAIR_PERIOD 0, 1000)] ∘ fun h => h.modPair 0 fun p => { p with
        load := some ⟨5, true, default, 7991, false⟩, edges := [(lvFine now (base .a), true)] })
     h.runs = true ∧ h.glb.dev.inService = true ∧ h.glb.started = true ∧ pairMode h 0 = 2 ∧
       (pairOf h 0).lastReload < periodNo h 0 (lvFine now h) ∧
       7991 + 8 < periodNo h 0 (lvFine now h) * pairF h 0 - h.bn (BK.LV_PAIR_PHASE 0) ∧
       ((pairOf h 0).edges.filter fun x => decide (x.1 ≤ lvFine now h)).getLast? = some (lvFine now h, true)) ∧
    (let h := A fun h => h.modPair 11 fun p => { p with force := 4, forceEnd := some now }
     (pairOf h 11).force = 4 ∧ (pairOf h 11).forceEnd = some now) ∧
    (let h := A fun h => h.modLv fun v => { v with brkForce := 4, brkForceEnd := some now }
     h.lv.brkForce = 4 ∧ h.lv.brkForceEnd = some now) ∧
    (let h := A fun h => (h.modGlb fun g => { g with lv := .precharge }).modLv fun v => { v with preCount := 16 }
     h.glb.lv = .precharge ∧ 16 ≤ h.lv.preCount ∧ h.lv.preDone = false ∧ h.lv.preRaised = false ∧
       h.lv.preAt + tMs (h.bn BK.LV_PRE_TMAX) ≤ now) ∧
    (let h := A (bank [(BK.LV_TRIP_LINK 0, 12), (BK.LV_TRIP_BLANK 0, 1)] ∘ fun h => (h.modLv fun v => { v with
        brkEdge := now - tNs 10 }).modTrip 0 fun t => { t with softNow := true, softAt := now - tNs 5 })
     h.senses = true ∧ (tripOf h 0).softNow = true ∧ isBlanked now h 0 = false ∧ (tripOf h 0).softAt < blankEnd now h 0) ∧
    (let h := A (bank [(BK.LV_TRIP_HARD_EN 15, 1), (BK.LV_TRIP_CLUSTER 15, 4)] ∘ fun h => h.modTrip 15 fun t => { t with hardNow := true })
     tripReady now h 15 true = true ∧ latched (tripOf h 15) = false ∧ h.bn (BK.LV_TRIP_CLUSTER 15) / 2 ^ 2 % 2 = 1) ∧
    (let h := A (bank [(BK.LV_TRIP_SOFT_EN 0, 1)] ∘ fun h => h.modTrip 0 fun t => { t with softNow := true })
     tripReady now h 0 false = true) ∧
    (let h := A fun h => h.modTrip 0 fun t => { t with
        hardLatch := true, softLatch := true, hardOff := now - tUs 10, softOff := now - tUs 10 }
     h.glb.lv = .stopped ∧ (tripOf h 0).hardLatch = true ∧ (tripOf h 0).hardNow = false ∧ (tripOf h 0).hardOff + tUs 10 ≤ now ∧
       (tripOf h 0).softLatch = true ∧ (tripOf h 0).softNow = false ∧ (tripOf h 0).softOff + tUs 10 ≤ now) ∧
    (asserts 512 1250001 false = true ∧ asserts 512 1250000 false = false ∧ asserts 512 1240000 true = true ∧
      asserts 512 1239999 true = false) ∧
    (let h := A (bank [(BK.LV_FLT_EN 3, 1)])
     now - filtLen h (BK.LV_FLT_FILT 3) + filtLen h (BK.LV_FLT_FILT 3) ≤ now ∧ now < now + 1 + filtLen h (BK.LV_FLT_FILT 3) ∧
     h.glb.dev ≠ .lullOnly ∧ h.bf (BK.LV_FLT_EN 3) = true ∧ (pairOf h 3).flt = false) := by decide +kernel

/-- Controller 0 released and on the bus. -/
def canBus (h : Half) : Half := (regs [(RG.CAN_CTRL 0, 0)] h).modCan 0 fun c => { c with st := 1 }

/-- Half A as a command of controller 0 finds it. -/
def canKicked (f : Half → Half) : Half := kick ((st f).cx ev) 0 (A f)

theorem witness_CanControllersAct :
    (let h := canKicked canBus; h.runs = true ∧ netUp h = true ∧ canInit h 0 = false ∧ (canOf h 0).tx = none ∧
      joined h 0 = true ∧ canListen h 0 = false ∧ canOn h 0 = true ∧ canFenced h 0 = false) ∧
    (let h := canKicked (((fun h => h.modCan 0 fun c => { c with tx := some 127 }) ∘ canBus))
     canInit h 0 = false ∧ (canOf h 0).tx = some 127 ∧ joined h 0 = true ∧ (canOf h 0).dead = false) ∧
    (let h := canKicked (regs [(RG.CAN_CTRL 0, 0)]); canInit h 0 = false ∧ (canOf h 0).tx = none ∧
      receives ((st (regs [(RG.CAN_CTRL 0, 0)])).cx ev) h 0 = false) ∧
    (let h := canKicked (regs [(RG.CAN_OBJ_CFG 0 7, 16)])
     objSt h 0 (wbits 7#32 6 0) 2 = false ∧ objF h 0 (wbits 7#32 6 0) 3 3 = 0 ∧ objF h 0 (wbits 7#32 6 0) 4 4 = 1) ∧
    (let h := canKicked (regs [(RG.CAN_OBJ_CFG 0 7, 8), (RG.CAN_CFG 0, 0)])
     objF h 0 (wbits 7#32 6 0) 3 3 = 1 ∧ h.getF (RG.CAN_CFG 0) 0 0 = 0) ∧
    (let x : RxHeld := ⟨now, 127, default, true, (rxRegs 0 127).map fun _ => 1⟩
     let h := canKicked fun h => h.modCan 0 fun c => { c with held := some x }
     (canOf h 0).held = some x ∧ x.obj = wbits 127#32 6 0 ∧ sameClock x.at_ now = true) ∧
    (let h := canKicked ((regs [(RG.CAN_NBT 0, 2 * 2 ^ 9 + 2 * 2 ^ 17 + 2 ^ 24), (RG.CAN_DBT 0, 1 + 2 ^ 6 + 2 ^ 11 + 2 ^ 15),
        (RG.CAN_CTRL 0, 1)]))
     canInit h 0 = true ∧ canCfgOk h 0 = true) ∧
    (let h := canKicked ((regs [(RG.CAN_CTRL 0, 1), (RG.CAN_NBT 0, 0)])); canInit h 0 = true ∧ canCfgOk h 0 = false) ∧
    (let h := canKicked ((regs [(RG.CAN_OBJ_CFG 0 127, 3)] ∘ canBus))
     objF h 0 (wbits 127#32 6 0) 0 0 = 1 ∧ objF h 0 (wbits 127#32 6 0) 1 1 = 1 ∧ objSt h 0 (wbits 127#32 6 0) 2 = false ∧
       objF h 0 (wbits 127#32 6 0) 3 3 = 0 ∧ objF h 0 (wbits 127#32 6 0) 4 4 = 0) ∧
    (let h := canKicked ((regs [(RG.CAN_OBJ_CFG 0 0, 3 + 8), (RG.CAN_CFG 0, 1)] ∘ canBus))
     objF h 0 (wbits 0#32 6 0) 3 3 = 1 ∧ h.getF (RG.CAN_CFG 0) 0 0 = 1) ∧
    (let h := canKicked ((regs [(RG.CAN_CTRL 0, 1), (RG.CAN_OBJ_ST 0 5, 4)]))
     objSt h 0 (wbits 5#32 6 0) 2 = true ∧ (canOf h 0).tx ≠ some (wbits 5#32 6 0)) ∧
    (let h := canKicked ((regs [(RG.CAN_CTRL 0, 0)]))
     canOn h 0 = true ∧ (canOf h 0).st = 0 ∧ (canOf h 0).at_ + 11 * canBit h 0 ≤ now ∧ h.glb.role ≠ .off) ∧
    (let h := canKicked ((regs [(RG.CAN_CTRL 0, 0), (RG.CAN_CFG 0, 4)] ∘ fun h => h.modCan 0 fun c => { c with st := 3 }))
     (canOf h 0).st = 3 ∧ h.getF (RG.CAN_CFG 0) 2 2 = 1 ∧
       (canOf h 0).at_ + 1408 * canBit h 0 ≤ now) ∧
    (let h := canKicked canBus; (default : CanFrame).fdf = false ∧ rxObj h 0 default = none) ∧
    (let h := canKicked ((regs [(RG.CAN_OBJ_CFG 0 0, 1)] ∘ canBus))
     (default : CanFrame).rtr = false ∧ rxObj h 0 default = some 0 ∧ objSt h 0 0 0 = false) := by decide +kernel

theorem witness_ClocksAct :
    (let h := A fun h => h.modCk fun c => { c with xtalOk := false, xtalStart := now - tMs 100 }
     railGood h .lull = true ∧ h.ck.xtalOk = false ∧ h.ck.xtalStart + tMs 1 ≤ now ∧ h.ck.xtalStart + tMs 20 ≤ now ∧
       h.ck.xtalStart + tMs 100 ≤ now) ∧
    (let h := A id; refPasses ((st id).cx ev) h = true ∧ h.pw.up ≠ 0 ∧ (pllOf h 5).on = true ∧ (pllOf h 5).locked = true ∧ h.runs = true ∧
      h.glb.dev ≠ .lullOnly) ∧
    (let h := A fun h => h.modCk fun c => { c with pll := vmod c.pll 2 fun p => { p with locked := false, lostAt := now - tUs 4 } }
     refPasses ((st id).cx ev) h = true ∧ (pllOf h 2).on = true ∧ (pllOf h 2).locked = false ∧ h.ck.refOk = true ∧ (pllOf h 2).lostAt + tUs 4 ≤ now ∧ bandFits now 2 63 h = true) ∧
    wbit 256#32 8 = true ∧ gating (A fun h => h.modPw fun p => { p with downs := [4] }) 4 = true := by decide +kernel

theorem witness_TimebaseActs :
    (let h := A id; h.runs = true ∧ h.glb.dev ≠ .lullOnly ∧ h.tb.alignSent < h.ns / 8000 ∧ h.th.lanesTx ≠ 0 ∧ h.th.lanesRx ≠ 0) ∧
    (let h := A fun h => (as .standby .running h).modTh fun t => { t with oRole := .active }
     h.th.oRole = .active ∧ h.glb.role = .standby ∧ h.tb.fallback = false) ∧
    (let h := A fun h => h.modTb fun t => { t with disc := 2, st := 1 }
     true ≠ h.bf BK.TB_PPS_EDGE ∧ h.tb.disc = 2 ∧ h.glb.dev.inService = true ∧ (ppsTheta h).natAbs ≤ 100000 ∧ h.tb.st = 1 ∧
       h.tb.ppsAt + tSec (h.bn BK.TB_PPS_MISS) + tUs 100 ≤ now) := by decide +kernel

/-- The codeword of data 0 at address 0. -/
def word0 : BitVec 80 := BitVec.ofNat 80 (eccCheck 0 0 * 2 ^ 64)

theorem witness_MemoriesAct :
    (let h := A id; h.runs = true ∧ h.glb.dev ≠ .lullOnly ∧ ddrUp h = true ∧
      eccErrors (word0 ^^^ 1) h.me.sramPos = 1 ∧ eccErrors (word0 ^^^ 3) h.me.sramPos = 2 ∧
      eccErrors (word0 ^^^ 7) (8 * h.me.ddrPos) = 3 ∧ h.me.sramLate = false ∧ h.me.sramFrom + tUs 19 * 524288 * 3 / 2 ≤ now) ∧
    (let h := A fun h => { as .fenced .running h with me := { h.me with ueAt := some (now - tUs 10) } }
     h.glb.role = .fenced ∧ h.me.ueAt = some (now - tUs 10) ∧ now - tUs 10 + tUs 10 ≤ now) ∧
    (let late := tUs 6800 * 12582912 * 3 / 2; let h := (st id).at ⟨.a, late⟩
     h.me.ddrLate = false ∧ h.me.ddrFrom + late ≤ max (st id).time late ∧ (st id).time < late) := by decide +kernel

/-- A half before its first domain has risen. -/
def lull (h : Half) : Half :=
  { (h.modPw fun p => { p with up := 0 }) with glb := { h.glb with dev := .lullOnly, role := .off } }

theorem witness_DomainsComeUp :
    canPowerUp ((st lull).cx ev) (A lull) = true ∧
    (let h := A fun h => (lull h).modPw fun p => { p with ramp := some (3, now - tUs 200), seqUp := true }
     h.pw.ramp = some (3, now - tUs 200) ∧ now - tUs 200 + tUs 200 ≤ now ∧ h.pw.wholeWait = none ∧ h.pw.seqUp = true ∧
       railsOk h 4 = true) ∧
    (let h := A fun h => (lull h).modPw fun p => { p with ramp := some (3, now - tUs 200), seqUp := true, rails := vset p.rails (railIx .ana) false }
     h.pw.ramp = some (3, now - tUs 200) ∧ railsOk h 4 = false) ∧
    (A fun h => (lull h).modPw fun p => { p with ramp := some (4, now - tUs 220), seqUp := true }).pw.ramp = some (4, now - tUs 220) ∧
    (A fun h => (lull h).modPw fun p => { p with ramp := some (5, now), seqUp := true }).pw.ramp = some (5, now) ∧
    (let h := A id; (railLevels now h .lane).1 < 828001 ∧ now - tUs 20 + tUs 20 ≤ now ∧ 828000 ≤ (railLevels now h .lane).1 ∧
      now < now - tUs 20 + 1 + tUs 20) ∧
    (A fun h => (lull h).modPw fun p => { p with ramp := some (4, now - tUs 200), seqUp := true }).pw.ramp = some (4, now - tUs 200) ∧
    (let h := A fun h => h.modPw fun p => { p with wait := some (1, now - tMs 10), seqUp := true }
     h.pw.wait = some (1, now - tMs 10) ∧ railsOk h 1 = true ∧ now - tMs 10 + tMs 10 ≤ now ∧ h.pw.seqUp = true) ∧
    (A fun h => h.modPw fun p => { p with wait := some (1, now - tMs 10) }).pw.seqUp = false ∧
    (let h := A fun h => h.modPw fun p => { p with hold := some now, again := true }
     h.pw.hold = some now ∧ h.pw.again = true) ∧
    (let h := A fun h => h.modPw fun p => { p with hold := some (now + tSec 1), holdS := 50 }
     h.pw.hold = some (now + tSec 1) ∧ h.pw.again = false ∧ now + tSec 1 ≤ now + tSec h.pw.holdS / 50) := by decide +kernel

theorem witness_DomainsGoDown :
    (let h := A id; 791999 < (railLevels now h .lane).2 ∧ now - tUs 2 + tUs 2 ≤ now ∧ mayProtect now h = true ∧ coreDriven now h = true ∧ domUp h 1 = true ∧ domUp h 2 = true ∧ domUp h 4 = true) ∧
    (let h := A fun h => h.modPw fun p => { p with orderly := some (4, now) }
     h.pw.orderly = some (4, now) ∧ (4 : Nat) ≠ 1 ∧ h.pw.whole = none ∧ h.pw.ramp = none) ∧
    (let h := A fun h => (as .standby .running h).modPw fun p => { p with orderly := some (1, now), ramp := some (1, now) }
     h.pw.orderly = some (1, now) ∧ h.glb.role ≠ .active ∧ h.pw.whole = none ∧ h.pw.ramp ≠ none) ∧
    (let h := A fun h => h.modPw fun p => { p with downs := [4, 0], downAt := now }
     h.pw.downs = [4, 0] ∧ h.pw.downAt ≤ now) ∧
    (A fun h => h.modPw fun p => { p with downs := [0], downAt := now }).pw.downs = [0] := by decide +kernel

theorem witness_PowerRequestsAct :
    (let h := A fun h => h.modPw fun p => { p with up := 15 }
     h.runs = true ∧ h.glb.dev ≠ .lullOnly ∧ wbits 0x81#32 1 0 = 1 ∧ domUp h 0 = true ∧ reqMask 0x81#32 &&& ~~~h.pw.up ≠ 0 ∧
       busy h = false ∧ h.pw.wholeWait = none ∧ h.pw.heldDown = 0 ∧ h.pw.heldUp = 0 ∧ namedIn [1, 2, 3, 4] (reqMask 0x81#32 &&& ~~~h.pw.up) = [4] ∧
       railsOk h 4 = true ∧ railsOk { h with pw := { h.pw with rails := Vector.replicate 7 false } } 4 = false) ∧
    (let h := A fun h => h.modPw fun p => { p with up := 15, ramp := some (4, now) }; busy h = true) ∧
    (reqMask 0x81#32 &&& ~~~(A id).pw.up = 0) ∧
    (let h := A id; wbits 0x12#32 1 0 = 2 ∧ reqMask 0x12#32 ≠ 0 ∧ inServiceRole h.glb.role = true ∧ reqMask 2#32 = 0) ∧
    (let h := A (as .off .configured)
     inServiceRole h.glb.role = false ∧ reqMask 0x12#32 &&& h.pw.up ≠ 0 ∧ busy h = false ∧ h.pw.wholeWait = none ∧
       h.pw.heldDown = 0 ∧ h.pw.heldUp = 0 ∧ h.pw.whole = none ∧ reqMask 0x82#32 &&& (h.pw.up &&& 15) = 0 ∧ wbits 3#32 1 0 = 3 ∧ h.pw.ramp = none) ∧
    (let h := A fun h => (as .off .configured h).modPw fun p => { p with ramp := some (4, now) }
     busy h = true ∧ h.pw.whole = none ∧ h.pw.ramp ≠ none ∧ inServiceRole h.glb.role = false ∧ reqMask 0x12#32 &&& h.pw.up ≠ 0) := by decide +kernel

theorem witness_CoreSupplyActs :
    (let h := A id; h.runs = true ∧ h.glb.dev ≠ .lullOnly ∧ domUp h 0 = true ∧ coreDriven now h = true ∧ h.protecting = false ∧ h.pw.orderly = none ∧ h.pw.localSense = false ∧
      vIndex h = 0 ∧ h.pw.phases.getLsbD 1 = true ∧ setBit h.pw.phases 1 false ≠ 0) ∧
    (A (as .standby .running)).glb.role ≠ .active ∧
    (650 ≤ (900#32).toNat ∧ (900#32).toNat ≤ 900 ∧ (900#32).toNat % 5 = 0) ∧
    ¬(650 ≤ (649#32).toNat ∧ (649#32).toNat ≤ 900 ∧ (649#32).toNat % 5 = 0) ∧
    (let h := A fun h => h.modPw fun p => { p with slewing := true, set := 3000, target := 3000, setAt := now }
     h.pw.slewing = true ∧ setNow now h = h.pw.target ∧ h.pw.pend = false) ∧
    (let h := A fun h => h.modPw fun p => { p with fastRun := vset p.fastRun 0 15, fastAt := vset p.fastAt 0 (now - 100000), phases := 1 }
     h.pw.phases.getLsbD 0 = true ∧ imonAbove h 1100000 (limFast h) = true ∧ imonBad 1100000 = false ∧ imonBad 1200001 = true ∧ now - tUs 2 + tUs 2 ≤ now ∧
       (if h.pw.phases = 3 then 10 else 5) * limSlow h < 10000 ∧ 250 * setNow now h + 100000 < 10000000 ∧ now ≤ vget h.pw.fastAt 0 + 100000 ∧ vget h.pw.fastRun 0 = 15 ∧
       setBit h.pw.phases 0 false = 0) := by decide +kernel

theorem witness_HalvesResetAndHalt :
    (let h := A id; h.glb.dev ≠ .lullOnly ∧ h.hi.speed ≠ 0 ∧ tapOk h = true) ∧
    (A fun h => h.modPk fun p => { p with low := true }).pk.low = true ∧
    (A fun h => h.modPk fun p => { p with halt := true }).pk.halt = true ∧
    (A fun h => h.modPk fun p => { p with ir := 0x05 }).pk.ir = 0x05#8 ∧ takesBalls 0x05#8 = true := by decide +kernel

/-- The other half is heard as r. -/
def hears (r : Role) (h : Half) : Half := h.modTh fun t => { t with oRole := r }

theorem witness_HeartbeatsCarryRoles :
    (let h := A (hears .standby ∘ fun h => h.modTh fun t => { t with hbAt := now - tUs 1 - 1 })
     h.runs = true ∧ h.glb.dev ≠ .lullOnly ∧ h.th.hbSent < h.ns / 1000 ∧ h.th.lanesTx ≠ 0 ∧ h.th.oRole ≠ .off ∧
       h.th.hbAt + tUs 1 < now) ∧
    (let h := A (as .off .configured); let m : Heartbeat := ⟨3, 2, 7, 0, false, 0, false, 0, 0, 0⟩
     h.th.lanesRx ≠ 0 ∧ staleRole h m = false ∧ m.role = 3 ∧ h.glb.role = .off ∧ h.glb.dev.inService = true ∧ h.th.stayOff = false) ∧
    (let h := A (hears .syncing ∘ fun h => h.modTh fun t => { t with hbAt := now - tUs 3 })
     h.th.hbOk = true ∧ h.th.hbAt + tUs 3 ≤ now ∧ h.glb.role = .active ∧ h.th.oRole = .syncing ∧ h.th.oLeaving = false) ∧
    (let h := A (hears .active ∘ as .syncing .configured ∘ fun h => h.modTh fun t => { t with hbAt := now - tUs 3 })
     h.th.hbOk = true ∧ h.th.hbAt + tUs 3 ≤ now ∧ h.glb.role = .syncing ∧ h.th.oRole = .active) ∧
    (let h := A (as .standby .running ∘ fun h => h.modTh fun t => { t with lostAt := some (now - tNs 200) })
     h.th.lostAt = some (now - tNs 200) ∧ h.th.fenced = false ∧ now - tNs 200 + tNs 200 ≤ now ∧ h.glb.dev.inService = true ∧
       h.glb.role = .standby ∧ h.below 4 0x93 = true ∧ h.below 4 0xF5 = true) ∧
    (A (bank [(BK.SD_SEV 0x97, 1)])).below 2 0x97 = true ∧
    (let h := A (as .syncing .configured ∘ fun h => h.modTh fun t => { t with lostAt := some (now - tNs 200) })
     h.glb.role = .syncing ∧ h.pw.whole = none ∧ h.pw.ramp = none) ∧
    (let h := A (as .off .configured ∘ fun h => h.modTh fun t => { t with confAt := now - tUs 3 })
     h.glb.role = .off ∧ h.th.stayOff = false ∧ h.th.fenced = false ∧ max h.th.activeHbAt h.th.confAt + tUs 3 ≤ now ∧
       together h = false ∧ h.below 4 0xF5 = true) := by decide +kernel

/-- The package with Half A changed by f and Half B, STANDBY, by g. -/
def st2 (f g : Half → Half) : State := ⟨now, f (base .a), g ((base .b).modGlb fun g => { g with role := .standby }), []⟩

theorem witness_RoleAndFenceLinesAct :
    (let s := st2 (hears .active ∘ as .standby .running) (fun h => h.modTh fun t => { t with roleLow := now - tNs 200 })
     let h := s.at ev; let o := (s.cx ev).other
     h.runs = true ∧ h.glb.dev.inService = true ∧ h.glb.role = .standby ∧ h.th.fenced = false ∧ roleOn now o.th = false ∧
       h.th.oRole = .active ∧ o.th.roleLow + tNs 200 ≤ now ∧ dropAnnounced (s.cx ev) h = false ∧ h.th.oFencedMsg = false ∧
       h.below 4 0x93 = true ∧ h.below 2 0x97 = true ∧ h.below 4 0xF5 = true) ∧
    (let s := st2 (fun h => (h.modGlb fun g => { g with preferred := true }).modTh fun t => { t with
          roleLine := true, roleHigh := now - tNs 50 - 1 }) (fun h => h.modTh fun t => { t with roleLine := true })
     let h := s.at ev; let o := (s.cx ev).other
     h.runs = true ∧ h.glb.preferred = true ∧ h.th.roleLine = true ∧ o.th.roleLine = true ∧
       liveReq h.th.fenceReq o.pk.rstAt = none ∧ max h.th.roleHigh o.th.roleHigh + tNs 50 < now) ∧
    (let s := st2 id (fun h => h.modTh fun t => { t with fenceReq := some (now - tNs 10) })
     let h := s.at ev
     arbiter (s.cx ev) h = true ∧ h.th.fenced = false ∧ h.glb.dev ≠ .lullOnly ∧ h.glb.dev.inService = true ∧
       h.glb.role = .active) ∧
    (let s := st2 (fun h => h.modTh fun t => { t with roleLine := true, roleHigh := now }) (fun h => h.modTh fun t => { t with
        roleLow := now - tNs (10 * h.bn BK.RED_GAP_NS) })
     let h := s.at ev; let o := (s.cx ev).other
     h.glb.role = .active ∧ h.th.fenced = false ∧ h.glb.own = false ∧ roleOn now h.th = true ∧ h.protecting = false ∧
       roleOn now o.th = false ∧ o.th.roleHigh ≤ now ∧ o.glb.own = false ∧
       o.th.roleLow + tNs (10 * h.bn BK.RED_GAP_NS) ≤ now) ∧
    (let h := A (bank [(BK.RED_FENCE_LIMIT, 0)] ∘ as .syncing .configured ∘ fun h => (h.modTh fun t => { t with run := 1024 }).modGlb
        fun g => { g with preferred := true })
     h.glb.dev.inService = true ∧ h.glb.role = .syncing ∧ 1024 ≤ h.th.run ∧ h.th.compared = false ∧ h.glb.sealedAt = none ∧
       h.below 4 0xF5 = true ∧ h.below 2 0x99 = true ∧ isBarred now h = true ∧ h.th.barRaised = false) := by
  decide +kernel

theorem witness_GanderJudges :
    (let h := A fun h => h.modTh fun t => { t with ownDigest := some (7, .normal, 1) }
     h.runs = true ∧ h.glb.dev.inService = true ∧ h.glb.started = true ∧ (7#16).toNat = h.glb.cycle % 65536 ∧
       h.th.lanesRx ≠ 0 ∧ h.th.ownDigest = some (h.glb.cycle, .normal, 1) ∧ h.th.compared = false ∧ h.th.check = none ∧ h.th.failAt = none) ∧
    (let h := A fun h => (h.modTh fun t => { t with ownDigest := some (7, .normal, 1) }).modGlb
        fun g => { g with t0 := now - tNs (g.ts + 400 + wrapNs g) }
     h.th.ownDigest ≠ none ∧ h.th.compared = false ∧ h.glb.t0 + tNs (h.glb.ts + 400 + wrapNs h.glb) ≤ now) ∧
    (let h := A (hears .standby ∘ fun h => h.modTh fun t => { t with notCmp := 999 })
     h.glb.role = .active ∧ h.th.oRole = .standby ∧ 16 ≤ h.th.notCmp ∧ h.th.notCmp < 1000) ∧
    (let h := A (as .standby .running ∘ fun h => h.modTh fun t => { t with check := some 7 })
     h.th.check ≠ none ∧ h.th.ownVerdict = none ∧ h.glb.dev.inService = true ∧ h.glb.role = .standby) ∧
    (let h := A (hears .standby ∘ fun h => h.modTh fun t => { t with check := some 7 })
     h.glb.role = .active ∧ hasFollower h = true ∧ h.th.oVerdict = none) ∧
    (let h := A fun h => h.modTh fun t => { t with failAt := some now }
     h.th.failAt = some now ∧ h.glb.role = .active ∧ now ≤ now) := by decide +kernel

/-- A self-check fails where an operand reports a residue in the mismatching cycle. -/
theorem witness_GanderJudges_verdict : ∀ h u, h.th.check = some h.glb.cycle → selfVerdict h true u ≠ 0 := by
  intro h u hc; simp [selfVerdict, hc, b2n]

theorem witness_HalvesLeaveAndReturn :
    (let h := A (hears .standby ∘ bank [(BK.RED_REVERT_EN, 1), (BK.RED_REVERT_S, 60), (BK.RED_FENCE_LIMIT, 1)] ∘
        fun h => h.modTh fun t => { t with oClean := 60 })
     h.runs = true ∧ revertReady now h = true ∧ announced h = none ∧ h.glb.started = true) ∧
    (let h := A (as .standby .running); h.glb.dev ≠ .lullOnly ∧ wbit 1#32 0 = true ∧ h.glb.role = .standby ∧ h.th.leaving = none) ∧
    (A id).glb.role = .active ∧
    (let h := A fun h => (as .fenced .running h).modTh fun t => { t with leaving := some (now - tUs 10) }
     h.th.leaving = some (now - tUs 10) ∧ now - tUs 10 + tUs 10 ≤ now) ∧
    (wbit 2#32 1 = true ∧ (A (as .standby .running)).glb.role = .standby) ∧
    (let h := A (as .off .safe); h.glb.role = .off ∧ h.pw.whole = none ∧ h.pw.ramp = none) ∧
    wbit 4#32 2 = true ∧
    (let h := A fun h => h.modTh fun t => { t with crcHist := List.replicate 15 now }
     h.th.lanesRx ≠ 0 ∧ 15 ≤ (h.th.crcHist.filter fun a => decide (now < a + tMs 1)).length) ∧
    (let h := A id; laneOn h = true ∧ (1 : Fin 3).val < laneCount h.th.lanesRx) := by decide +kernel

theorem witness_RelaysAndTransfersArrive :
    (let h := A (onRing id); h.runs = true ∧ h.glb.dev ≠ .lullOnly ∧ h.glb.dev.inService = true ∧ h.glb.started = true ∧
      svcFrom ⟨0, [], 0⟩ = 0 ∧ laneOn h = true ∧ h.glb.role = .active ∧ h.th.lanesRx ≠ 0 ∧
      h.th.fenced = false ∧ h.glb.cycle < (9#32).toNat ∧ (7#32).toNat ≤ h.glb.cycle ∧ (h.ring 0).wrapped = false) ∧
    (let f := reply 0x05 [fld 5 0]; svcFrom f ≠ 0 ∧ svcKind f = 0x05) ∧
    (let h := A (bound .active ∘ onRing id); let f := reply 0x10 [1]
     svcFrom f ≠ 0 ∧ svcKind f = 0x10 ∧ h.glb.role = .active ∧ boundAt h 0 (svcFrom f) = some 0 ∧ waveRing h 0 = none) ∧
    (let r : EvRec := ⟨0xD0, 0, .b, false, 0, 0, 0, 0, 0⟩; let h := A fun h => h.modSd fun x => { x with queue := List.replicate 511 (0, r) }
     h.glb.role = .active ∧ r.shared = false ∧ h.sd.queue.length < 512) ∧
    (let r : EvRec := ⟨0x41, 0, .b, true, 0, 0, 0, 0, 0⟩; let h := A fun h => h.modSd fun x => { x with sharedRecs := [recKey r] }
     r.shared = true ∧ h.sd.sharedRecs.contains (recKey r) = true) ∧
    (let h := A fun h => (h.modGlb fun g => { g with mv := .run }).modSd fun x => { x with decided := [(0x85, 7)] }
     h.glb.mv ≠ .stopped ∧ h.glb.mv ≠ .tripped ∧ hasDecided h 0x84 7 = false ∧ hasDecided h 0x85 7 = true) ∧
    (A fun h => h.modTh fun t => { t with lanesRx := 0 }).th.lanesRx = 0 ∧
    isFenced .a (A id) (.ring 11) = false ∧
    ((0x1001 : BitVec 13).getLsbD 12 = true ∧ (0x800001 : BitVec 24).getLsbD 23 = true) ∧
    (let h := A (as .standby .running ∘ fun h => h.modMe fun m => { m with armed := true, frozen := List.replicate 15 default })
     h.me.armed = true ∧ h.glb.role = .standby ∧ h.me.opened = none ∧ h.me.frozen.length < 16 ∧ h.tb.step = none) ∧
    (A fun h => h.modMe fun m => { m with frozen := List.replicate 16 default }).me.frozen.length = 16 ∧
    (let h := A fun h => (as .standby .running h).modTh fun t => { t with oRole := .active }
     followsDispute h = true ∧ (7#32).toNat = h.glb.cycle % 2 ^ 32 ∧ h.glb.sealedAt = none) := by
  decide +kernel

theorem witness_RelaysAndTransfersArrive_parts :
    (let h := A fun h => (as .active .safe h); h.glb.dev.inService = false ∧ onRings h = true) ∧
    (onRings (A (as .off .booting)) = false ∧ laneOn (A fun h => { h with ck := { h.ck with pll := default } }) = false) ∧
    (let f := reply 0x05 [fld 5 0]; let g : SvcFrame := { f with start := f.start ||| fld 16 13 }; svcFrom f ≤ 16 ∧ 16 < svcFrom g) ∧
    (let r : EvRec := ⟨0xD0, 0, .b, false, 0, 0, 0, 0, 0⟩
     512 ≤ (A fun h => h.modSd fun x => { x with queue := List.replicate 512 (0, r) }).sd.queue.length) ∧
    isFenced .a (A fun h => h.modSd fun x => { x with ringFence := 0x800 }) (.ring 11) = true ∧
    (let h := A (onRing fun r => { r with wrapped := true }); (h.ring 0).wrapped = true) ∧
    (let h := A (as .standby .running); h.glb.role ≠ .active ∧ h.me.armed = false ∧ h.me.opened.any (fun r => r.num == 7) = false) ∧
    (A fun h => h.modTb fun t => { t with step := some (9, 1) }).tb.step ≠ none ∧ followsDispute (A id) = false ∧
    (let s := st2 (as .syncing .configured ∘ fun h => { h.modTh (fun t => { t with gotSlow := true }) with
          xf := { h.xf with next := vset h.xf.next 1 (some 0x40) } })
        (fun h => { h with xf := { h.xf with oxOut := some ⟨9, default⟩, ltOut := some ⟨9, default⟩ } })
     let h := s.at ev; let o := (s.cx ev).other
     h.runs = true ∧ h.glb.role = .syncing ∧ h.th.lanesRx ≠ 0 ∧ takesPart .slow h = true ∧ takesPart .ox h = true ∧ takesPart .lt h = true ∧
       vget h.xf.next (partIdx .ox) = some 0x40 ∧ vget h.xf.next (partIdx .lt) ≠ some 0x40 ∧
       o.xf.oxOut.map (·.1) = some (9#64).toNat ∧ o.xf.ltOut.map (·.1) = some (9#64).toNat) ∧
    (let h := A (as .active .running); h.th.lanesRx ≠ 0 ∧ takesPart .slow h = false) ∧
    (let h := A fun h => (as .standby .running h).modOx fun o => { o with installAt := some 9 }
     h.glb.role ≠ .syncing ∧ takesPart .ox h = true) ∧
    (let s := st2 (as .syncing .configured) (as .active .running)
     (s.at ⟨.a, now⟩).glb.role = .syncing ∧ (s.at ⟨.b, now⟩).runs = true ∧ (s.at ⟨.b, now⟩).glb.role = .active) := by
  decide +kernel
theorem witness_RelaysAndTransfersArrive_version : Config.tetherMajor + 1 ≠ Config.tetherMajor := by simp

/-- A slot of ring 0 from position 1. -/
def slot1 : SlotRec := slotFields 0 (fld 0x55 0) 0

theorem witness_CyclesSeal :
    (let h := A fun h => h.modGlb fun g => { g with nextT0 := h.tb.now }
     h.runs = true ∧ t0Due h = true ∧ h.glb.role ≠ .updating) ∧
    (let h := A (hears .standby ∘ fun h => h.modGlb fun g => { g with t0 := now - tNs (g.ts - 40) })
     h.glb.role = .active ∧ h.glb.dev.inService = true ∧ h.glb.started = true ∧ h.glb.sealedAt = none ∧ h.th.hdrSent = false ∧
       h.glb.t0 + tNs (h.glb.ts - 40) ≤ now ∧ hasFollower h = true ∧ h.th.lanesTx ≠ 0) ∧
    (let h := A ((fun h => h.modGlb fun g => { g with t0 := now - tNs (g.ts - 20) }) ∘ bound .active ∘ onRing id)
     gathering h = true ∧ (h.ring 11).trains = 0 ∧ h.glb.t0 + tNs (h.glb.ts - 20) ≤ now ∧ h.th.lanesTx ≠ 0) ∧
    (let h := A ((fun h => h.modGlb fun g => { g with t0 := now - tNs (g.ts + wrapNs g) }) ∘ bound .active ∘ onRing id)
     sealDue now h = true) ∧
    (let h := A (as .standby .running)
     h.th.lanesRx ≠ 0 ∧ h.glb.dev.inService = true ∧ h.glb.role = .standby ∧ h.glb.sealedAt = none) ∧
    (let h := A (as .standby .running ∘ fun h => h.modGlb fun g => { g with sealedAt := some now })
     h.glb.sealedAt ≠ none ∧ h.glb.role = .standby ∧ h.ox.abstain = false ∧ h.ox.snapDigest + 1 ≠ h.ox.snapDigest) ∧
    (let h := A (onRing fun r => { r with slots := [slot1] })
     h.glb.started = true ∧ h.glb.sealedAt = none ∧ h.th.lanesTx ≠ 0 ∧ slot1 ∈ (h.ring 0).slots ∧ (h.ring 0).sentRecs.getLsbD slot1.pos.val = false ∧
       (h.ring 0).slots = [slot1] ∧
       (0 : BitVec 16).getLsbD slot1.pos.val = false) := by decide +kernel

theorem witness_CyclesDispatch :
    (let h := A fun h => ((bank [(BK.OX_ISENSE_CNT, 3), (BK.OX_AGE_HOLD, 10)] h).modGlb fun g => { g with sealedAt := some now }).modCell 0
        fun c => { c with satCnt := 100, isenseCnt := 3, id := { c.id with capSince := some (now - tSec 10), indSince := some (now - tSec 10) } }
     h.runs = true ∧ afterSeal h = true ∧ (h.cell 0).satCnt = 100 ∧ (h.cell 0).isenseCnt = h.bn BK.OX_ISENSE_CNT ∧
       aged now h (h.cell 0).id.capSince (h.cell 0).id.capLatch = true ∧
       aged now h (h.cell 0).id.indSince (h.cell 0).id.indLatch = true) ∧
    (let h := A fun h => { h with ox := { h.ox with prePhase := 1, preAt := now - tMs (h.bn BK.OX_PRE_TPASS) } }
     h.ox.prePhase = 1 ∧ h.ox.preRaised = false ∧ h.ox.preAt + tMs (h.bn BK.OX_PRE_TPASS) ≤ now) ∧
    (let h := A fun h => h.modGlb fun g => { g with sealedAt := some now, t0 := now - tNs (g.ts + 160 + wrapNs g) }
     dispatchDue now h = true ∧ h.th.lanesTx ≠ 0 ∧ digStatus (noteResidue 1 h) = .residue) ∧
    (let p : LtPass := { (default : LtPass) with start := now - tNs 120 }
     let h := A fun h => { h with lt := { h.lt with pass := some p } }
     h.glb.dev.inService = true ∧ h.lt.pass = some p ∧ p.start + passLen h p * ltClk h ≤ now) ∧
    (let h := A fun h => h.modGlb fun g => { g with t0 := now - tNs g.ta }
     h.glb.started = true ∧ h.glb.applied = false ∧ h.glb.t0 + tNs h.glb.ta ≤ now) := by decide +kernel

/-- A port of the tests. -/
def port (p : Nat) (f : Port → Port) (h : Half) : Half := h.modPort p f

def ann : AnnounceMsg := { (default : AnnounceMsg) with ptpTimescale := true }
def sync1 : SyncMsg := ⟨9, 0, 5, false, 0, 0⟩

theorem witness_PtpFollowsItsMaster :
    (let h := A fun h => (h.modTb fun t => { t with disc := 1 }).modNet fun n => { n with lost := false, usedAt := now - tMs (h.bn BK.PTP_LOSS_MS) }
     h.runs = true ∧ netUp h = true ∧ h.below 4 0xDC = true ∧ h.tb.disc = 1 ∧ h.net.lost = false ∧ h.net.usedAt + tMs (h.bn BK.PTP_LOSS_MS) ≤ now ∧
       (portOf h 1).link = true ∧ portOk h 0 = true ∧ portOk h 1 = true) ∧
    (let h := A fun h => h.modNet fun n => { n with masters := [⟨1, ann, now - h.bn BK.PTP_ANN_TIMEOUT * annInterval ann, false⟩] }
     h.net.masters.any (fun x => x.port == 1 && x.m.source == ann.source &&
        decide (x.lastAt + h.bn BK.PTP_ANN_TIMEOUT * annInterval x.m ≤ now)) = true) ∧
    (let h := A (bank [(BK.PTP_DOMAIN, 0), (BK.PTP_CLASS_MAX, 7)]); annOk h ann = true ∧ annOk h { ann with steps := 255 } = false) ∧
    (let h := A fun h => (((bank [(BK.PTP_DOMAIN, 0)] h).modTb fun t => { t with disc := 1, st := 2 }).modNet
        fun n => { n with sel := some (1, 9) })
     h.net.sel = some ((1 : PortNo).val, sync1.source) ∧ sync1.domain = h.bn BK.PTP_DOMAIN ∧ sync1.twoStep = false ∧
       h.tb.disc = 1 ∧ h.tb.st ≠ 1) ∧
    (let x : BitVec 80 × BitVec 16 × Int × Nat := (9, 5, 0, now - tSec 1)
     let h := A (port 1 fun q => { q with pend := [x] })
     x ∈ (portOf h 1).pend ∧ x.1 = sync1.source ∧ x.2.1 = sync1.seq ∧ now ≤ x.2.2.2 + tSec 1) ∧
    (let h := A id; (portOf h 0).req = none ∧ (portOf h 0).egress = [] ∧ (portOf h 0).busy ≤ now) ∧
    (let h := A (port 0 fun q => { q with busy := now + 1 }); now < (portOf h 0).busy ∧ (portOf h 0).egress = []) ∧
    (let h := A (port 0 fun q => { q with req := some (0, false), reqSeq := 4, reqAt := now - tSec 1, two := some (1, 2, 3) })
     openReq now h 0 4 = some 0 ∧ (portOf h 0).two = some (1, 2, 3) ∧ (portOf h 0).egress = []) := by decide +kernel

/-- A stream that publishes: 4,000 samples a second, one to a frame. -/
def publishing (h : Half) : Half :=
  let h := bank [(BK.SV_RATE 0, 4000), (BK.SV_NOASDU 0, 1)] h
  h.modNet fun n => { n with svCfg := [⟨249999000000, h.glb.live, 1, 0, 0⟩] }

/-- The next frame of stream 0 is late. -/
def svDue (h : Half) : Bool :=
  match nextFrame h 0 with
  | some x => decide (addI (x.tLast 0) x.shift + 1000 * publishDelay h x.cfg.bank 0 + 20000 < h.ns)
  | none => false

/-- A GOOSE frame for control block 15. -/
def goose1 : GooseFrame := { (default : GooseFrame) with appid := 5, stNum := 3, sqNum := 1, data := [.bool true] }

/-- Control block 15 takes goose1 at port 1, and point 63 its first element. -/
def subscribed (h : Half) : Half :=
  bank [(BK.GO_CB_EN 15, 1), (BK.GO_CB_PORTS 15, 2), (BK.GO_CB_APPID 15, 5), (BK.GO_PT_CB 63, 15), (BK.GO_PT_ENTRY 63, 0),
    (BK.GO_PT_BIT 63, 0xFF), (BK.GO_PT_FAIL 63, 1)] h

theorem witness_StationFramesAct :
    (let h := A publishing
     h.runs = true ∧ netUp h = true ∧ h.glb.dev.inService = true ∧ h.below 4 0xD6 = true ∧ h.below 4 0xDC = true ∧
     svDue h = true ∧ wasActive 0 h = true ∧ (vget h.net.sv 0).late = none) ∧
    (let h := A fun h => (subscribed h).modGo 15 fun g => { g with seen := true, expiry := now - 1 }
     goAlive h 15 = true ∧ (goOf h 15).expiry < now ∧ h.below 4 0xD8 = true ∧ h.below 4 0xD9 = true ∧ h.below 4 0xDA = true ∧ h.below 4 0xDB = true ∧
       63 ∈ pointsOf h 15 ∧ h.bn (BK.GO_PT_FAIL 63) = 1) ∧
    (let h := A fun h => (bank [(BK.ETH_MODE, 1), (BK.PRP_LIFE_MS, 2000)] h).modNet fun n => { n with supAt := now - tSec 2 }
     ethMode h = 1 ∧ h.net.supAt + tMs (h.bn BK.PRP_LIFE_MS) ≤ now ∧ portOk h 1 = true ∧ (portOf h 1).egress = [] ∧
       (portOf h 1).busy ≤ now) ∧
    (let h := A (port 1 (fun q => { q with trailAt := now - tSec 6 }) ∘ bank [(BK.ETH_MODE, 1), (BK.PRP_LIFE_MS, 2000)])
     ethMode h = 1 ∧ (portOf h 1).lanQuiet = false ∧ h.sd.ethFence.getLsbD 1 = false ∧ (portOf h 1).trailAt + tMs (3 * h.bn BK.PRP_LIFE_MS) ≤ now) ∧
    (let h := A fun h => h.modNet fun n => { n with fcs := List.replicate 15 (now - tSec 1) }
     (portOf h 0).link = true ∧ 15 ≤ (h.net.fcs.filter fun a => decide (now ≤ a + tSec 1)).length) ∧
    (let h := A (bank [(BK.ETH_MODE, 2)])
     forwarding h = true ∧ (portOf h 1).egress = [] ∧ (portOf h 1).busy ≤ now) ∧
    (let x : PrpTrailer := ⟨7, 0xB, 52, 0x88FB⟩
     let h := A fun h => (bank [(BK.ETH_MODE, 1), (BK.PRP_FORGET_MS, 400)] h).modNet
        fun n => { n with nodes := List.replicate 127 default ++ [⟨8, now, [(0, 7, now)]⟩] }
     (prpAccept now 1 8 x h).1 = false ∧ portOk h 1 = true) ∧
    (A id).net.nodes.length < 128 ∧
    (let h := A subscribed
     goMatch h 1 goose1 = some 15 ∧ goose1.prp = none ∧ goose1.sim = false ∧ (goOf h 15).sim = false ∧ goose1.ndsCom = false ∧
       h.bw (BK.GO_CB_CONFREV 15) = 0#32 ∧ (∀ j ∈ pointsOf h 15, (pointValue h goose1.data j).isSome = true) ∧
       goAlive h 15 = false ∧ pointValue h goose1.data 63 = some true) ∧
    (let h := A fun h => (subscribed h).modGo 15 fun g => { g with seen := true, st := 3, sq := 1 }
     ¬(goAlive h 15 = false ∨ (goOf h 15).st ≠ goose1.stNum ∨ (goOf h 15).sq.toNat < goose1.sqNum.toNat)) ∧
    (A fun h => h.modGo 15 fun g => { g with sim := true, badRun := true }).net.go[15].sim = true := by decide +kernel

/-- A frame whose address is no port's of Half A. -/
theorem witness_StationFramesAct_address : ∃ f : EthFrame, f.fcsOk = true ∧ f.dst ≠ Config.mac .a 0 ∧ f.dst ≠ Config.mac .a 1 ∧
    f.kind ≠ .pdelay ∧ f.kind ≠ .delayReqResp := by
  have key : ∃ x : BitVec 48, x ≠ Config.mac .a 0 ∧ x ≠ Config.mac .a 1 := by
    by_contra h
    push Not at h
    have h1 := h (Config.mac .a 0 + 1) (by simp)
    have h2 := h (Config.mac .a 0 + 2) (by simp)
    rw [← h2] at h1
    simp at h1
  obtain ⟨x, h0, h1⟩ := key
  exact ⟨⟨x, 0, .other, true, []⟩, rfl, h0, h1, by simp, by simp⟩

/-- What Config.sha384 and Config.ecdsaValid answer is not known to the model, so that an image that verifies is a
hypothesis here; no image of another magic verifies. -/
theorem witness_ImagesAreTaken :
    (let h := A (as .off .booting)
     h.runs = true ∧ h.glb.dev = .booting ∧ h.tm.waitKey = none ∧ (pllOf h 0).locked = true ∧ h.pw.whole = none ∧
       ∀ x, verifies .a h 0 (fwImage ⟨false, false, false, false, image0, image0, image0, image0⟩ x) = false) ∧
    (∀ (i : Image) (x : Bool), let h := A (as .off .booting); let f : Flash := ⟨x, false, false, false, i, i, i, i⟩
     verifies .a h 0 i = true → (bootOrder h f.fwActive).find? (fun x => verifies .a h 0 (fwImage f x)) = some x) ∧
    (let h := A fun h => { as .off .booting h with tm := { h.tm with ckey := some 1 } }; ckeySet .a h = true) ∧
    (let f : Flash := default
     let h := A fun h => { as .off .booting h with tm := { h.tm with waitKey := some f } }
     h.tm.waitKey = some f ∧ h.glb.dev = .booting ∧ wbits 0xA500#32 15 8 = 0xA5) ∧
    (let h := A fun h => { h with tm := { h.tm with upd := 1, updDesc := some (Vector.replicate 16 0), updImage := 2, fwNodes := [143] } }
     h.tm.upd = 1 ∧ h.tm.updDesc ≠ none ∧ h.glb.dev.inService = true ∧ verifies .a h h.tm.updImage image0 = false ∧
       h.tm.updImage = 2 ∧ h.tm.fwNodes ≠ []) ∧
    (let h := A fun h => { h with tm := { h.tm with trialCfg := true, bootEnd := now - tSec 60 } }
     h.tm.trialCfg = true ∧ h.glb.dev ≠ .lullOnly ∧ h.glb.dev ≠ .booting ∧ h.tm.bootEnd + tSec 60 ≤ now) := by
  have other : ∀ h : Half, ∀ ty, verifies .a h ty image0 = false := fun h ty => rfl
  refine ⟨?_, ?_, by decide +kernel, by decide +kernel, ?_, by decide +kernel⟩
  · have h5 : (let h := A (as .off .booting)
       h.runs = true ∧ h.glb.dev = .booting ∧ h.tm.waitKey = none ∧ (pllOf h 0).locked = true ∧ h.pw.whole = none) := by
      decide +kernel
    exact ⟨h5.1, h5.2.1, h5.2.2.1, h5.2.2.2.1, h5.2.2.2.2, fun x => by cases x <;> exact other _ _⟩
  · intro i x h f hv
    have hx : verifies .a h 0 (fwImage f x) = true := by cases x <;> exact hv
    show (bootOrder h x).find? _ = some x
    have hb : bootOrder h x = [x, !x] := by cases x <;> rfl
    rw [hb, List.find?_cons, hx]
  · refine ⟨rfl, ?_, rfl, other _ _, rfl, ?_⟩
    · show some _ ≠ none
      simp
    · show [143] ≠ []
      simp

theorem witness_WritesReachRegisters :
    (let h := A id; h.runs = true ∧ coreUp h = true ∧ (0xFFFFC : Nat) < 0x100000 ∧ (0xFFFFD : Nat) % 4 ≠ 0 ∧ regRow 0x80 = none ∧
      gated h (accDomain (RG.CAN_CNT_CLR 1)) = false) ∧
    (let h := A fun h => h.modPw fun p => { p with up := 1 }
     regRow RG.ETH_CNT_FCS ≠ none ∧ gated h (accDomain RG.ETH_CNT_FCS) = true) ∧
    (let h := A id; (regRow (RG.HR_CTRL 11)).isSome = true ∧ ownRule (RG.HR_CTRL 11) = false ∧
      (counterWrite (RG.HR_CTRL 11) 0#32 h).isNone = true) ∧ wbit 0x40#32 6 = true ∧
    (let h := A (regs [(msixPba, 0x80000000)] ∘ fun h => h.modHi fun i => { i with msixOn := true, msixMask := false })
     (31 : Nat) < 32 ∧ wbit 2#32 0 = false ∧ h.getF msixPba 31 31 = 1 ∧ canWrite h = true ∧ h.hi.msixOn = true ∧ h.hi.msixMask = false) := by decide +kernel

/-- Command ring 7 with one descriptor posted. -/
def ring7 (h : Half) : Half :=
  regs [(RG.CR_CFG 7, 16), (RG.CQ_CFG 0, 16), (RG.CQ_CFG 7, 16), (RG.DB_CR_TAIL 7, 1)] h

theorem witness_DescriptorsAreJudged :
    (let h := A ring7; h.runs = true ∧ nextRing h = some (7 : Fin 8).val) ∧
    (let h := A (hears .standby ∘ ring7 ∘ fun h => h.modTh fun t => { t with run := 1024 }); let d : Desc := dSetByte (Vector.replicate 16 0) 0 0x0B
     (judge .a h 7 (dSetByte d 24 1)).status = 1 ∧ halfOf (dByte (dSetByte d 24 1) 24) ≠ .a) := by decide +kernel

/-- A held command of ring 0 with opcode n and the bytes given. -/
def held (n : Nat) (l : List (Nat × Nat)) : Held :=
  ⟨0, 7, l.foldl (fun d x => dSetByte d x.1 x.2) (dSetByte (Vector.replicate 16 0) 0 n)⟩

theorem witness_HeldCommandsAct :
    dOp (held 0 []).d = 0x00 ∧
    (dOp (held 4 [(24, 143)]).d = 0x04 ∧ dByte (held 4 [(24, 143)]).d 24 < 144 ∧
      ((A fun h => h.modCell 143 fun c => { c with st := .active }).cell 143).st = .active) ∧
    ((A fun h => h.modCell 143 fun c => { c with st := .faulted }).cell 143).st = .faulted ∧
    (dOp (held 5 []).d = 0x05 ∧ flagsFence ((A id).cell 0) = false ∧
      ((A (fun h => h.modCell 0 fun c => { c with fenced := true })).cell 0).fenced = true) ∧
    (dOp (held 6 [(24, 11), (25, 1)]).d = 0x06 ∧ dByte (held 6 [(24, 11), (25, 1)]).d 25 ≠ 0) ∧
    (dOp (held 7 []).d = 0x07 ∧ (A id).glb.lv = .stopped ∧ (A fun h => h.modGlb fun g => { g with lv := .tripped }).glb.lv = .tripped) ∧
    (dOp (held 10 []).d = 0x0A ∧ (A fun h => h.modTb fun t => { t with step := some default }).tb.step.isSome = true) ∧
    (let x := held 11 [(24, 1)]
     dOp x.d = 0x0B ∧ (A id).glb.role = .active ∧ halfOf (dByte x.d 24) ≠ .a ∧ halfOf (dByte (held 11 []).d 24) = .a ∧
       (A (hears .standby)).th.oRole = .standby ∧ (A id).th.oRole ≠ .standby ∧ (A id).th.run < 1024 ∧
       1024 ≤ (A fun h => h.modTh fun t => { t with run := 1024 }).th.run) ∧
    (dOp (held 14 []).d = 0x0E ∧ 0x0F ≤ dOp (held 15 []).d) := by decide +kernel

/-- A state that is safe and whose registers are in their form steps: a command waits after reset. -/
theorem witness_EveryStep :
    let s : State := { State.reset with pending := [.ganderBlind ev] }
    s.safe = true ∧ s.regsOk = true ∧ (match step s with | .next _ => True | _ => False) := by
  refine ⟨?_, ?_, trivial⟩ <;> decide +kernel

theorem witness_EveryStep_idle : step State.reset = .next State.reset ∧ State.reset.pending = [] := ⟨rfl, rfl⟩

/-- Every frame, isolation and reset statement asks that exec answers a next state: it does, from the tests' state. -/
theorem witness_Frames : ∀ i ∈ [Instr.markerSend ev 0, .disputeOpen ev 0, .reload ev 0, .gustBlock ev, .cqHead ev 0 0,
      .glbCycleLo ev, .ptpGmLo ev, .canTxSuccess ev 0, .slewEnd ev, .reset ev, .t0 ev, .signalDetect ev 11, .forcePulseEnd ev 12],
    ∃ t, exec i (st id) = .next t := by
  intro i hi
  simp only [List.mem_cons, List.not_mem_nil, or_false] at hi
  rcases hi with rfl | rfl | rfl | rfl | rfl | rfl | rfl | rfl | rfl | rfl | rfl | rfl | rfl <;> exact ⟨_, rfl⟩

theorem witness_TheOtherHalfOnlySeesTimePass : ∀ e k x m, Instr.ganderBlind ev ≠ .stateXfer e k x m := by simp

theorem witness_HaltedHalvesWait : always (.ganderBlind ev) = false ∧
    ((st fun h => h.modPk fun p => { p with halt := true }).at ev).runs = false ∧
    ((st fun h => h.modPk fun p => { p with low := true }).at ev).runs = false := by decide +kernel

theorem witness_ResetKeepsTheLullDomain : regDomain RG.PWR_STATUS = .lull ∧ (A id).pw.pend = false ∧ (A id).me.trig = [] := by
  decide +kernel

theorem witness_RingsAndPairsStayApart : (11 : Nat) < 12 ∧ (0 : PairNo).val ≠ 11 ∧ (12 : Fin 13).val ≠ 11 := by decide

theorem witness_MisalignedAccessesAreIgnored : (A id).runs = true ∧ coreUp (A id) = true ∧
    accAligned ⟨0, 0x14, false, 0x7, 1⟩ = false ∧ accAligned ⟨4, 1, true, 0xF, 1⟩ = false ∧ accAligned ⟨0, 0x18, false, 0xF, 2⟩ = false := by decide +kernel

theorem witness_GatedAccessesAreRefused :
    let h := A fun h => h.modPw fun p => { p with up := 1 }
    h.runs = true ∧ coreUp h = true ∧ accAligned ⟨0, RG.ETH_CNT_FCS, false, 0xF, 1⟩ = true ∧ regRow RG.ETH_CNT_FCS ≠ none ∧
      gated h (accDomain RG.ETH_CNT_FCS) = true ∧ (0x1FFF : Nat) < 0x2000 := by decide +kernel

theorem witness_TheSupplyTableTakesItsRange :
    (let h := A id; h.runs = true ∧ h.glb.dev ≠ .lullOnly ∧ vIndex h = (0 : Fin 4).val ∧ domUp h 0 = true ∧ h.glb.role = .active ∧
      h.glb.dev.inService = true ∧ 4 * (650#32).toNat ≠ h.pw.target) ∧
    (650 ≤ (900#32).toNat ∧ (900#32).toNat ≤ 900 ∧ (900#32).toNat % 5 = 0) ∧
    ¬(650 ≤ (905#32).toNat ∧ (905#32).toNat ≤ 900 ∧ (905#32).toNat % 5 = 0) ∧ (A (as .off .configured)).glb.role ≠ .active := by
  decide +kernel

theorem witness_HeartbeatsAreLostAfterThreeMicroseconds :
    (let h := A fun h => h.modTh fun t => { t with hbAt := now - tUs 3 }
     h.runs = true ∧ h.glb.dev ≠ .lullOnly ∧ h.th.hbOk = true ∧ decide (now < h.th.hbAt + tUs 3) = false) ∧
    decide (now < (A fun h => h.modTh fun t => { t with hbAt := now - tUs 3 + 1 }).th.hbAt + tUs 3) = true := by decide +kernel

theorem witness_ReadsShowTheState : (0x80 : Nat) % 4 = 0 ∧ regRow 0x80 = none ∧ gated ((st id).half .a) 0 = false := by
  decide +kernel

/-- No row of the table gives bits. -/
theorem test_no_word_spells_a_command : decodeTableWord 32 0 = none := rfl

end Sys2Proof.Tests
end

section
/-! SUPPORT. Flagged accesses (R3, R526 to R529): what a flag sets, what it leaves alone, and that the access itself does
nothing else. -/
namespace Sys2Proof.Machine

/-! ### Fields of one bit -/

/-- A field of one bit reads as that bit. -/
theorem wbits_bit (w : Word) (i : Nat) : wbits w i i = b2n (w.getLsbD i) := by
  have hi : i + 1 - i = 1 := by omega
  rw [wbits, hi, pow_one, ← Nat.toNat_testBit, ← BitVec.getLsbD]
  cases w.getLsbD i <;> rfl

/-- A field that is put into place gives the bits of its range, and leaves every other bit as it was. -/
theorem getLsbD_wset (w : Word) (hi lo v i : Nat) (h32 : i < 32) :
    (wset w hi lo v).getLsbD i = if lo ≤ i ∧ i ≤ hi then v.testBit (i - lo) else w.getLsbD i := by
  have hm : (2 ^ (hi + 1 - lo) - 1).testBit (i - lo) = decide (i - lo < hi + 1 - lo) := Nat.testBit_two_pow_sub_one _ _
  have h32' : i - lo < 32 := by omega
  simp only [wset, BitVec.getLsbD_or, BitVec.getLsbD_and, BitVec.getLsbD_not, BitVec.getLsbD_shiftLeft,
    BitVec.getLsbD_ofNat, hm, h32, h32', decide_true, Bool.true_and]
  by_cases hlo : lo ≤ i
  · by_cases hhi : i ≤ hi
    · have : i - lo < hi + 1 - lo := by omega
      simp [hlo, hhi, this, show ¬ i < lo by omega]
    · have : ¬ i - lo < hi + 1 - lo := by omega
      simp [hhi, this]
  · simp [hlo, show i < lo by omega]

/-- A bit that is set reads 1. -/
theorem wbits_wset_bit (w : Word) (i : Nat) (h32 : i < 32) : wbits (wset w i i 1) i i = 1 := by
  simp [wbits_bit, getLsbD_wset _ _ _ _ _ h32, b2n]

/-- A bit outside a field stays as it was when the field is put into place. -/
theorem wbits_wset_outside (w : Word) (hi lo v i : Nat) (h32 : i < 32) (ho : i < lo ∨ hi < i) :
    wbits (wset w hi lo v) i i = wbits w i i := by
  have hn : ¬ (lo ≤ i ∧ i ≤ hi) := by omega
  rw [wbits_bit, wbits_bit, getLsbD_wset _ _ _ _ _ h32, if_neg hn]

/-! ### A W1C bit that the hardware sets -/

/-- The register that a W1C bit is set in. -/
@[simp] theorem Half.reg_setW1c_same (h : Half) (now o n : Nat) :
    (h.setW1c now o n).reg o = wset (h.reg o) n n 1 := Half.reg_putF_same h o n n 1

section
variable {os : List Nat} {ps : List Part} {a h : Half}

theorem onlyRegs_acc (c : Acc) (k : OnlyRegs os a h) : OnlyRegs os a { h with acc := c } := k

theorem onlyRegs_put (o : Nat) (v : Word) (k : OnlyRegs os a h) (ho : o ∈ os) : OnlyRegs os a (h.put o v) :=
  k.trans (.put h v ho)

theorem onlyRegs_putF (o hi lo v : Nat) (k : OnlyRegs os a h) (ho : o ∈ os) : OnlyRegs os a (h.putF o hi lo v) :=
  onlyRegs_put o _ k ho

theorem onlyRegs_setW1c (now o n : Nat) (k : OnlyRegs os a h) (ho : o ∈ os) : OnlyRegs os a (h.setW1c now o n) :=
  onlyRegs_acc _ (onlyRegs_putF o n n 1 k ho)

/-- A choice changes no register but those that its branches may change. -/
theorem onlyRegs_ite {c : Prop} [Decidable c] {x y : Half} (hx : OnlyRegs os a x) (hy : OnlyRegs os a y) :
    OnlyRegs os a (if c then x else y) := by
  split
  · exact hx
  · exact hy

theorem kept_acc (c : Acc) (k : Kept ps a h) (hq : .acc ∈ ps) :
    Kept ps a { h with acc := c } :=
  k.next .acc hq fun p hp => by cases p <;> simp at hp <;> simp [Part.eq]

theorem kept_setW1c (now o n : Nat) (k : Kept ps a h) (hr : .regs ∈ ps) (ha : .acc ∈ ps) :
    Kept ps a (h.setW1c now o n) := kept_acc _ (kept_putF o n n 1 k hr) ha

end

/-! ### A flagged access (R528) -/

/-- A flag changes registers and the notes on accesses, and no other part. -/
theorem kept_flagAccess {ps : List Part} {a h : Half} (bit : Nat) (x : Access) (cx : Cx) (k : Kept ps a h)
    (hr : .regs ∈ ps) (ha : .acc ∈ ps) : Kept ps a (flagAccess bit x cx h) := by
  have flagged : Kept ps a (h.setW1c cx.now RG.GLB_ACC_ERR bit) := kept_setW1c _ _ _ k hr ha
  exact kept_acc _ (kept_putF _ _ _ _ (kept_ite (kept_put _ _ flagged hr) (kept_setW1c _ _ _ flagged hr ha)) hr) ha

/-- Of the registers a flag changes GLB_ACC_ERR and GLB_ACC_ADDR alone. -/
theorem onlyRegs_flagAccess (bit : Nat) (x : Access) (cx : Cx) (h : Half) :
    OnlyRegs [RG.GLB_ACC_ERR, RG.GLB_ACC_ADDR] h (flagAccess bit x cx h) := by
  have err : RG.GLB_ACC_ERR ∈ [RG.GLB_ACC_ERR, RG.GLB_ACC_ADDR] := by simp
  have addr : RG.GLB_ACC_ADDR ∈ [RG.GLB_ACC_ERR, RG.GLB_ACC_ADDR] := by simp
  have flagged := onlyRegs_setW1c cx.now RG.GLB_ACC_ERR bit (.refl _ h) err
  have captured (v : Word) := onlyRegs_put RG.GLB_ACC_ADDR v flagged addr
  have overflowed := onlyRegs_setW1c cx.now RG.GLB_ACC_ERR 3 flagged err
  exact onlyRegs_acc _ (onlyRegs_putF _ _ _ _ (onlyRegs_ite (captured _) overflowed) err)

/-- GLB_ACC_ERR after a flag: the access's own bit, OVERFLOW where a flag stands already, and the count. -/
theorem reg_flagAccess_err (bit : Nat) (x : Access) (cx : Cx) (h : Half) : ∃ n w,
    (w = wset (h.reg RG.GLB_ACC_ERR) bit bit 1 ∨ w = wset (wset (h.reg RG.GLB_ACC_ERR) bit bit 1) 3 3 1) ∧
    (flagAccess bit x cx h).reg RG.GLB_ACC_ERR = wset w 31 16 n := by
  refine ⟨_, _, ?_, Half.reg_putF_same _ RG.GLB_ACC_ERR 31 16 _⟩
  split
  · exact .inl ((Half.reg_put_other _ _ _ _ (by decide)).trans (Half.reg_setW1c_same h _ _ _))
  · exact .inr (by rw [Half.reg_setW1c_same, Half.reg_setW1c_same])

/-- A flagged access has its own bit of GLB_ACC_ERR set. -/
theorem getF_flagAccess (bit : Nat) (x : Access) (cx : Cx) (h : Half) (hb : bit < 3) :
    (flagAccess bit x cx h).getF RG.GLB_ACC_ERR bit bit = 1 := by
  obtain ⟨n, w, hw, hreg⟩ := reg_flagAccess_err bit x cx h
  rw [Half.getF, hreg, wbits_wset_outside _ _ _ _ _ (by omega) (.inl (by omega))]
  obtain rfl | rfl := hw
  · exact wbits_wset_bit _ _ (by omega)
  · rw [wbits_wset_outside _ _ _ _ _ (by omega) (.inl hb)]
    exact wbits_wset_bit _ _ (by omega)

/-! ### Misaligned accesses (R3, R526, R529) -/

theorem accAligned_eq_false {x : Access} (hx : x.offset % 4 ≠ 0 ∨ x.be ≠ 0xF#4 ∨ x.dwords ≠ 1) :
    accAligned x = false := by
  simp only [accAligned, Bool.and_eq_false_iff, decide_eq_false_iff_not, beq_eq_false_iff_ne]
  tauto

theorem accAligned64_eq_false {x : Access} (hx : x.offset % 8 ≠ 0 ∨ x.be ≠ 0xF#4 ∨ x.dwords ≠ 2) :
    accAligned64 x = false := by
  simp only [accAligned64, Bool.and_eq_false_iff, decide_eq_false_iff_not, beq_eq_false_iff_ne]
  tauto

/-- CORE of a half is up after time has passed as it was before. -/
@[simp] theorem coreUp_at (s : State) (e : Evt) : coreUp (s.at e) = coreUp (s.half e.half) := by
  simp [coreUp, State.at]

/-- A read that is not aligned returns 0 while CORE is up; BAR4 takes an aligned one of 64 bits besides. -/
theorem read_misaligned {s : State} {i : HalfId} {x : Access} (hc : coreUp (s.half i) = true)
    (h32 : accAligned x = false) (h64 : x.bar ≠ 4 ∨ accAligned64 x = false) : s.read i x = some 0#32 := by
  by_cases hbar : x.bar = 4
  · have h64' : accAligned64 x = false := h64.resolve_left (not_not_intro hbar)
    simp [State.read, hc, hbar, h32, h64']
  · simp [State.read, hc, hbar, h32]

/-- Through BAR0 or BAR2 a misaligned access is flagged. -/
theorem misalignedF_eq_flagAccess {x : Access} {h : Half} (cx : Cx) (hc : coreUp h = true) (hbar : x.bar ≠ 4)
    (h32 : accAligned x = false) : misalignedF x cx h = flagAccess 0 x cx h :=
  gate_pos (by simp [hc, hbar, h32])

/-- The command of a misaligned access through BAR0 or BAR2 does what its flag does, and the standing conditions. -/
theorem does_misaligned {s : State} {e : Evt} {x : Access} {P : Half → Prop} (hrun : (s.at e).runs = true)
    (hc : coreUp (s.at e) = true) (hbar : x.bar ≠ 4) (h32 : accAligned x = false)
    (hP : P (settle (s.cx e) (flagAccess 0 x (s.cx e) (s.at e)))) : Does (.misaligned e x) s P :=
  does_of (e := e) (f := misalignedF x) rfl rfl hrun (by rwa [misalignedF_eq_flagAccess _ hc hbar h32])

/-- Settles O56: the read is 0 by `read_misaligned`; the whole effect of the command is one flag, whose bit, parts and
registers the laws of `flagAccess` give. -/
theorem misalignedAccessesAreIgnored : Obligations.MisalignedAccessesAreIgnored := by
  intro s e x hrun hc hx
  have h32 : accAligned x = false := accAligned_eq_false hx
  refine ⟨fun h64 => ?_, fun hbar => does_misaligned hrun hc hbar h32 ⟨?_, ?_, ?_⟩⟩
  · exact read_misaligned (by rwa [← coreUp_at]) h32 (h64.imp_right accAligned64_eq_false)
  · rw [Half.getF, settle_reg]
    exact getF_flagAccess 0 x _ _ (by decide)
  · have kept : Kept [.regs, .acc] (s.at e) (flagAccess 0 x (s.cx e) (s.at e)) :=
      kept_flagAccess _ _ _ (.refl _ _) (by simp) (by simp)
    have me : (flagAccess 0 x (s.cx e) (s.at e)).me = (s.at e).me := kept.part .me (by decide)
    exact framed_settle _ _ _ _ kept fun _ ht => by rwa [me]
  · exact (onlyRegs_flagAccess 0 x _ _).trans (.of_regs (settle_regs _ _))

end Sys2Proof.Machine
end

section
/-! SUPPORT. The other half's heartbeat (R290): what of the redundancy state a reaction can touch, and that the loss of the
heartbeat is declared 3 µs after the last one. -/
namespace Sys2Proof.Machine

/-! ### The parts of a reaction that leave the redundancy state alone -/

/-- A choice leaves it alone where both branches do. -/
theorem th_ite {c : Prop} [Decidable c] {t : Th} {x y : Half} (hx : x.th = t) (hy : y.th = t) :
    (if c then x else y).th = t := by
  split
  · exact hx
  · exact hy

@[simp] theorem noteRaise_th (me : HalfId) (now : Nat) (u : FUnit) (b : Bool) (h : Half) :
    (noteRaise me now u b h).th = h.th := rfl

@[simp] theorem countRaise_th (s : Nat) (h : Half) : (countRaise s h).th = h.th := th_ite rfl rfl

@[simp] theorem pushRec_th (t : Nat) (r : EvRec) (h : Half) : (pushRec t r h).th = h.th := th_ite rfl rfl

@[simp] theorem record_th (cx : Cx) (s sev arg : Nat) (v : Word) (h : Half) : (record cx s sev arg v h).th = h.th :=
  th_ite rfl (th_ite (pushRec_th _ _ _) rfl)

@[simp] theorem askUnit_th (cx : Cx) (u : FUnit) (h : Half) : (askUnit cx u h).th = h.th := th_ite rfl rfl

@[simp] theorem fenceUnit_th (cx : Cx) (u : FUnit) (b : Bool) (h : Half) : (fenceUnit cx u b h).th = h.th := by
  have asked := askUnit_th cx u h
  have told (m : TMsg) : ((askUnit cx u h).tether cx.now m).th = h.th := (Half.tether_th _ _ _).trans asked
  cases u
  case none | half => rfl
  case ctx => exact th_ite rfl (th_ite asked (told _))
  case pairs => exact told _
  case conv => exact th_ite asked (told _)
  all_goals exact asked

@[simp] theorem gustDecide_th (cx : Cx) (c : Nat) (st : Bool) (tr : Option Nat) (tell : Bool) (h : Half) :
    (gustDecide cx c st tr tell h).th = h.th := th_ite rfl (th_ite (Half.tether_th _ _ _) rfl)

@[simp] theorem newClock_th (cx : Cx) (h : Half) : (newClock cx h).th = h.th := th_ite rfl rfl

@[simp] theorem markStages_th (cx : Cx) (s : Nat) (us : List Nat) (h : Half) : (markStages cx s us h).th = h.th :=
  th_ite (newClock_th cx h) ((Half.tether_th _ _ _).trans (newClock_th cx h))

@[simp] theorem tripMarks_th (cx : Cx) (n : Nat) (us : List Nat) (h : Half) : (tripMarks cx n us h).th = h.th :=
  th_ite (newClock_th cx h) ((Half.tether_th _ _ _).trans (newClock_th cx h))

@[simp] theorem decideTrip_th (cx : Cx) (src n : Nat) (tell : Bool) (h : Half) :
    (decideTrip cx src n tell h).th = h.th := th_ite rfl (gustDecide_th _ _ _ _ _ _)

@[simp] theorem stageTrip_th (cx : Cx) (src n : Nat) (us : List Nat) (h : Half) :
    (stageTrip cx src n us h).th = h.th := by
  unfold stageTrip; exact th_ite (by simp) (by simp)

@[simp] theorem reactStages_th (cx : Cx) (s sev : Nat) (us : List Nat) (h : Half) :
    (reactStages cx s sev us h).th = h.th := by
  unfold reactStages
  split
  · exact markStages_th _ _ _ _
  · exact stageTrip_th _ _ _ _ _
  · exact stageTrip_th _ _ _ _ _
  · rfl

/-! ### What a reaction can do to the redundancy state -/

/-- Of the redundancy state only the notes on this half's own fences and on its last hand-over have changed, and its
request on the fence line: what is known of the other half stands. -/
def FenceNotes (t t' : Th) : Prop := ∃ left bar hist cyc cause req, t' = { t with
  leftAt := left, barRaised := bar, fenceHist := hist, lastCycle := cyc, lastCause := cause, fenceReq := req }

theorem FenceNotes.refl (t : Th) : FenceNotes t t := ⟨_, _, _, _, _, _, rfl⟩

theorem FenceNotes.of_eq {t t' : Th} (e : t' = t) : FenceNotes t t' := e ▸ .refl t

theorem FenceNotes.trans {a b c : Th} (h1 : FenceNotes a b) (h2 : FenceNotes b c) : FenceNotes a c := by
  obtain ⟨_, _, _, _, _, _, rfl⟩ := h1
  obtain ⟨_, _, _, _, _, _, rfl⟩ := h2
  exact ⟨_, _, _, _, _, _, rfl⟩

theorem FenceNotes.hbOk {t t' : Th} (n : FenceNotes t t') : t'.hbOk = t.hbOk := by
  obtain ⟨_, _, _, _, _, _, rfl⟩ := n; rfl

/-- A part of a reaction taken on a condition. -/
theorem FenceNotes.ite {c : Prop} [Decidable c] {t : Th} {x y : Half} (hx : FenceNotes t x.th) (hy : FenceNotes t y.th) :
    FenceNotes t (if c then x else y).th := by
  split
  · exact hx
  · exact hy

theorem fenceNotes_enterFenced (cx : Cx) (h : Half) : FenceNotes h.th (enterFenced cx h).th := by
  unfold enterFenced
  dsimp only
  split <;> exact ⟨_, _, _, _, _, _, rfl⟩

theorem fenceNotes_handoverCore (cx : Cx) (h : Half) : FenceNotes h.th (handoverCore cx h).1.th := by
  unfold handoverCore
  split
  · split
    · rw [Half.tether_th]
      exact (fenceNotes_enterFenced cx h).trans ⟨_, _, _, _, _, _, rfl⟩
    · exact .of_eq (stageTrip_th _ _ _ _ _)
  · exact fenceNotes_enterFenced cx h
  · exact fenceNotes_enterFenced cx h
  · exact .refl _

theorem fenceNotes_askFence (cx : Cx) (h : Half) : FenceNotes h.th (askFence cx h).th := ⟨_, _, _, _, _, _, rfl⟩

theorem fenceNotes_raiseNoHandover (cx : Cx) (h : Half) : FenceNotes h.th (raiseNoHandover cx h).th := by
  have counted : (reactStages cx 0xFE (h.sev 0xFE) [] (countRaise 0xFE h)).th = h.th := by simp
  unfold raiseNoHandover
  rw [record_th]
  exact (FenceNotes.of_eq counted).trans (.ite (fenceNotes_handoverCore _ _) (.refl _))

theorem fenceNotes_handover (cx : Cx) (h : Half) : FenceNotes h.th (handover cx h).th :=
  (fenceNotes_handoverCore cx h).trans (.ite (fenceNotes_raiseNoHandover _ _) (.refl _))

theorem fenceNotes_reactUnit (cx : Cx) (u : FUnit) (b : Bool) (h : Half) : FenceNotes h.th (reactUnit cx u b h).th := by
  unfold reactUnit
  split
  · exact .ite (fenceNotes_handover _ _) (fenceNotes_askFence _ _)
  · exact .of_eq (fenceUnit_th _ _ _ _)

theorem fenceNotes_raiseOne (cx : Cx) (s arg : Nat) (v : Word) (h : Half) :
    FenceNotes h.th (raiseOne cx s arg v h).th := by
  have counted (u : FUnit) (b : Bool) : (noteRaise cx.me cx.now u b (countRaise s h)).th = h.th := by simp
  unfold raiseOne
  rw [record_th, reactStages_th]
  exact ((FenceNotes.of_eq (counted _ _)).trans (.ite (fenceNotes_reactUnit _ _ _ _) (.refl _))).trans
    (.ite (fenceNotes_handover _ _) (.refl _))

theorem fenceNotes_reportDrops (cx : Cx) (h : Half) : FenceNotes h.th (reportDrops cx h).th :=
  .ite (.refl _) (fenceNotes_raiseOne cx 0xFD 0 _ (h.modSd _))

/-- A raise changes nothing of what this half knows of the other one. -/
theorem fenceNotes_raise (cx : Cx) (s arg : Nat) (v : Word) (h : Half) : FenceNotes h.th (raise cx s arg v h).th :=
  (fenceNotes_raiseOne cx s arg v h).trans (fenceNotes_reportDrops _ _)

/-- A raise neither loses the other half's heartbeat nor finds it. -/
@[simp] theorem raise_hbOk (cx : Cx) (s arg : Nat) (v : Word) (h : Half) : (raise cx s arg v h).th.hbOk = h.th.hbOk :=
  (fenceNotes_raise cx s arg v h).hbOk

/-- The standing conditions leave the other half's heartbeat as they find it. -/
@[simp] theorem settle_hbOk (cx : Cx) (h : Half) : (settle cx h).th.hbOk = h.th.hbOk := by
  obtain ⟨_, _, ht⟩ := settle_th cx h
  rw [ht]

/-! ### The loss of the heartbeat (R290, R307) -/

/-- Once 3 µs have passed the heartbeat is lost, whatever the half then does about it. -/
theorem heartbeatLostF_hbOk_of_due {cx : Cx} {h : Half} (hdev : h.glb.dev ≠ .lullOnly) (hok : h.th.hbOk = true)
    (due : h.th.hbAt + tUs 3 ≤ cx.now) : (heartbeatLostF cx h).th.hbOk = false := by
  unfold heartbeatLostF
  rw [gate_pos (by simp [hdev, hok, due])]
  dsimp only
  split
  case isTrue active =>
    split
    · split
      · rfl
      · simp
    · rfl
  case isFalse passive => split <;> rfl

/-- Before 3 µs have passed nothing happens. -/
theorem heartbeatLostF_of_early {cx : Cx} {h : Half} (early : cx.now < h.th.hbAt + tUs 3) : heartbeatLostF cx h = h :=
  gate_neg (by simp [early])

/-- Settles O59: `heartbeatLostF` loses the heartbeat when it is due and is the identity before, and the standing
conditions leave the heartbeat as they find it. -/
theorem heartbeatsAreLostAfterThreeMicroseconds : Obligations.HeartbeatsAreLostAfterThreeMicroseconds := by
  intro s e hrun hdev hok
  refine does_of (e := e) (f := heartbeatLostF) rfl rfl hrun ?_
  rw [settle_hbOk]
  by_cases early : max s.time e.time < (s.at e).th.hbAt + tUs 3
  · rw [heartbeatLostF_of_early early, hok, decide_eq_true early]
  · rw [heartbeatLostF_hbOk_of_due hdev hok (Nat.le_of_not_lt early), decide_eq_false early]

end Sys2Proof.Machine
end

section
/-! SUPPORT. The core supply's table (R446 to R448): what a change of target does in a half that may move at once and in an
ACTIVE one, and what a write to a PWR_VTAB entry comes to. -/
namespace Sys2Proof.Machine

/-! ### What the controller reads of its registers -/

theorem vtab_ne_vcfg (i : Fin 4) : RG.PWR_VTAB i ≠ RG.PWR_VCFG := by
  unfold RG.PWR_VTAB RG.PWR_VCFG; omega

/-- A number that fits a field at bit 0 reads back from it. -/
theorem wbits_ofNat_of_lt {n hi : Nat} (h32 : hi < 32) (fits : n < 2 ^ (hi + 1)) :
    wbits (BitVec.ofNat 32 n) hi 0 = n := by
  have word : n < 2 ^ 32 := fits.trans_le (Nat.pow_le_pow_right (by decide) h32)
  rw [wbits, BitVec.toNat_ofNat, Nat.mod_eq_of_lt word, pow_zero, Nat.div_one, Nat.sub_zero, Nat.mod_eq_of_lt fits]

section
variable (h : Half) (v : Word) {o : Nat}

/-- The index in force depends on no register but PWR_VCFG. -/
theorem vIndex_put (ho : o ≠ RG.PWR_VCFG) : vIndex (h.put o v) = vIndex h := by
  unfold vIndex Half.getF
  rw [Half.reg_put_other _ _ _ _ ho.symm, Half.put_pw]

/-- Nor does the setpoint of an instant. -/
theorem setNow_put (now : Nat) (ho : o ≠ RG.PWR_VCFG) : setNow now (h.put o v) = setNow now h := by
  unfold setNow slewRate Half.getF
  rw [Half.reg_put_other _ _ _ _ ho.symm, Half.put_pw]

end

/-- The values that an entry of the table takes, in mV. -/
def VtabTakes (mv : Nat) : Prop := 650 ≤ mv ∧ mv ≤ 900 ∧ mv % 5 = 0

/-- The target, in quarters of a millivolt, of a half whose entry in force has taken a value. -/
theorem vTarget_put_vtab {h : Half} {i : Fin 4} {mv : Nat} (inForce : vIndex h = i) (taken : VtabTakes mv) :
    vTarget (h.put (RG.PWR_VTAB i) (BitVec.ofNat 32 mv)) = 4 * mv := by
  have fits : mv < 2 ^ 10 := taken.2.1.trans_lt (by decide)
  rw [vTarget, vIndex_put _ _ (vtab_ne_vcfg i), inForce, Half.getF, Half.reg_put_same,
    wbits_ofNat_of_lt (by decide) fits]

/-! ### A change of target (R446, R447) -/

/-- A change of target touches no register. -/
@[simp] theorem retarget_reg (now : Nat) (h : Half) (o : Nat) : (retarget now h).reg o = h.reg o := by
  obtain ⟨p, e⟩ := retarget_eq now h; rw [e]; rfl

@[simp] theorem retarget_glb (now : Nat) (h : Half) : (retarget now h).glb = h.glb := by
  obtain ⟨p, e⟩ := retarget_eq now h; rw [e]

/-- A half that is up and not ACTIVE starts its slew from the setpoint of the instant. -/
theorem retarget_pw_of_free {now : Nat} {h : Half} (up : domUp h 0 = true) (free : h.glb.role ≠ .active) :
    (retarget now h).pw = { h.pw with
      set := setNow now h, setAt := now, target := vTarget h, slewing := setNow now h != vTarget h, pend := false } := by
  unfold domUp at up
  unfold retarget
  rw [up, Bool.not_true, if_neg Bool.false_ne_true, if_neg free]

/-- An ACTIVE half that is up keeps its supply as it is, and notes whether a change waits. -/
theorem retarget_pw_of_active {now : Nat} {h : Half} (up : domUp h 0 = true) (active : h.glb.role = .active) :
    (retarget now h).pw = { h.pw with pend := vTarget h != h.pw.target } := by
  unfold domUp at up
  unfold retarget
  rw [up, Bool.not_true, if_neg Bool.false_ne_true, if_pos active]

/-- In an ACTIVE half that stays in service a change of target goes on waiting. -/
theorem settle_pw_of_active (cx : Cx) {h : Half} (active : h.glb.role = .active) (serves : h.glb.dev.inService = true) :
    (settle cx h).pw = h.pw := by
  obtain ⟨m, o, e⟩ := settleTrig_eq cx h
  have stays : settleRole (settleDev { h with me := m, out := o }) h.glb.role = .active := by
    rw [settleRole, settleDev_inService, if_pos serves, active]
  unfold settle
  rw [e]
  simp [stays]

/-! ### A write to the table (R448) -/

/-- A value that is not taken sets PWR_STATUS.CFG_ERR, and that is all. -/
theorem pwrVtabF_of_refused {i : Nat} {v : Word} {h : Half} (cx : Cx) (hdev : h.glb.dev ≠ .lullOnly)
    (refused : ¬ VtabTakes (wbits v 9 0)) : pwrVtabF i v cx h = h.setW1c cx.now RG.PWR_STATUS 20 := by
  rw [pwrVtabF, gate_pos (by simpa using hdev)]
  exact if_neg refused

section
variable {i : Fin 4} {v : Word} {h : Half} (cx : Cx) (hdev : h.glb.dev ≠ .lullOnly) (taken : VtabTakes (wbits v 9 0))
  (inForce : vIndex h = i)
include hdev taken inForce

/-- A value that is taken for the entry in force is stored, and is a change of target. -/
theorem pwrVtabF_of_inForce :
    pwrVtabF i v cx h = retarget cx.now (h.put (RG.PWR_VTAB i) (BitVec.ofNat 32 (wbits v 9 0))) := by
  rw [pwrVtabF, gate_pos (by simpa using hdev)]
  exact (if_pos taken).trans (if_pos ((vIndex_put _ _ (vtab_ne_vcfg i)).trans inForce))

/-- A half that is up and not ACTIVE slews to the stored value. -/
theorem pwrVtabF_pw_of_free (up : domUp h 0 = true) (free : h.glb.role ≠ .active) :
    (pwrVtabF i v cx h).pw = { h.pw with
      set := setNow cx.now h, setAt := cx.now, target := 4 * wbits v 9 0
      slewing := setNow cx.now h != 4 * wbits v 9 0, pend := false } := by
  rw [pwrVtabF_of_inForce cx hdev taken inForce, retarget_pw_of_free (by exact up) (by exact free),
    vTarget_put_vtab inForce taken, setNow_put _ _ _ (vtab_ne_vcfg i)]
  rfl

/-- In an ACTIVE half that is up the change of target waits. -/
theorem pwrVtabF_pw_of_active (up : domUp h 0 = true) (active : h.glb.role = .active) :
    (pwrVtabF i v cx h).pw = { h.pw with pend := 4 * wbits v 9 0 != h.pw.target } := by
  rw [pwrVtabF_of_inForce cx hdev taken inForce, retarget_pw_of_active (by exact up) (by exact active),
    vTarget_put_vtab inForce taken]
  rfl

end

/-- Settles O58: a refused write is the one W1C bit by `pwrVtabF_of_refused`; a write that is taken for the entry in force
is a change of target by `pwrVtabF_of_inForce`, which is made at once or waits as the role has it, and the standing
conditions leave the supply so. -/
theorem theSupplyTableTakesItsRange : Obligations.TheSupplyTableTakesItsRange := by
  intro s e i v hrun hdev
  refine ⟨fun refused => ?_, fun taken inForce => ?_⟩
  · refine does_of (e := e) (f := pwrVtabF i v) rfl rfl hrun ?_
    rw [pwrVtabF_of_refused _ hdev refused]
    refine ⟨?_, ?_, ?_⟩
    · rw [Half.getF, settle_reg, Half.reg_setW1c_same]
      exact wbits_wset_bit _ _ (by decide)
    · exact (onlyRegs_setW1c _ _ _ (.refl _ _) (by simp)).trans (.of_regs (settle_regs _ _))
    · exact framed_settle _ _ _ _ (kept_setW1c _ _ _ (.refl _ _) (by simp) (by simp)) fun _ ht => ht
  · refine does_of (e := e) (f := pwrVtabF i v) rfl rfl hrun ?_
    have stored := pwrVtabF_of_inForce (s.cx e) hdev taken inForce
    refine ⟨?_, fun up free => ?_, fun up active serves differs => ?_⟩
    · rw [settle_reg, stored, retarget_reg, Half.reg_put_same]
    · have pw := pwrVtabF_pw_of_free (s.cx e) hdev taken inForce up free
      rw [settle_pw _ _ (by rw [pw]), pw]
      exact ⟨rfl, rfl, decide_not.symm⟩
    · have glb : (pwrVtabF i v (s.cx e) (s.at e)).glb = (s.at e).glb := by rw [stored, retarget_glb]; rfl
      rw [settle_pw_of_active _ (by rwa [glb]) (by rwa [glb]),
        pwrVtabF_pw_of_active (s.cx e) hdev taken inForce up active]
      exact ⟨bne_iff_ne.2 differs, rfl⟩

end Sys2Proof.Machine
end

section
/-! SUPPORT. Accesses to a register whose domain is off or whose clock is gated (R365, R437, R527): the read that gets no data,
and the count and the flag that are all such an access changes. -/
namespace Sys2Proof.Machine

/-! ### Which domain an access needs -/

/-- The power registers keep their contents in LULL (R525). -/
theorem regDomain_of_power {o : Nat} (lo : 0x1000 ≤ o) (hi : o < 0x2000) : regDomain o = .lull := by
  rw [regDomain, if_neg (Nat.not_lt.2 lo), if_pos hi]

/-- The power registers are reached through CORE (R319, R527). -/
theorem accDomain_of_power {o : Nat} (lo : 0x1000 ≤ o) (hi : o < 0x2000) : accDomain o = 0 := by
  rw [accDomain, regDomain_of_power lo hi]

/-- Time that passes neither gates a clock nor opens one. -/
@[simp] theorem gated_at (s : State) (e : Evt) (d : Nat) : gated (s.at e) d = gated (s.half e.half) d := by
  simp [gated, domUp, pllOf, State.at]

/-- A register of BAR0 whose domain is off or gated returns no data. -/
theorem read_gated {s : State} {i : HalfId} {x : Access} (aligned : accAligned x = true) (bar : x.bar = 0)
    (mapped : regRow x.offset ≠ none) (off : gated (s.half i) (accDomain x.offset) = true) : s.read i x = none := by
  have key : accKey x = x.offset := by simp [accKey, bar]
  simp [State.read, bar, aligned, key, mapped, off]

/-! ### The count and the flag -/

/-- An access to BAR0 whose domain is off or gated is counted and flagged. -/
theorem domainOffF_eq_offAccess {x : Access} {h : Half} (cx : Cx) (up : coreUp h = true) (bar : x.bar = 0)
    (off : gated h (accDomain x.offset) = true) : domainOffF x cx h = offAccess x cx h :=
  gate_pos (by simp [up, bar, off])

section
variable (x : Access) (cx : Cx) (h : Half)

/-- Such an access changes registers and the notes on accesses, and no other part. -/
theorem kept_offAccess : Kept [.regs, .acc] h (offAccess x cx h) :=
  kept_flagAccess _ _ _ (kept_count _ (.refl _ _) (by simp)) (by simp) (by simp)

/-- Of the registers it changes the count, the flags and the captured address alone. -/
theorem onlyRegs_offAccess :
    OnlyRegs [RG.CLK_CNT_GATE_ERR, RG.GLB_ACC_ERR, RG.GLB_ACC_ADDR] h (offAccess x cx h) := by
  have counted : OnlyRegs [RG.CLK_CNT_GATE_ERR, RG.GLB_ACC_ERR, RG.GLB_ACC_ADDR] h (h.count RG.CLK_CNT_GATE_ERR) :=
    .put h _ (by simp)
  have flagged := onlyRegs_flagAccess 2 x cx (h.count RG.CLK_CNT_GATE_ERR)
  exact counted.trans (flagged.mono fun _ ho => List.mem_cons_of_mem _ ho)

/-- It is counted once: the flag leaves the count alone. -/
theorem counted_offAccess : Counted RG.CLK_CNT_GATE_ERR h (offAccess x cx h) := by
  have uncounted := onlyRegs_flagAccess 2 x cx (h.count RG.CLK_CNT_GATE_ERR) RG.CLK_CNT_GATE_ERR (by decide)
  exact uncounted.trans (Half.reg_count_same h _)

/-- It is flagged as DOMAIN_OFF (R528). -/
theorem getF_offAccess : (offAccess x cx h).getF RG.GLB_ACC_ERR 2 2 = 1 := getF_flagAccess 2 x cx _ (by decide)

end

/-- Settles O57: the read has no data by `read_gated`; the whole effect of the command is one count and one flag, whose
bit, count, parts and registers the laws of `offAccess` give; the power registers need CORE by `accDomain_of_power`. -/
theorem gatedAccessesAreRefused : Obligations.GatedAccessesAreRefused := by
  intro s e x hrun hc aligned bar mapped off
  refine ⟨?_, ?_, fun _ => accDomain_of_power⟩
  · exact read_gated aligned bar mapped (by rwa [← gated_at])
  · refine does_of (e := e) (f := domainOffF x) rfl rfl hrun ?_
    rw [domainOffF_eq_offAccess _ hc bar off]
    refine ⟨?_, ?_, ?_, ?_⟩
    · rw [Half.getF, settle_reg]
      exact getF_offAccess x _ _
    · rw [Counted, settle_reg]
      exact counted_offAccess x _ _
    · have kept := kept_offAccess x (s.cx e) (s.at e)
      have me : (offAccess x (s.cx e) (s.at e)).me = (s.at e).me := kept.part .me (by decide)
      exact framed_settle _ _ _ _ kept fun _ ht => by rwa [me]
    · exact (onlyRegs_offAccess x _ _).trans (.of_regs (settle_regs _ _))

end Sys2Proof.Machine
end
